-- ==== Sys2Proof/Word.lean ====
section
/-! DEFINITION. The word types of the SL1024, its block names (R20, R450) and the shape of a register field (R10, R23). -/

namespace Sys2Proof

/-- 8 bits. -/
abbrev Byte := BitVec 8
/-- 16 bits. -/
abbrev Half := BitVec 16
/-- 32 bits: the width of a register and of a general register. -/
abbrev Word := BitVec 32
/-- A timestamp or another 64-bit value (R5). -/
abbrev Stamp := BitVec 64

/-- A sparse table: key and value pairs, keys strictly rising, no value equal to the table's default. -/
abbrev Store (α : Type) := List (Nat × α)

/-- The blocks that hold registers: those of R20, then the front page and the DMA engines of R450.
A chassis sill is `sill` with instance number 1024 + k; SUP's own sequencer is `seq` 32. -/
inductive Blk where
  | sup | time | mpll | mt | atn | port | sill | seq | se | zone | caldera | ring | flash | link | const
  | host | chassis | fp | dma
  deriving DecidableEq, Repr

/-- Access kinds of a register field ("Register tables" of 00_scope.md). -/
inductive Acc where
  | ro | rw | wo | w1c
  deriving DecidableEq, Repr

/-- Change classes (R23 to R30): live, armed, frozen. -/
inductive Cls where
  | l | a | f
  deriving DecidableEq, Repr

/-- One field of a register table. `cnt` registers stand `stride` bytes apart from `off` on. -/
structure Fld where
  blk : Blk
  off : Nat
  cnt : Nat
  stride : Nat
  lo : Nat
  width : Nat
  acc : Acc
  cls : Cls
  reset : Nat
  deriving DecidableEq, Repr

end Sys2Proof
end

