-- ==== Sys2Proof/Types.lean ====
section
/-! DEFINITION. The types of the commands' operands: what a command of spec/opcode_table.json carries beside numbers. -/

namespace Sys2Proof

/-- A launch entry as it travels to a sill (R105): TIME, TARGET, action code, WIDTH, TAG. -/
structure LaunchItem where
  time : Stamp
  target : Half
  action : BitVec 4
  width : Half
  tag : Half
  deriving DecidableEq, Repr

/-- Who delivers an entry to a sill (R116, R141). -/
inductive EntrySource where
  /-- A LAUNCH or SAMPLE of a sequencer (32 is SUP). -/
  | seq (q : Fin 33)
  /-- The commit of a tracker's slot. -/
  | tracker (n : Fin 8) (slot : Fin 256)
  /-- The gateway of a zone (R259). -/
  | gateway (zone : Fin 64)
  deriving DecidableEq, Repr

/-- Where an attention line delivers an event (R165); sequencer 32 is the supervisor. -/
inductive AtnDest where
  | zone (k : Fin 64)
  | seq (q : Fin 33)
  | engine (e : Fin 16)
  deriving DecidableEq, Repr

/-- Operand b of the Ursen arithmetic (R216): register, 12-bit immediate, 32-bit immediate. -/
inductive UrsenOperand where
  | reg (rb : Fin 32)
  | imm12 (i : BitVec 12)
  | imm32 (i : Word)
  deriving DecidableEq, Repr

/-- The second operand of TADD (R218): stamp register, general register, 32-bit immediate. -/
inductive StampOperand where
  | stamp (tb : Fin 8)
  | reg (g : Fin 32)
  | imm32 (i : Word)
  deriving DecidableEq, Repr

/-- The forms of TSUB (R218): into a stamp register, into a clamped general register, with a 32-bit immediate. -/
inductive TsubForm where
  | stamp (td ta tb : Fin 8)
  | clamp (g : Fin 32) (ta tb : Fin 8)
  | imm32 (td ta : Fin 8) (i : Word)
  deriving DecidableEq, Repr

/-- The forms of TMOV (R218): Td := Ta; Td := Gg:Gk; Gg := a half of Ta. -/
inductive TmovForm where
  | stamp (td ta : Fin 8)
  | join (td : Fin 8) (g k : Fin 32)
  | half (g : Fin 32) (ta : Fin 8) (high : Bool)
  deriving DecidableEq, Repr

/-- The second operand of TCMP (R218). -/
inductive TcmpOperand where
  | stamp (tb : Fin 8)
  | imm32 (i : Word)
  deriving DecidableEq, Repr

/-- A move slot of an engine word (R371): register code, pointer, modify code. -/
inductive SeMove where
  | nop
  | ldH (reg : Fin 64) (ptr : Fin 8) (mod : Fin 4)
  | ldW (reg : Fin 64) (ptr : Fin 8) (mod : Fin 4)
  | ldQ4 (reg : Fin 64) (ptr : Fin 8) (mod : Fin 4)
  | stH (reg : Fin 64) (ptr : Fin 8) (mod : Fin 4)
  | stW (reg : Fin 64) (ptr : Fin 8) (mod : Fin 4)
  | stQ4 (reg : Fin 64) (ptr : Fin 8) (mod : Fin 4)
  deriving DecidableEq, Repr

/-- The address slot of an engine word (R372). -/
inductive SeAddr where
  | nop
  | addm (p q : Fin 8)
  | addi (p : Fin 8) (imm : BitVec 6)
  | rrbd (n : Fin 64)
  deriving DecidableEq, Repr

/-- The count of LOOP (R360, R373): an immediate, where 0 is 512, or a register. -/
inductive SeCount where
  | imm (n : Fin 512)
  | reg (r : Fin 64)
  deriving DecidableEq, Repr

/-- What SESSION frames carry (R472): a command message, its header and attached data, or the completion of a relayed one
with its output. -/
inductive SessionMsg where
  | command (header : BitVec 256) (data : List Byte)
  | answer (completion : BitVec 128) (output : List Byte)
  deriving DecidableEq, Repr

/-- What SEC-DED finds in a word that is read (R328): which error is in the word is the outside's. -/
inductive Ecc where
  | clean
  | corrected
  | uncorrected
  deriving DecidableEq, Repr

/-- How a frame comes in on a link (R420): whole and in order, with a bad CRC, after a gap in LSEQ, or ended with a poisoned
terminate block. -/
inductive FrameSeal where
  | good
  | badCrc
  | gap
  | poisoned
  deriving DecidableEq, Repr

/-- A write of port A to the same word in the same bank cycle (R326): byte enables and data, or none. -/
abbrev Clash := Option (BitVec 16 × BitVec 128)

/-! ### What a personality sets (R250, R254, R255): the outcome of decoding a plane's routing bytes, which R276 calls opaque. -/

/-- Where a stage takes an input from: a stage of the zone, one of the neighbour on a side (0 north, 1 east, 2 south, 3 west)
through an inter-zone channel, or the input buffer of a pin. -/
inductive StageRef where
  | here (n : Nat)
  | beyond (side n : Nat)
  | pin (port pin : Nat)
  deriving DecidableEq, Repr

/-- What feeds an input of a cell: a bit of one of its stage's inputs, or the carry that reaches it (R254). -/
inductive CellPin where
  | bit (input b : Nat)
  | carry
  deriving DecidableEq, Repr

/-- A cell of a stage (R250): its number in the zone, whether it computes two functions of 5 inputs, and its inputs. -/
structure CellSetup where
  cell : Nat
  two : Bool
  pins : List CellPin
  deriving DecidableEq, Repr

/-- A handshake stage (R250, R255): its inputs; the stages that take its token; its cells, from the top of the carry chain down;
the island clock network of clocked-register mode; the value of its latch after a reset; which way a boundary synchroniser crosses
(`out`: to the self-timed side); and what steers a resource: the form of a pocket RAM (0 512 × 36, 1 1,024 × 18, 2 2,048 × 9),
whether a multiplier is signed and accumulates, width and polynomial of the tally's CRC. -/
structure StageSetup where
  ins : List StageRef
  outs : List Nat
  cells : List CellSetup
  net : Option (Fin 2)
  init : Nat
  out : Bool
  form : Nat
  signed : Bool
  accumulate : Bool
  width : Nat
  poly : Nat
  deriving DecidableEq, Repr

/-- What a personality gives a pin through FFAB (R148, R257): the stage and bit of the level, and those of the output enable
(none: always enabled). -/
structure FabPin where
  stage : Nat
  bit : Nat
  enable : Option (Nat × Nat)
  deriving DecidableEq, Repr

/-- What a pocket RAM's port does with a token: the word, and the data of a write. -/
structure RamAccess where
  word : Nat
  data : Option Nat
  deriving DecidableEq, Repr

/-- What the tally block does with a token (R255). -/
inductive TallyOp where
  | up
  | down
  | load (v : BitVec 48)
  | crc (d : BitVec 32)
  deriving DecidableEq, Repr

/-- What causes a warm reset from outside a program's reach (R485); SRST has its item, the watchdog its own command. -/
inductive WarmCause where
  /-- SRST with m = 3, posted by sequencer q. -/
  | srst (q : Fin 33)
  /-- A write of 1 to SUP.RESET.WARM by sequencer q. -/
  | write (q : Fin 33)
  /-- The RESET command with m = 3. -/
  | command
  /-- A fault of SUP (R495). -/
  | supFault
  deriving DecidableEq, Repr

end Sys2Proof
end

