-- ==== Sys2Proof/Syntax.lean ====
section
/-! DEFINITION. The commands of the SL1024: one constructor for each row of spec/opcode_table.json, in the table's order.
`q` is always the sequencer that acts (32 is SUP); `v` the word that a register write carries. -/

namespace Sys2Proof

/-- A command of spec/opcode_table.json: an operation or an event, each whole and indivisible. -/
inductive Instr where
  /-- POWER_GOOD (R482). -/
  | powerGood (cause : Fin 2) (mode : Fin 4) (vctl33 : Bool)
  /-- POWER_ON_RESET (R516). -/
  | powerOnReset (porst : Bool)
  /-- SERDES_SUPPLY_LOSS (R516). -/
  | serdesSupplyLoss (vserh : Bool)
  /-- SUPERVISOR_START (R405). -/
  | supervisorStart (entries : List (BitVec 256))
  /-- POWER_UP_LOAD (R288). -/
  | powerUpLoad
  /-- ZONE_REBUILD (R291). -/
  | zoneRebuild (zone : Fin 64)
  /-- AUDIT_DONE (R293). -/
  | auditDone
  /-- CALDERA_CLEARED (R341). -/
  | calderaCleared
  /-- TPLL_LOCK (R55). -/
  | tpllLock (band : Fin 64)
  /-- BAND_FALLBACK (R55). -/
  | bandFallback (loop : Fin 2)
  /-- COUNTER_START (R33). -/
  | counterStart
  /-- REFERENCE_QUALIFY (R40). -/
  | referenceQualify (ref : Fin 3)
  /-- REFERENCE_LOSS (R40). -/
  | referenceLoss (ref : Fin 3)
  /-- SWITCHOVER (R42). -/
  | switchover (phasePs : Word)
  /-- SHADOW_LOCK (R42). -/
  | shadowLock
  /-- FORCESW (R42). -/
  | forcesw (q : Fin 33) (v : Word)
  /-- SLEW (R49). -/
  | slew (q : Fin 33) (v : Word)
  /-- SLEW_DONE (R49). -/
  | slewDone
  /-- STEPGO (R50). -/
  | stepgo (q : Fin 33) (v : Word)
  /-- PPS_EDGE (R53). -/
  | ppsEdge (t : Stamp)
  /-- PPS_MISSING (R53). -/
  | ppsMissing
  /-- NOW_LO (R37). -/
  | nowLo (q : Fin 33)
  /-- MPLL_EN (R58). -/
  | mpllEn (q : Fin 33) (n : Fin 8) (v : Word)
  /-- SEARCH (R58). -/
  | search (q : Fin 33) (n : Fin 8) (v : Word)
  /-- HOLD (R66). -/
  | hold (q : Fin 33) (n : Fin 8) (v : Word)
  /-- MEASURE_DONE (R58). -/
  | measureDone (n : Fin 8) (fref : Word)
  /-- HOP_DONE (R58). -/
  | hopDone (n : Fin 8)
  /-- SEARCH_DONE (R59). -/
  | searchDone (n : Fin 8) (band : Fin 64)
  /-- LOCK_WINDOW (R63). -/
  | lockWindow (n : Fin 8) (refCount fbCount : Nat)
  /-- REBAND (R62). -/
  | reband (n : Fin 8) (up : Bool)
  /-- RATE_GUARD_SWALLOW (R64). -/
  | rateGuardSwallow (n : Fin 8) (starts : Bool)
  /-- HELD_EXIT (R66). -/
  | heldExit (n : Fin 8) (covers : Bool)
  /-- ENCODER_EDGE (R72). -/
  | encoderEdge (n : Fin 8) (line : Fin 3) (rise : Bool) (t : Stamp)
  /-- COUNT_EDGE (R74). -/
  | countEdge (n : Fin 8)
  /-- INDEX_EDGE (R73). -/
  | indexEdge (n : Fin 8)
  /-- LAUNCHP_ARRIVAL (R81). -/
  | launchpArrival (q : Fin 33) (n : Fin 8) (x : Stamp) (dir : Fin 3) (action : Fin 8) (ch : Fin 1024) (width tag : Half)
  /-- TRACKER_CANCEL (R84). -/
  | trackerCancel (q : Fin 33) (n : Fin 8) (ch : Fin 1024) (tag : Half) (all : Bool)
  /-- TRACKER_AMEND (R228). -/
  | trackerAmend (q : Fin 33) (n : Fin 8) (ch : Fin 1024) (tag : Half) (x : Stamp)
  /-- HORIZON_BACKSTOP (R87). -/
  | horizonBackstop (n : Fin 8) (slot : Fin 256)
  /-- COMMIT_RETRY (R88). -/
  | commitRetry (n : Fin 8) (slot : Fin 256)
  /-- WINDOW_CLOSE (R90). -/
  | windowClose (n : Fin 8) (slot : Fin 256)
  /-- DROPOUT (R95). -/
  | dropout (n : Fin 8)
  /-- COAST_AMEND (R96). -/
  | coastAmend (n : Fin 8)
  /-- COAST_LIMIT (R98). -/
  | coastLimit (n : Fin 8)
  /-- STANDSTILL (R100). -/
  | standstill (n : Fin 8)
  /-- TRACKER_EN (R101). -/
  | trackerEn (q : Fin 33) (n : Fin 8) (v : Word)
  /-- POS_LO (R78). -/
  | posLo (q : Fin 33) (n : Fin 8)
  /-- POSITION_COMPARATOR (R191). -/
  | positionComparator (q : Fin 33)
  /-- ENTRY_ARRIVAL (R115). -/
  | entryArrival (src : EntrySource) (e : LaunchItem)
  /-- FIXING (R115). -/
  | fixing (sill : Fin 1036)
  /-- LAUNCH_INSTANT (R106). -/
  | launchInstant (sill : Fin 1036)
  /-- TRAILING_EDGE (R106). -/
  | trailingEdge (sill : Fin 1036)
  /-- SILL_AMEND (R117). -/
  | sillAmend (q : Fin 33) (target : Half) (tag : Half) (t : Stamp)
  /-- SILL_CANCEL (R118). -/
  | sillCancel (q : Fin 33) (target : Half) (tag : Half) (all : Bool)
  /-- LANE_AMENDMENT (R119). -/
  | laneAmendment (n : Fin 8) (slot : Fin 256)
  /-- LANE_CANCELLATION (R119). -/
  | laneCancellation (n : Fin 8) (slot : Fin 256)
  /-- CAPT_ARRIVAL (R230). -/
  | captArrival (q : Fin 33) (target : Half) (e : Fin 4)
  /-- CAPTURE (R121). -/
  | capture (sill : Fin 1036) (rise : Bool) (t : Stamp)
  /-- RECORD_TO_RING (R132). -/
  | recordToRing (sill : Fin 1036)
  /-- STREAM_ENTRY (R133). -/
  | streamEntry (lane : Fin 33) (ring : Fin 1024) (ecc : Ecc)
  /-- CONVERSION_DONE (R161). -/
  | conversionDone (sill : Fin 1036) (code : BitVec 12)
  /-- SILL_EN (R110). -/
  | sillEn (q : Fin 33) (sill : Fin 1036) (v : Word)
  /-- CLRCNT (R143). -/
  | clrcnt (q : Fin 33) (sill : Fin 1036) (v : Word)
  /-- CANCELALL (R118). -/
  | cancelall (q : Fin 33) (sill : Fin 1036) (v : Word)
  /-- CAPT_LO (R143). -/
  | captLo (q : Fin 33) (sill : Fin 1036)
  /-- NEXT_LO (R143). -/
  | nextLo (q : Fin 33) (sill : Fin 1036)
  /-- VIOCODE_CHANGE (R146). -/
  | viocodeChange (port : Fin 32) (code : Fin 7)
  /-- PORT_SET (R150). -/
  | portSet (q : Fin 33) (port : Fin 32) (mask : Word)
  /-- PORT_CLR (R150). -/
  | portClr (q : Fin 33) (port : Fin 32) (mask : Word)
  /-- PORT_TGL (R150). -/
  | portTgl (q : Fin 33) (port : Fin 32) (mask : Word)
  /-- HOLD_TICK_END (R157). -/
  | holdTickEnd (port : Fin 32) (pin : Fin 32)
  /-- CAPTURE_RESUME (R158). -/
  | captureResume (port : Fin 32) (pin : Fin 32)
  /-- CONV_EN (R163). -/
  | convEn (q : Fin 33) (port : Fin 32) (v : Word)
  /-- CONVREADY (R163). -/
  | convready (port : Fin 32)
  /-- SAFESET (R169). -/
  | safeset (q : Fin 33) (port : Fin 32) (mask : Word)
  /-- SAFECLR (R169). -/
  | safeclr (q : Fin 33) (port : Fin 32) (mask : Word)
  /-- LOCK (R170). -/
  | lock (q : Fin 33) (port : Fin 32) (v : Word)
  /-- LOCKMASK (R170). -/
  | lockmask (q : Fin 33) (port : Fin 32) (v : Word)
  /-- LOCK_TIMEOUT (R170). -/
  | lockTimeout (q : Fin 33) (port : Fin 32)
  /-- ATN_EVENT (R164). -/
  | atnEvent (line : Fin 32) (rise : Bool) (t : Stamp)
  /-- ATN_DELIVERY (R165). -/
  | atnDelivery (line : Fin 32) (target : AtnDest)
  /-- ATN_EN (R167). -/
  | atnEn (q : Fin 33) (line : Fin 32) (v : Word)
  /-- TS_LO (R164). -/
  | tsLo (q : Fin 33) (line : Fin 32)
  /-- ADD (R216). -/
  | add (q : Fin 33) (rd ra : Fin 32) (b : UrsenOperand)
  /-- SUB (R216). -/
  | sub (q : Fin 33) (rd ra : Fin 32) (b : UrsenOperand)
  /-- AND (R216). -/
  | and (q : Fin 33) (rd ra : Fin 32) (b : UrsenOperand)
  /-- OR (R216). -/
  | or (q : Fin 33) (rd ra : Fin 32) (b : UrsenOperand)
  /-- XOR (R216). -/
  | xor (q : Fin 33) (rd ra : Fin 32) (b : UrsenOperand)
  /-- SHL (R216). -/
  | shl (q : Fin 33) (rd ra : Fin 32) (b : UrsenOperand)
  /-- SHR (R216). -/
  | shr (q : Fin 33) (rd ra : Fin 32) (b : UrsenOperand)
  /-- SAR (R216). -/
  | sar (q : Fin 33) (rd ra : Fin 32) (b : UrsenOperand)
  /-- MUL (R216). -/
  | mul (q : Fin 33) (rd ra : Fin 32) (b : UrsenOperand)
  /-- MULH (R216). -/
  | mulh (q : Fin 33) (rd ra : Fin 32) (b : UrsenOperand)
  /-- CMP (R216). -/
  | cmp (q : Fin 33) (ra : Fin 32) (b : UrsenOperand)
  /-- MOV (R216). -/
  | mov (q : Fin 33) (rd : Fin 32) (b : UrsenOperand)
  /-- MOVI (R217). -/
  | movi (q : Fin 33) (rd : Fin 32) (imm : Half)
  /-- MOVHI (R217). -/
  | movhi (q : Fin 33) (rd : Fin 32) (imm : Half)
  /-- TADD (R218). -/
  | tadd (q : Fin 33) (td ta : Fin 8) (b : StampOperand)
  /-- TSUB (R218). -/
  | tsub (q : Fin 33) (f : TsubForm)
  /-- TMOV (R218). -/
  | tmov (q : Fin 33) (f : TmovForm)
  /-- TCMP (R218). -/
  | tcmp (q : Fin 33) (ta : Fin 8) (b : TcmpOperand)
  /-- TNOW (R186). -/
  | tnow (q : Fin 33) (td : Fin 8)
  /-- TPOS (R186). -/
  | tpos (q : Fin 33) (td : Fin 8) (mt : Fin 8)
  /-- LDW (R220). -/
  | ldw (q : Fin 33) (r gb : Fin 32) (off : Half)
  /-- LDH (R220). -/
  | ldh (q : Fin 33) (r gb : Fin 32) (off : Half)
  /-- LDB (R220). -/
  | ldb (q : Fin 33) (r gb : Fin 32) (off : Half)
  /-- STW (R220). -/
  | stw (q : Fin 33) (r gb : Fin 32) (off : Half)
  /-- STH (R220). -/
  | sth (q : Fin 33) (r gb : Fin 32) (off : Half)
  /-- STB (R220). -/
  | stb (q : Fin 33) (r gb : Fin 32) (off : Half)
  /-- LDT (R220). -/
  | ldt (q : Fin 33) (t : Fin 8) (gb : Fin 32) (off : Half)
  /-- STT (R220). -/
  | stt (q : Fin 33) (t : Fin 8) (gb : Fin 32) (off : Half)
  /-- ILLEGAL_INSTRUCTION (R210). -/
  | illegalInstruction (q : Fin 33) (word : Word)
  /-- LDC (R221). -/
  | ldc (q : Fin 33) (r ga : Fin 32) (item : Bool) (imm : Word) (ecc : Ecc)
  /-- STC (R221). -/
  | stc (q : Fin 33) (r ga : Fin 32) (item : Bool) (imm : Word) (clash : Clash)
  /-- BR (R223). -/
  | br (q : Fin 33) (cond : Fin 15) (off : Half)
  /-- JMP (R223). -/
  | jmp (q : Fin 33) (ga : Fin 32) (off : Half)
  /-- CALL (R223). -/
  | call (q : Fin 33) (ga : Fin 32) (off : Half)
  /-- RET (R223). -/
  | ret (q : Fin 33)
  /-- HALT (R223). -/
  | halt (q : Fin 33)
  /-- YIELD (R223). -/
  | yield (q : Fin 33)
  /-- WAITT (R190). -/
  | waitt (q : Fin 33) (gd : Fin 32) (ta : Fin 8)
  /-- WAITP (R190). -/
  | waitp (q : Fin 33) (gd : Fin 32) (ta : Fin 8) (mt : Fin 8) (dir : Fin 3)
  /-- WAITE (R190). -/
  | waite (q : Fin 33) (gd : Fin 32) (mask : Half)
  /-- WAITS (R190). -/
  | waits (q : Fin 33) (gd gm : Fin 32)
  /-- RWAIT (R190). -/
  | rwait (q : Fin 33) (gd : Fin 32) (port : Fin 4)
  /-- WAIT_END (R190). -/
  | waitEnd (q : Fin 33)
  /-- WAIT_TIMEOUT (R193). -/
  | waitTimeout (q : Fin 33)
  /-- VECTOR_ENTRY (R195). -/
  | vectorEntry (q : Fin 33)
  /-- RPOP (R200). -/
  | rpop (q : Fin 33) (gm : Fin 32) (port : Fin 4)
  /-- RPUSH (R200). -/
  | rpush (q : Fin 33) (gm : Fin 32) (port : Fin 4)
  /-- PREFETCH_REFILL (R200). -/
  | prefetchRefill (q : Fin 33) (port : Fin 4) (ecc : Ecc)
  /-- WRITE_BUFFER_DRAIN (R200). -/
  | writeBufferDrain (q : Fin 33) (port : Fin 4)
  /-- LAUNCH (R226). -/
  | launch (q : Fin 33) (ta : Fin 8) (action : Fin 8) (chassis : Bool) (gc gv : Fin 32)
  /-- LAUNCHP (R227). -/
  | launchp (q : Fin 33) (ta : Fin 8) (action : Fin 8) (dir : Fin 3) (mt : Fin 8) (gc gv : Fin 32)
  /-- AMEND_TIME (R228). -/
  | amendTime (q : Fin 33) (ta : Fin 8) (chassis : Bool) (gc gv : Fin 32)
  /-- AMEND_POSITION (R228). -/
  | amendPosition (q : Fin 33) (ta : Fin 8) (mt : Fin 8) (gc gv : Fin 32)
  /-- CANCEL (R229). -/
  | cancel (q : Fin 33) (all chassis : Bool) (gc gv : Fin 32)
  /-- CAPT (R230). -/
  | capt (q : Fin 33) (e : Fin 4) (chassis : Bool) (gc : Fin 32)
  /-- PSET (R233). -/
  | pset (q : Fin 33) (gm : Fin 32) (port : Fin 32)
  /-- PCLR (R233). -/
  | pclr (q : Fin 33) (gm : Fin 32) (port : Fin 32)
  /-- PTGL (R233). -/
  | ptgl (q : Fin 33) (gm : Fin 32) (port : Fin 32)
  /-- PFUNC (R234). -/
  | pfunc (q : Fin 33) (ta : Fin 8) (na : Bool) (pin : Fin 32) (port : Fin 32) (gf : Fin 32)
  /-- SAMPLE (R231). -/
  | sample (q : Fin 33) (ta : Fin 8) (gc gv : Fin 32)
  /-- CFGR (R235). -/
  | cfgr (q : Fin 33) (r ga : Fin 32) (imm : Word)
  /-- CFGW (R235). -/
  | cfgw (q : Fin 33) (r ga : Fin 32) (imm : Word)
  /-- CFGA (R235). -/
  | cfga (q : Fin 33) (ta : Fin 8) (ga : Fin 32) (imm : Word)
  /-- REGISTER_WRITE (R30). -/
  | registerWrite (q : Fin 33) (addr v : Word)
  /-- CFGA_ARRIVAL (R27). -/
  | cfgaArrival (q : Fin 33) (addr : Word) (t : Stamp)
  /-- ARM (R25). -/
  | arm (addr : Word)
  /-- ZSWAP (R236). -/
  | zswap (q : Fin 33) (ta : Fin 8) (x : Bool) (gh gl : Fin 32)
  /-- ZLOAD (R237). -/
  | zload (q : Fin 33) (ga : Fin 32) (imm : Word)
  /-- SIG (R238). -/
  | sig (q : Fin 33) (tgt : Fin 33) (bit : Fin 32)
  /-- SIGNAL_ARRIVAL (R197). -/
  | signalArrival (q : Fin 33) (tgt : Fin 33) (bit : Fin 32)
  /-- XLAUNCH (R240). -/
  | xlaunch (q : Fin 33) (ta : Fin 8) (action : Fin 8) (chassis : Bool) (gc gv : Fin 32)
  /-- XSIG (R241). -/
  | xsig (q : Fin 33) (gc : Fin 32) (tgt : Fin 33) (bit : Fin 32)
  /-- BARRIER (R242). -/
  | barrier (q : Fin 33) (gd : Fin 32) (k : Fin 16)
  /-- XTIME (R243). -/
  | xtime (q : Fin 33) (td : Fin 8) (gs gd : Fin 32)
  /-- OWN (R245). -/
  | own (q : Fin 33) (gs ga : Fin 32) (imm : Word)
  /-- SEQUENCER_RESET (R204). -/
  | sequencerReset (q : Fin 33) (addr : Word)
  /-- ENGINE_RESET (R381). -/
  | engineReset (q : Fin 33) (addr : Word)
  /-- ZONE_RESET (R269). -/
  | zoneReset (q : Fin 33) (addr : Word)
  /-- ZONE_RESET_END (R269). -/
  | zoneResetEnd (zone : Fin 64)
  /-- WARM_RESET (R485). -/
  | warmReset (cause : WarmCause)
  /-- WARM_RESET_EFFECT (R486). -/
  | warmResetEffect
  /-- ERRPOP (R247). -/
  | errpop (q : Fin 33) (g : Fin 32)
  /-- SAFE (R248). -/
  | safe (q : Fin 33)
  /-- NOTE (R248). -/
  | note (q : Fin 33) (g : Fin 32)
  /-- KICK (R248). -/
  | kick (q : Fin 33)
  /-- WATCHDOG_EXPIRY (R498). -/
  | watchdogExpiry
  /-- SEQ_WATCHDOG (R203). -/
  | seqWatchdog (q : Fin 33)
  /-- AUTOMATIC_RESTART (R184). -/
  | automaticRestart (q : Fin 33)
  /-- ALARM_LO (R196). -/
  | alarmLo (q : Fin 33) (tgt : Fin 33) (v : Word)
  /-- ALARM (R196). -/
  | alarm (q : Fin 33)
  /-- WPEND (R194). -/
  | wpend (q : Fin 33) (tgt : Fin 33) (v : Word)
  /-- STREAM_BIND (R199). -/
  | streamBind (q : Fin 33) (tgt : Fin 33) (port : Fin 4) (v : Word)
  /-- SEQ_CTRL_START (R182). -/
  | seqCtrlStart (q : Fin 33) (tgt : Fin 33) (v : Word)
  /-- SEQ_CTRL_RESUME (R182). -/
  | seqCtrlResume (q : Fin 33) (tgt : Fin 33) (v : Word)
  /-- SEQ_CTRL_HALT (R182). -/
  | seqCtrlHalt (q : Fin 33) (tgt : Fin 33) (v : Word)
  /-- SEQ_CTRL_STEP (R182). -/
  | seqCtrlStep (q : Fin 33) (tgt : Fin 33) (v : Word)
  /-- ENTRY_POST (R259). -/
  | entryPost (zone : Fin 64) (e : LaunchItem)
  /-- GATEWAY_SIGNAL (R259). -/
  | gatewaySignal (zone : Fin 64) (tgt : Fin 33) (bit : Fin 32)
  /-- RING_PUSH (R259). -/
  | ringPush (zone : Fin 64) (ring : Fin 1024) (item : BitVec 128)
  /-- RING_POP (R259). -/
  | ringPop (zone : Fin 64) (ring : Fin 1024)
  /-- TIME_TAP (R259). -/
  | timeTap (zone : Fin 64)
  /-- HANDLER_TAKES_TOKEN (R261). -/
  | handlerTakesToken (zone : Fin 64) (line : Fin 32)
  /-- ATNPEND (R261). -/
  | atnpend (q : Fin 33) (zone : Fin 64) (v : Word)
  /-- ZONE_HOLD (R269). -/
  | zoneHold (q : Fin 33) (zone : Fin 64) (v : Word)
  /-- LOAD_START (R283). -/
  | loadStart (q : Fin 33) (addr : Word)
  /-- ROUTING_FRAME_WRITE (R307). -/
  | routingFrameWrite (ok : Bool)
  /-- ABORT (R286). -/
  | abort (q : Fin 33) (v : Word)
  /-- ZSWAP_ARRIVAL (R302). -/
  | zswapArrival (q : Fin 33) (mask : BitVec 64) (t : Stamp) (x : Bool)
  /-- SWAP (R299). -/
  | swap (zone : Fin 64)
  /-- UNSTAGE (R304). -/
  | unstage (q : Fin 33) (zone : Fin 64) (v : Word)
  /-- SWTIME_LO (R319). -/
  | swtimeLo (q : Fin 33) (zone : Fin 64)
  /-- SIGNATURE_CHECK (R310). -/
  | signatureCheck (zone : Fin 64) (shadow : Bool) (upsets : List (Fin 262144))
  /-- RELOAD (R311). -/
  | reload (q : Fin 33) (zone : Fin 64) (v : Word)
  /-- MASK_RELOAD (R311). -/
  | maskReload (zone : Fin 64)
  /-- SURVEY_WRITING (R315). -/
  | surveyWriting (zone : Fin 64)
  /-- SURVEY_BORROW (R315). -/
  | surveyBorrow
  /-- SURVEY_RESTORE (R315). -/
  | surveyRestore (fault : Option Word)
  /-- SURVEY_YIELD (R317). -/
  | surveyYield
  /-- RING_WRITE (R333). -/
  | ringWrite (agent : BitVec 10) (ring : Fin 1024) (item : BitVec 128)
  /-- RING_READ (R333). -/
  | ringRead (agent : BitVec 10) (ring : Fin 1024) (ecc : Ecc)
  /-- WATERMARK_EVENT (R194). -/
  | watermarkEvent (q : Fin 33) (ring : Fin 1024)
  /-- RING_EN (R329). -/
  | ringEn (q : Fin 33) (ring : Fin 1024) (v : Word)
  /-- WPTR (R336). -/
  | wptr (q : Fin 33) (ring : Fin 1024) (v : Word)
  /-- RPTR (R336). -/
  | rptr (q : Fin 33) (ring : Fin 1024) (v : Word)
  /-- NEWLEN (R338). -/
  | newlen (q : Fin 33) (ring : Fin 1024) (v : Word)
  /-- PWR (R340). -/
  | pwr (q : Fin 33) (v : Word)
  /-- GROUP_WAKE (R340). -/
  | groupWake (group : Fin 8)
  /-- MAC (R348). -/
  | mac (e : Fin 16) (sign : Fin 4) (sc g : Fin 64) (mask : Fin 16) (m1 m2 : SeMove) (ad : SeAddr)
  /-- MSU (R348). -/
  | msu (e : Fin 16) (sign : Fin 4) (sc g : Fin 64) (mask : Fin 16) (m1 m2 : SeMove) (ad : SeAddr)
  /-- MPY (R348). -/
  | mpy (e : Fin 16) (sign : Fin 4) (sc g : Fin 64) (mask : Fin 16) (m1 m2 : SeMove) (ad : SeAddr)
  /-- MACP (R349). -/
  | macp (e : Fin 16) (sign : Fin 4) (sc g : Fin 64) (w : Bool) (mask : Fin 4) (m1 m2 : SeMove) (ad : SeAddr)
  /-- MSUP (R349). -/
  | msup (e : Fin 16) (sign : Fin 4) (sc g : Fin 64) (w : Bool) (mask : Fin 4) (m1 m2 : SeMove) (ad : SeAddr)
  /-- MPYP (R349). -/
  | mpyp (e : Fin 16) (sign : Fin 4) (sc g : Fin 64) (w : Bool) (mask : Fin 4) (m1 m2 : SeMove) (ad : SeAddr)
  /-- SE_ADD (R373). -/
  | seAdd (e : Fin 16) (rd ra rb : Fin 64) (m1 m2 : SeMove) (ad : SeAddr)
  /-- SE_SUB (R373). -/
  | seSub (e : Fin 16) (rd ra rb : Fin 64) (m1 m2 : SeMove) (ad : SeAddr)
  /-- SE_AND (R373). -/
  | seAnd (e : Fin 16) (rd ra rb : Fin 64) (m1 m2 : SeMove) (ad : SeAddr)
  /-- SE_OR (R373). -/
  | seOr (e : Fin 16) (rd ra rb : Fin 64) (m1 m2 : SeMove) (ad : SeAddr)
  /-- SE_XOR (R373). -/
  | seXor (e : Fin 16) (rd ra rb : Fin 64) (m1 m2 : SeMove) (ad : SeAddr)
  /-- SE_SHL (R373). -/
  | seShl (e : Fin 16) (rd ra rb : Fin 64) (m1 m2 : SeMove) (ad : SeAddr)
  /-- SE_SHR (R373). -/
  | seShr (e : Fin 16) (rd ra rb : Fin 64) (m1 m2 : SeMove) (ad : SeAddr)
  /-- SE_SAR (R373). -/
  | seSar (e : Fin 16) (rd ra rb : Fin 64) (m1 m2 : SeMove) (ad : SeAddr)
  /-- SE_CMP (R373). -/
  | seCmp (e : Fin 16) (ra rb : Fin 64) (m1 m2 : SeMove) (ad : SeAddr)
  /-- SE_MOV (R373). -/
  | seMov (e : Fin 16) (rd ra : Fin 64) (m1 m2 : SeMove) (ad : SeAddr)
  /-- SE_MOVI (R373). -/
  | seMovi (e : Fin 16) (rd : Fin 64) (imm : BitVec 12) (m1 m2 : SeMove) (ad : SeAddr)
  /-- NOP (R373). -/
  | nop (e : Fin 16) (m1 m2 : SeMove) (ad : SeAddr)
  /-- ACLR (R373). -/
  | aclr (e : Fin 16) (mask : Fin 16) (m1 m2 : SeMove) (ad : SeAddr)
  /-- AADD (R373). -/
  | aadd (e : Fin 16) (d t : Fin 4) (m1 m2 : SeMove) (ad : SeAddr)
  /-- ANEG (R373). -/
  | aneg (e : Fin 16) (d : Fin 4) (m1 m2 : SeMove) (ad : SeAddr)
  /-- ALD (R373). -/
  | ald (e : Fin 16) (d : Fin 4) (ra : Fin 64) (m1 m2 : SeMove) (ad : SeAddr)
  /-- EXP (R353). -/
  | exp (e : Fin 16) (rd : Fin 64) (t : Fin 4) (m1 m2 : SeMove) (ad : SeAddr)
  /-- NORM (R353). -/
  | norm (e : Fin 16) (t : Fin 4) (ra : Fin 64) (m1 m2 : SeMove) (ad : SeAddr)
  /-- SATA (R373). -/
  | sata (e : Fin 16) (d : Fin 4) (m1 m2 : SeMove) (ad : SeAddr)
  /-- AMOV (R352). -/
  | amov (e : Fin 16) (rd : Fin 64) (t : Fin 4) (h : Bool) (m1 m2 : SeMove) (ad : SeAddr)
  /-- SE_BR (R373). -/
  | seBr (e : Fin 16) (cond : Fin 15) (target : Fin 4096) (m1 m2 : SeMove) (ad : SeAddr)
  /-- SE_CALL (R373). -/
  | seCall (e : Fin 16) (target : Fin 4096) (m1 m2 : SeMove) (ad : SeAddr)
  /-- SE_RET (R373). -/
  | seRet (e : Fin 16) (m1 m2 : SeMove) (ad : SeAddr)
  /-- RTI (R366). -/
  | rti (e : Fin 16) (m1 m2 : SeMove) (ad : SeAddr)
  /-- LOOP (R360). -/
  | loop (e : Fin 16) (rot : Fin 4) (count : SeCount) (len : Fin 64) (m1 m2 : SeMove) (ad : SeAddr)
  /-- ITERATION_END (R360). -/
  | iterationEnd (e : Fin 16)
  /-- IDLE (R368). -/
  | idle (e : Fin 16) (m1 m2 : SeMove) (ad : SeAddr)
  /-- SE_HALT (R373). -/
  | seHalt (e : Fin 16) (m1 m2 : SeMove) (ad : SeAddr)
  /-- MODE (R350). -/
  | mode (e : Fin 16) (pair : Bool) (m1 m2 : SeMove) (ad : SeAddr)
  /-- MOVC (R374). -/
  | movc (e : Fin 16) (fromCtl : Bool) (reg ctl : Fin 64) (m1 m2 : SeMove) (ad : SeAddr)
  /-- SACK (R376). -/
  | sack (e : Fin 16) (port : Fin 4) (n : Fin 1024) (m1 m2 : SeMove) (ad : SeAddr)
  /-- SPUT (R377). -/
  | sput (e : Fin 16) (port : Fin 4) (n : Fin 1024) (m1 m2 : SeMove) (ad : SeAddr)
  /-- ESIG (R373). -/
  | esig (e : Fin 16) (tgt : Fin 33) (bit : Fin 32) (m1 m2 : SeMove) (ad : SeAddr)
  /-- LD_H (R371). -/
  | ldH (e : Fin 16) (second : Bool) (reg : Fin 64) (ptr : Fin 8) (mod : Fin 4) (other : SeMove) (ad : SeAddr)
  /-- LD_W (R371). -/
  | ldW (e : Fin 16) (second : Bool) (reg : Fin 64) (ptr : Fin 8) (mod : Fin 4) (other : SeMove) (ad : SeAddr)
  /-- LD_Q4 (R371). -/
  | ldQ4 (e : Fin 16) (second : Bool) (reg : Fin 64) (ptr : Fin 8) (mod : Fin 4) (other : SeMove) (ad : SeAddr)
  /-- ST_H (R371). -/
  | stH (e : Fin 16) (second : Bool) (reg : Fin 64) (ptr : Fin 8) (mod : Fin 4) (other : SeMove) (ad : SeAddr)
  /-- ST_W (R371). -/
  | stW (e : Fin 16) (second : Bool) (reg : Fin 64) (ptr : Fin 8) (mod : Fin 4) (other : SeMove) (ad : SeAddr)
  /-- ST_Q4 (R371). -/
  | stQ4 (e : Fin 16) (second : Bool) (reg : Fin 64) (ptr : Fin 8) (mod : Fin 4) (other : SeMove) (ad : SeAddr)
  /-- ADDM (R372). -/
  | addm (e : Fin 16) (p q : Fin 8) (m1 m2 : SeMove)
  /-- ADDI (R372). -/
  | addi (e : Fin 16) (p : Fin 8) (imm : BitVec 6) (m1 m2 : SeMove)
  /-- RRBD (R372). -/
  | rrbd (e : Fin 16) (n : Fin 64) (m1 m2 : SeMove)
  /-- LEVEL1_INTERRUPT (R366). -/
  | level1Interrupt (e : Fin 16)
  /-- LEVEL2_INTERRUPT (R367). -/
  | level2Interrupt (e : Fin 16)
  /-- CONSUME_COPY (R376). -/
  | consumeCopy (e : Fin 16) (port : Fin 4) (ecc : Ecc)
  /-- PRODUCE_COPY (R377). -/
  | produceCopy (e : Fin 16) (port : Fin 4)
  /-- ACCESS_SLOT_TAKEN (R355). -/
  | accessSlotTaken (e : Fin 16)
  /-- ENGINE_RESTART (R380). -/
  | engineRestart (e : Fin 16)
  /-- STREAM_PORT_EN (R375). -/
  | streamPortEn (q : Fin 33) (e : Fin 16) (port : Fin 4) (v : Word)
  /-- IRQSET (R365). -/
  | irqset (q : Fin 33) (e : Fin 16) (v : Word)
  /-- SE_ATNPEND (R365). -/
  | seAtnpend (q : Fin 33) (e : Fin 16) (v : Word)
  /-- SE_CTRL_START (R379). -/
  | seCtrlStart (q : Fin 33) (e : Fin 16) (v : Word)
  /-- SE_CTRL_RESUME (R379). -/
  | seCtrlResume (q : Fin 33) (e : Fin 16) (v : Word)
  /-- SE_CTRL_HALT (R379). -/
  | seCtrlHalt (q : Fin 33) (e : Fin 16) (v : Word)
  /-- SE_CTRL_STEP (R379). -/
  | seCtrlStep (q : Fin 33) (e : Fin 16) (v : Word)
  /-- QHEAD (R390). -/
  | qhead (q : Fin 33) (v : Word)
  /-- READ (R392). -/
  | read (desc : BitVec 256) (ok : Bool) (corr uncorr : Half) (first : Word)
  /-- PROGRAM (R392). -/
  | program (desc : BitVec 256) (data : Option (List Byte))
  /-- ERASE (R392). -/
  | erase (desc : BitVec 256)
  /-- SUSPEND (R397). -/
  | suspend (desc : BitVec 256)
  /-- RESUME (R397). -/
  | resume (desc : BitVec 256)
  /-- OTP_PROGRAM (R408). -/
  | otpProgram (desc : BitVec 256)
  /-- SWAP_BOOT (R406). -/
  | swapBoot (desc : BitVec 256)
  /-- SET_PROTECTION (R410). -/
  | setProtection (desc : BitVec 256)
  /-- INVALID_OPERATION (R392). -/
  | invalidOperation (desc : BitVec 256)
  /-- PAGE_PROGRAM_DONE (R394). -/
  | pageProgramDone (bank : Fin 4)
  /-- ERASE_END (R397). -/
  | eraseEnd (bank : Fin 4)
  /-- ERASE_PAUSE (R397). -/
  | erasePause (bank : Fin 4)
  /-- CMD_SUSPEND (R397). -/
  | cmdSuspend (q : Fin 33) (v : Word)
  /-- CMD_RESUME (R397). -/
  | cmdResume (q : Fin 33) (v : Word)
  /-- TRAINING_END (R415). -/
  | trainingEnd (l : Fin 8) (lock rate10 : Bool)
  /-- TRAINING_RETRY (R415). -/
  | trainingRetry (l : Fin 8)
  /-- LINK_DOWN (R417). -/
  | linkDown (l : Fin 8) (cause : Fin 3) (lost : Half)
  /-- REATTACH (R439). -/
  | reattach
  /-- AHOLD_CLEAR (R438). -/
  | aholdClear
  /-- LINK_EN (R442). -/
  | linkEn (q : Fin 33) (l : Fin 8) (v : Word)
  /-- LINK_CLRCNT (R442). -/
  | linkClrcnt (q : Fin 33) (l : Fin 8) (v : Word)
  /-- IDENT (R423). -/
  | ident (l : Fin 8) (uid : BitVec 64) (prio : Byte) (pref : BitVec 16) (peerLink : Fin 8) (phase : Byte)
  /-- CLAIM (R424). -/
  | claim (l : Fin 8) (uid : BitVec 64) (prio : Byte) (est : Bool) (hops : Fin 64) (parentLink : Byte)
  /-- ROOT_ELECTED (R424). -/
  | rootElected
  /-- REPORT (R425). -/
  | report (l : Fin 8) (entries : List (BitVec 64 × BitVec 64 × BitVec 16 × Byte))
  /-- ASSIGN (R425). -/
  | assign (entries : List (BitVec 64 × Fin 512 × Fin 512))
  /-- TSYNC_SEND (R426). -/
  | tsyncSend (l : Fin 8) (t : Stamp)
  /-- TSYNC (R426). -/
  | tsync (l : Fin 8) (seq rxseq flags : Byte) (txprev rxlast t : Stamp)
  /-- ALIGNMENT_WINDOW_END (R427). -/
  | alignmentWindowEnd (fit : Stamp)
  /-- STATE (R431). -/
  | state (phase : Byte) (count : BitVec 16) (diam depth : Byte)
  /-- P6_LOSS (R431). -/
  | p6Loss
  /-- REMOTE_ENTRY (R434). -/
  | remoteEntry (l : Fin 8) (src : Fin 512) (e : LaunchItem)
  /-- REMOTE_SIGNAL (R434). -/
  | remoteSignal (src : Fin 512) (tgt : Fin 33) (bit : Fin 32)
  /-- REMOTE_SWAP_SET (R305). -/
  | remoteSwapSet (src : Fin 512) (mask : BitVec 64) (t : Stamp)
  /-- REFUSAL_NOTE (R435). -/
  | refusalNote (src : Fin 512) (what : Fin 3) (reason : Byte) (zc tag : Half)
  /-- BARRIER_DONE (R436). -/
  | barrierDone (l : Fin 8) (k : Fin 16) (gen : Byte)
  /-- BARRIER_RELEASE (R436). -/
  | barrierRelease (k : Fin 16) (gen : Byte)
  /-- BAR_EN (R436). -/
  | barEn (q : Fin 33) (k : Fin 16) (v : Word)
  /-- STREAM_SEND (R437). -/
  | streamSend (k : Fin 8) (n : Fin 8) (ecc : Ecc)
  /-- DATA (R437). -/
  | data (l : Fin 8) (src : Fin 512) (stream : Fin 8) (ring : Fin 1024) (items : List (BitVec 128))
  /-- CREDIT (R437). -/
  | credit (stream : Fin 8) (n : Half)
  /-- NAK (R420). -/
  | nak (l : Fin 8) (lseq : Byte)
  /-- SESSION_FRAME (R472). -/
  | sessionFrame (src : Fin 512) (m : SessionMsg)
  /-- FRAME_FORWARD (R418). -/
  | frameForward (l : Fin 8) (type : Byte) (flags : Fin 8) (dst src : Fin 512) (hops : Fin 64) (payload : List Byte)
  /-- UNKNOWN_FRAME_TYPE (R419). -/
  | unknownFrameType (l : Fin 8) (type : Byte)
  /-- CONST_EN (R422). -/
  | constEn (q : Fin 33) (v : Word)
  /-- HOPQ (R443). -/
  | hopq (q : Fin 33) (v : Word)
  /-- XSTR_EN (R437). -/
  | xstrEn (q : Fin 33) (k : Fin 8) (v : Word)
  /-- PERST_RISE (R449). -/
  | perstRise
  /-- DATA_LINK_UP (R449). -/
  | dataLinkUp (width speed : Fin 4)
  /-- PERST_ASSERT (R449). -/
  | perstAssert (linkLost : Bool)
  /-- BAR_READ (R448). -/
  | barRead (rid : Half) (bar : Fin 3) (offset : BitVec 26) (len : BitVec 13)
  /-- BAR_WRITE (R448). -/
  | barWrite (rid : Half) (bar : Fin 3) (offset : BitVec 26) (data : List Byte)
  /-- DOORBELL (R451). -/
  | doorbell (rid : Half) (v : Word)
  /-- FLASHDB (R451). -/
  | flashdb (rid : Half) (v : Word)
  /-- QUEUE_EN (R456). -/
  | queueEn (rid : Half) (v : Word) (entries : List (BitVec 256))
  /-- CQTAIL (R456). -/
  | cqtail (rid : Half) (v : Word) (entries : List (BitVec 256))
  /-- FP_NOTE (R479). -/
  | fpNote
  /-- MSIX_UNMASK (R461). -/
  | msixUnmask (vec : Fin 32)
  /-- MSIXRAISE (R461). -/
  | msixraise (q : Fin 33) (v : Word)
  /-- DMA_EN (R457). -/
  | dmaEn (rid : Half) (d : Fin 4) (v : Word)
  /-- DMA_BATCH (R457). -/
  | dmaBatch (d : Fin 4) (n : Half) (items : List (BitVec 128)) (failed : Option (Stamp × Word))
  /-- DMA_COPY_DONE (R458). -/
  | dmaCopyDone (d : Fin 4) (data : List Byte)
  /-- DMA_IRQ_TIMEOUT (R460). -/
  | dmaIrqTimeout (d : Fin 4)
  /-- HRPTR (R457). -/
  | hrptr (rid : Half) (d : Fin 4) (v : Word)
  /-- HWPTR (R457). -/
  | hwptr (rid : Half) (d : Fin 4) (v : Word)
  /-- STATUS (R463). -/
  | status (quad whole : Bool)
  /-- SEND (R463). -/
  | send (quad whole : Bool) (len : Half) (message : List Byte) (crc : Word)
  /-- FETCH (R463). -/
  | fetch (quad whole : Bool)
  /-- REFETCH (R463). -/
  | refetch (quad : Bool)
  /-- RESTATUS (R463). -/
  | restatus (quad : Bool)
  /-- OTHER_COMMAND_BYTE (R463). -/
  | otherCommandByte (b : Byte)
  /-- INFO (R454). -/
  | info (t : Fin 3) (ok : Bool)
  /-- SESSION_OPEN (R467). -/
  | sessionOpen (t : Fin 3) (ok : Bool)
  /-- SESSION_AUTH (R467). -/
  | sessionAuth (t : Fin 3) (mem : Option (List Byte))
  /-- SESSION_CLOSE (R472). -/
  | sessionClose (t : Fin 3)
  /-- WAKE (R454). -/
  | wake (t : Fin 3)
  /-- READ_MEM (R454). -/
  | readMem (t : Fin 3)
  /-- WRITE_MEM (R454). -/
  | writeMem (t : Fin 3)
  /-- SEQ_LOAD (R206). -/
  | seqLoad (t : Fin 3) (mem : Option (List Byte))
  /-- SEQ_CTRL (R454). -/
  | seqCtrl (t : Fin 3)
  /-- SE_LOAD (R383). -/
  | seLoad (t : Fin 3) (mem : Option (List Byte))
  /-- SE_CTRL (R454). -/
  | seCtrl (t : Fin 3)
  /-- GRANT (R454). -/
  | grant (t : Fin 3)
  /-- RESET (R454). -/
  | reset (t : Fin 3)
  /-- IMG_INSTALL (R294). -/
  | imgInstall
  /-- IMG_SELECT (R454). -/
  | imgSelect
  /-- IMG_RELOAD (R454). -/
  | imgReload
  /-- FLASH_DESC (R469). -/
  | flashDesc (mem : Option (List Byte)) (data : Option (List Byte))
  /-- PARAM_WRITE (R454). -/
  | paramWrite
  /-- FW_INSTALL (R454). -/
  | fwInstall
  /-- RELAY (R472). -/
  | relay (t : Fin 3) (mem : Option (List Byte))
  /-- BADCMD (R454). -/
  | badcmd (t : Fin 3)
  /-- IDLE_TIMEOUT (R472). -/
  | idleTimeout (k : Fin 4)
  /-- LOCKOUT_END (R471). -/
  | lockoutEnd (t : Fin 3)
  /-- SYNC_ARM (R476). -/
  | syncArm (q : Fin 33) (v : Word)
  /-- SYNC100_EDGE (R476). -/
  | sync100Edge (t : Stamp) (trig : Bool)
  /-- SYNCTS_LO (R480). -/
  | synctsLo (q : Fin 33)
  /-- CLK10_LOSS (R477). -/
  | clk10Loss (foff : Word)
  /-- SAFE_CLR (R500). -/
  | safeClr (q : Fin 33) (v : Word)
  /-- OWNQADDR (R484). -/
  | ownqaddr (q : Fin 33) (v : Word)
  /-- SUPPLY_OUT_OF_RANGE (R501). -/
  | supplyOutOfRange (supply : Fin 6)
  /-- OVERTEMPERATURE (R501). -/
  | overtemperature (tj : Byte)
  /-- RUN (R503). -/
  | run (q : Fin 33) (v : Word)
  /-- RETAIN (R503). -/
  | retain (q : Fin 33) (v : Word)
  /-- SLEEP (R505). -/
  | sleep (q : Fin 33) (v : Word)
  /-- STANDBY (R507). -/
  | standby (q : Fin 33) (v : Word)
  /-- WAKE_PIN (R172). -/
  | wakePin (port pin : Fin 32) (rise : Bool)
  /-- CHASSIS_WAKE_LINE (R478). -/
  | chassisWakeLine (line : Fin 8) (rise : Bool)
  /-- XTALOK (R55). -/
  | xtalok
  /-- CLK10_QUALIFY (R477). -/
  | clk10Qualify (foff : Word)
  /-- SERDES_SUPPLY_RETURN (R516). -/
  | serdesSupplyReturn (vserh : Bool)
  /-- CPHEAD (R456). -/
  | cphead (rid : Half) (v : Word) (entries : List (BitVec 256))
  /-- SRST (R246). -/
  | srst (q : Fin 33) (m : Fin 4) (ga : Fin 32) (imm : Word)
  /-- ILLEGAL_INSTRUCTION_WORD (R369). -/
  | illegalInstructionWord (e : Fin 16) (w : BitVec 64)
  /-- GROUP_CLEARED (R340). -/
  | groupCleared (group : Fin 8)
  /-- REFLEX_EDGE (R139). -/
  | reflexEdge (port : Fin 32) (pinIn pinOut : Fin 32) (levelIn levelOut : Bool)
  deriving DecidableEq, Repr

end Sys2Proof
end

