-- ==== Sys2Proof/Decode.lean ====
section
/-! DEFINITION. Words of the opcode table. -/

namespace Sys2Proof

/-- The command that a word spells by the bits of spec/opcode_table.json: no row of the table has bits, so no word spells one
(log entry 9). The encodings that the spec gives to Ursen instructions and engine words are read by SEQ_CTRL_STEP and
SE_STEP, where they act. -/
def decodeTableWord (_nbits _w : Nat) : Option Instr := none

end Sys2Proof
end

