-- ==== Sys2Proof/Config.lean ====
section
/-! DEFINITION. The free values: what the spec leaves open while the machine goes on. Nothing can evaluate them. -/

namespace Sys2Proof.Config

/-- The `n`-th free value (log entry 3). A step that needs one reads the state's counter and advances it; the value is
constrained only by the limits the spec sets at the place of its use. -/
opaque freeWord : Nat → BitVec 64

/-- What the outside drives at a channel ball or chassis line (1024 + k) at a tick: the level, or nothing (log entry 104). -/
opaque ball : Nat → Nat → Option Bool

/-- The level that a channel's input shows at a tick while nothing that the spec names sets it (R149; log entry 104). -/
opaque floating : Nat → Nat → Bool

/-- The stage of a number that the routing bytes of a zone's 256 tile frames set up (R276 calls them opaque; log entry 111). -/
opaque stage : List (Nat × Byte) → Nat → Option StageSetup

/-- The carry that a cell with a mask passes on for its inputs, numbered as the mask's bits, and a carry in (R254; log entry 111).
-/
opaque carry : Nat → Nat → Bool → Bool

/-- The tile below a tile in its column (R254); how frames number the tiles of a zone is not stated (log entry 111). -/
opaque tileBelow : Nat → Option Nat

/-- What the routing bytes of an edge zone give a pin of a port (R148, R257; log entry 111). -/
opaque fabPin : List (Nat × Byte) → Nat → Nat → Option FabPin

/-- How a token spells an access of a pocket RAM and an operation of a tally block (log entry 111). -/
opaque ramAccess : Nat → Option RamAccess
opaque tallyOp : Nat → Option TallyOp

/-- The tally's CRC takes the 32 data bits from bit 31 down; if not, from bit 0 up. The order is not stated (R255; log entry 111).
-/
opaque crcHighFirst : Bool

/-- The manufacturer field of the device identification register, which the BSDL file states (R530; log entry 116). -/
opaque tapMaker : BitVec 11

end Sys2Proof.Config
end

