-- ==== Sys2Proof/Machine/Store.lean ====
section
/-! DEFINITION. Sparse tables with one canonical form (MEMORY: addresses strictly rising, nothing listed that an
unlisted key reads as), and little-endian packing (00_scope.md: little-endian everywhere). -/

namespace Sys2Proof.Machine

variable {α : Type}

/-- The value at key `k`; `d` where the table lists none. -/
def storeGet (d : α) : Store α → Nat → α
  | [], _ => d
  | (k', v) :: t, k => if k' = k then v else storeGet d t k

/-- Remove key `k`. -/
def storeErase : Store α → Nat → Store α
  | [], _ => []
  | (k', v) :: t, k => if k' = k then storeErase t k else (k', v) :: storeErase t k

/-- Put `v` at key `k`, in key order, in place of any value there. -/
def storeInsert : Store α → Nat → α → Store α
  | [], k, v => [(k, v)]
  | (k', v') :: t, k, v =>
    if k' = k then (k, v) :: t
    else if k < k' then (k, v) :: (k', v') :: t
    else (k', v') :: storeInsert t k v

/-- Write `v` at key `k` of a table whose unlisted keys read `d`. -/
def storeSet [DecidableEq α] (d : α) (m : Store α) (k : Nat) (v : α) : Store α :=
  if v = d then storeErase m k else storeInsert m k v

/-- Keys strictly rise. -/
def storeSorted : Store α → Bool
  | [] => true
  | [_] => true
  | (k, _) :: (k', v') :: t => decide (k < k') && storeSorted ((k', v') :: t)

/-- The canonical form of a table whose unlisted keys read `d`. -/
def storeWf [DecidableEq α] (d : α) (m : Store α) : Bool :=
  storeSorted m && m.all (fun c => decide (c.2 ≠ d))

/-- The keys a table lists. -/
def storeKeys (m : Store α) : List Nat := m.map Prod.fst

/-- Byte `i` of a number, little-endian. -/
def byteOf (v i : Nat) : Byte := BitVec.ofNat 8 (v / 2 ^ (8 * i))

/-- `n` bytes of a number, little-endian. -/
def leBytes (n v : Nat) : List Byte := (List.range n).map (byteOf v)

/-- The number that bytes spell, little-endian. -/
def leNat : List Byte → Nat
  | [] => 0
  | b :: t => b.toNat + 256 * leNat t

/-- Bits `[lo + w - 1 : lo]` of a number. -/
def bitsOf (v lo w : Nat) : Nat := v / 2 ^ lo % 2 ^ w

/-- Bit `i` of a number. -/
def bitOf (v i : Nat) : Bool := v / 2 ^ i % 2 = 1

/-- `v` with bit `i` set. -/
def withBit (v i : Nat) : Nat := if bitOf v i then v else v + 2 ^ i

/-- `v` with bit `i` clear. -/
def withoutBit (v i : Nat) : Nat := if bitOf v i then v - 2 ^ i else v

/-- A `w`-bit number read as signed. -/
def signedOf (w v : Nat) : Int := if v % 2 ^ w < 2 ^ (w - 1) then (v % 2 ^ w : Nat) else (v % 2 ^ w : Nat) - 2 ^ w

/-- A signed number held in `w` bits. -/
def wrapOf (w : Nat) (x : Int) : Nat := (x % (2 ^ w : Nat)).toNat

/-- `x + k`, at most `2 ^ w - 1` (a saturating counter of `w` bits). -/
def satAdd (w x k : Nat) : Nat := min (x + k) (2 ^ w - 1)

/-- The position of the lowest set bit among the first `n`. -/
def lowestBit (n v : Nat) : Option Nat := (List.range n).find? (bitOf v)

/-- A Bool as 0 or 1. -/
def b2n (b : Bool) : Nat := if b then 1 else 0

end Sys2Proof.Machine
end

