-- ==== Sys2Proof/Machine/Digest.lean ====
section
/-! DEFINITION. Check codes that images, program files, flash records and sessions use: CRC-32C, the CRC-64 of R309,
SHA-256 and HMAC-SHA256. The spec names the first, the third and the fourth; their definitions are the public standards' (log entry 8). -/

namespace Sys2Proof.Machine

/-! ### CRC-32C (reflected, polynomial 0x1EDC6F41, initial value and final XOR all ones) -/

def crc32cBit (c : BitVec 32) : BitVec 32 := if c.getLsbD 0 then (c >>> 1) ^^^ 0x82F63B78 else c >>> 1

def crc32cByte (c : BitVec 32) (b : Byte) : BitVec 32 :=
  let c := c ^^^ b.setWidth 32
  crc32cBit (crc32cBit (crc32cBit (crc32cBit (crc32cBit (crc32cBit (crc32cBit (crc32cBit c)))))))

/-- CRC-32C of bytes. -/
def crc32c (bs : List Byte) : Nat := ((bs.foldl crc32cByte 0xFFFFFFFF) ^^^ 0xFFFFFFFF).toNat

/-! ### CRC-64 of R309 -/

def crc64Bit (c : BitVec 64) : BitVec 64 := if c.msb then (c <<< 1) ^^^ 0x42F0E1EBA9EA3693 else c <<< 1

def crc64Byte (c : BitVec 64) (b : Byte) : BitVec 64 :=
  let c := c ^^^ (b.setWidth 64 <<< 56)
  crc64Bit (crc64Bit (crc64Bit (crc64Bit (crc64Bit (crc64Bit (crc64Bit (crc64Bit c)))))))

/-- The golden signature's CRC-64 (R309): initial value 0, no reflection, no final XOR. -/
def crc64 (bs : List Byte) : Nat := (bs.foldl crc64Byte 0).toNat

/-! ### SHA-256 -/

/-- The 32-bit words of a number, `n` of them, the most significant first. -/
def wordsOf (n v : Nat) : List (BitVec 32) := ((List.range n).map (fun i => BitVec.ofNat 32 (v / 2 ^ (32 * i)))).reverse

/-- The round constants of SHA-256, eight to a number. -/
def shaK : List (BitVec 32) := [
  0x428a2f9871374491b5c0fbcfe9b5dba53956c25b59f111f1923f82a4ab1c5ed5,
  0xd807aa9812835b01243185be550c7dc372be5d7480deb1fe9bdc06a7c19bf174,
  0xe49b69c1efbe47860fc19dc6240ca1cc2de92c6f4a7484aa5cb0a9dc76f988da,
  0x983e5152a831c66db00327c8bf597fc7c6e00bf3d5a7914706ca635114292967,
  0x27b70a852e1b21384d2c6dfc53380d13650a7354766a0abb81c2c92e92722c85,
  0xa2bfe8a1a81a664bc24b8b70c76c51a3d192e819d6990624f40e3585106aa070,
  0x19a4c1161e376c082748774c34b0bcb5391c0cb34ed8aa4a5b9cca4f682e6ff3,
  0x748f82ee78a5636f84c878148cc7020890befffaa4506cebbef9a3f7c67178f2].flatMap (wordsOf 8)

/-- A big-endian word at a byte offset of a message. -/
def wordAt (bs : List Byte) (i : Nat) : BitVec 32 :=
  bs.getD i 0 ++ bs.getD (i + 1) 0 ++ bs.getD (i + 2) 0 ++ bs.getD (i + 3) 0

/-- The exclusive or of a word turned right by each of some distances. -/
def turns (x : BitVec 32) (by_ : List Nat) : BitVec 32 := by_.foldl (fun acc n => acc ^^^ x.rotateRight n) 0

/-- Bit for bit, the first choice where `sel` is 1 and the second where it is 0. -/
def pick (sel one zero : BitVec 32) : BitVec 32 := zero ^^^ (sel &&& (one ^^^ zero))

/-- The working words, `a` first, after one round with the sum of its constant and its message word. -/
def digestRound (v : List (BitVec 32)) (kw : BitVec 32) : List (BitVec 32) :=
  match v with
  | [a, b, c, d, e, f, g, h] =>
    let t := h + kw + pick e f g + turns e [6, 11, 25]
    [t + pick (a ^^^ b) c b + turns a [2, 13, 22], a, b, c, d + t, e, f, g]
  | _ => v

/-- `n` further words of the message schedule, the newest first, on those there are. -/
def extendWords : Nat → List (BitVec 32) → List (BitVec 32)
  | 0, w => w
  | n + 1, w =>
    let low := w.getD 14 0
    let high := w.getD 1 0
    extendWords n
      ((w.getD 15 0 + w.getD 6 0 + (turns low [7, 18] ^^^ low >>> 3) + (turns high [17, 19] ^^^ high >>> 10)) :: w)

/-- The 64 message words of a block of 64 bytes. -/
def blockWords (b : List Byte) : List (BitVec 32) :=
  (extendWords 48 ((List.range 16).map (fun i => wordAt b (60 - 4 * i)))).reverse

/-- The chaining value after a block. -/
def digestBlock (v : List (BitVec 32)) (b : List Byte) : List (BitVec 32) :=
  List.zipWith (· + ·) v ((List.zipWith (· + ·) shaK (blockWords b)).foldl digestRound v)

/-- The first chaining value. -/
def digestStart : List (BitVec 32) :=
  wordsOf 8 0x6a09e667bb67ae853c6ef372a54ff53a510e527f9b05688c1f83d9ab5be0cd19

/-- `n` bytes of a number, big-endian. -/
def beBytes (n v : Nat) : List Byte := (leBytes n v).reverse

/-- SHA-256 of bytes: 32 bytes, in the order in which a DIGEST stores them. -/
def sha256 (bs : List Byte) : List Byte :=
  let blocks := (bs.length + 72) / 64
  let m := bs ++ 0x80 :: List.replicate (64 * blocks - bs.length - 9) 0 ++ beBytes 8 (8 * bs.length)
  let v := (List.range blocks).foldl (fun v k => digestBlock v ((m.drop (64 * k)).take 64)) digestStart
  (v.map (fun x => beBytes 4 x.toNat)).flatten

/-- HMAC-SHA256 with a key of at most 64 bytes. -/
def hmac256 (key msg : List Byte) : List Byte :=
  let padded (x : Byte) := (List.range 64).map (fun i => key.getD i 0 ^^^ x)
  sha256 (padded 0x5C ++ sha256 (padded 0x36 ++ msg))

end Sys2Proof.Machine
end

