-- ==== Sys2Proof/Machine/Registers.lean ====
section
/-! DEFINITION. The register tables of the spec, field by field: R56, R67 (TIME, MPLL), R103 (MT), R143 (SILL),
R174, R175 (PORT, ATN), R207 (SEQ), R271, R319 (ZONE), R296, R320, R509 (SUP), R342, R343 (CALDERA, RING),
R384 (SE), R413 (FLASH), R442, R443 (LINK, CONST), R479, R480 (front page, DMA, HOST, CHASSIS).
`F.<BLOCK>_<REGISTER>_<FIELD>` is one field: block, offset, count and stride of its register, lowest bit,
width, access, class, reset value; `regTable b` lists block `b`'s fields.
A reset value the spec takes from the flash, the fuses, the OTP row or the cause of the reset is 0 here (log entry 5). -/

namespace Sys2Proof.F

def TIME_CTRL_STEPGO : Fld := ⟨.time, 0x0, 1, 0, 31, 1, .wo, .l, 0⟩
def TIME_CTRL_LOCALOFF : Fld := ⟨.time, 0x0, 1, 0, 23, 1, .rw, .l, 0⟩
def TIME_CTRL_REVERT : Fld := ⟨.time, 0x0, 1, 0, 22, 1, .rw, .l, 0⟩
def TIME_CTRL_AUTORET : Fld := ⟨.time, 0x0, 1, 0, 21, 1, .rw, .l, 1⟩
def TIME_CTRL_FORCESW : Fld := ⟨.time, 0x0, 1, 0, 20, 1, .wo, .l, 0⟩
def TIME_CTRL_PULL : Fld := ⟨.time, 0x0, 1, 0, 8, 8, .rw, .l, 10⟩
def TIME_CTRL_SLEWPPM : Fld := ⟨.time, 0x0, 1, 0, 0, 7, .rw, .l, 100⟩
def TIME_STATUS_STEPCNT : Fld := ⟨.time, 0x4, 1, 0, 24, 8, .ro, .l, 0⟩
def TIME_STATUS_XTALOK : Fld := ⟨.time, 0x4, 1, 0, 19, 1, .ro, .l, 0⟩
def TIME_STATUS_STBYREADY : Fld := ⟨.time, 0x4, 1, 0, 18, 1, .ro, .l, 0⟩
def TIME_STATUS_ACTIVE : Fld := ⟨.time, 0x4, 1, 0, 17, 1, .ro, .l, 0⟩
def TIME_STATUS_HOLDOVER : Fld := ⟨.time, 0x4, 1, 0, 16, 1, .ro, .l, 0⟩
def TIME_STATUS_FREERUN : Fld := ⟨.time, 0x4, 1, 0, 15, 1, .ro, .l, 0⟩
def TIME_STATUS_SLEWING : Fld := ⟨.time, 0x4, 1, 0, 14, 1, .ro, .l, 0⟩
def TIME_STATUS_LOCAL : Fld := ⟨.time, 0x4, 1, 0, 13, 1, .ro, .l, 1⟩
def TIME_STATUS_CONSTOWN : Fld := ⟨.time, 0x4, 1, 0, 12, 1, .ro, .l, 0⟩
def TIME_STATUS_TPLL1LOCK : Fld := ⟨.time, 0x4, 1, 0, 11, 1, .ro, .l, 0⟩
def TIME_STATUS_TPLL0LOCK : Fld := ⟨.time, 0x4, 1, 0, 10, 1, .ro, .l, 0⟩
def TIME_STATUS_COUNTING : Fld := ⟨.time, 0x4, 1, 0, 9, 1, .ro, .l, 0⟩
def TIME_REFSEL_CH10M : Fld := ⟨.time, 0x8, 1, 0, 16, 10, .rw, .a, 0⟩
def TIME_REFSEL_REF1 : Fld := ⟨.time, 0x8, 1, 0, 2, 2, .rw, .a, 0⟩
def TIME_REFSEL_REF0 : Fld := ⟨.time, 0x8, 1, 0, 0, 2, .rw, .a, 0⟩
def TIME_REFMON_REFTOL : Fld := ⟨.time, 0xC, 1, 0, 16, 8, .rw, .l, 100⟩
def TIME_REFMON_QUAL : Fld := ⟨.time, 0xC, 1, 0, 8, 8, .rw, .l, 10⟩
def TIME_REFMON_VAL10M : Fld := ⟨.time, 0xC, 1, 0, 2, 1, .ro, .l, 0⟩
def TIME_REFMON_VAL100 : Fld := ⟨.time, 0xC, 1, 0, 1, 1, .ro, .l, 0⟩
def TIME_REFMON_VALXTAL : Fld := ⟨.time, 0xC, 1, 0, 0, 1, .ro, .l, 0⟩
def TIME_NOW_LO_NOWLO : Fld := ⟨.time, 0x10, 1, 0, 0, 32, .ro, .l, 0⟩
def TIME_NOW_HI_NOWHI : Fld := ⟨.time, 0x14, 1, 0, 0, 32, .ro, .l, 0⟩
def TIME_SLEW_OFFSET : Fld := ⟨.time, 0x18, 1, 0, 0, 32, .rw, .l, 0⟩
def TIME_STEP_LO_DLO : Fld := ⟨.time, 0x1C, 1, 0, 0, 32, .rw, .l, 0⟩
def TIME_STEP_HI_DHI : Fld := ⟨.time, 0x20, 1, 0, 0, 32, .rw, .l, 0⟩
def TIME_PPSOFF_OFFTICK : Fld := ⟨.time, 0x28, 1, 0, 0, 32, .rw, .l, 0⟩
def TIME_FREQ_FOFF : Fld := ⟨.time, 0x38, 1, 0, 0, 32, .ro, .l, 0⟩
def TIME_PPSCFG_EN : Fld := ⟨.time, 0x24, 1, 0, 31, 1, .rw, .l, 0⟩
def TIME_PPSCFG_EDGE : Fld := ⟨.time, 0x24, 1, 0, 30, 1, .rw, .l, 0⟩
def TIME_PPSCFG_PPSSTEP : Fld := ⟨.time, 0x24, 1, 0, 29, 1, .rw, .l, 0⟩
def TIME_PPSCFG_CH : Fld := ⟨.time, 0x24, 1, 0, 16, 10, .rw, .l, 0⟩
def TIME_PPSCFG_STEPLIM : Fld := ⟨.time, 0x24, 1, 0, 0, 16, .rw, .l, 1000⟩
def TIME_TPLL_0_BANDVALID : Fld := ⟨.time, 0x30, 1, 0, 31, 1, .rw, .f, 0⟩
def TIME_TPLL_0_BAND : Fld := ⟨.time, 0x30, 1, 0, 16, 6, .rw, .f, 0⟩
def TIME_TPLL_0_LOCKED : Fld := ⟨.time, 0x30, 1, 0, 7, 1, .ro, .l, 0⟩
def TIME_TPLL_0_FROZEN : Fld := ⟨.time, 0x30, 1, 0, 6, 1, .ro, .l, 0⟩
def TIME_TPLL_1_BANDVALID : Fld := ⟨.time, 0x34, 1, 0, 31, 1, .rw, .f, 0⟩
def TIME_TPLL_1_BAND : Fld := ⟨.time, 0x34, 1, 0, 16, 6, .rw, .f, 0⟩
def TIME_TPLL_1_LOCKED : Fld := ⟨.time, 0x34, 1, 0, 7, 1, .ro, .l, 0⟩
def TIME_TPLL_1_FROZEN : Fld := ⟨.time, 0x34, 1, 0, 6, 1, .ro, .l, 0⟩
def MPLL_CTRL_SEARCH : Fld := ⟨.mpll, 0x0, 1, 0, 31, 1, .wo, .l, 0⟩
def MPLL_CTRL_REFSRC : Fld := ⟨.mpll, 0x0, 1, 0, 16, 4, .rw, .a, 0⟩
def MPLL_CTRL_GOUT : Fld := ⟨.mpll, 0x0, 1, 0, 2, 1, .rw, .l, 0⟩
def MPLL_CTRL_HOLD : Fld := ⟨.mpll, 0x0, 1, 0, 1, 1, .rw, .l, 0⟩
def MPLL_CTRL_EN : Fld := ⟨.mpll, 0x0, 1, 0, 0, 1, .rw, .l, 0⟩
def MPLL_DIV_N : Fld := ⟨.mpll, 0x4, 1, 0, 16, 13, .rw, .a, 1⟩
def MPLL_DIV_M : Fld := ⟨.mpll, 0x4, 1, 0, 0, 12, .rw, .a, 1⟩
def MPLL_LOCKDET_WEXP : Fld := ⟨.mpll, 0x8, 1, 0, 16, 4, .rw, .l, 8⟩
def MPLL_LOCKDET_LOCKCNT : Fld := ⟨.mpll, 0x8, 1, 0, 12, 4, .rw, .l, 4⟩
def MPLL_LOCKDET_TOL : Fld := ⟨.mpll, 0x8, 1, 0, 0, 8, .rw, .l, 4⟩
def MPLL_STATUS_LOCKED : Fld := ⟨.mpll, 0x10, 1, 0, 31, 1, .ro, .l, 0⟩
def MPLL_STATUS_HELD : Fld := ⟨.mpll, 0x10, 1, 0, 30, 1, .ro, .l, 0⟩
def MPLL_STATUS_SEARCHING : Fld := ⟨.mpll, 0x10, 1, 0, 29, 1, .ro, .l, 0⟩
def MPLL_STATUS_HOPPING : Fld := ⟨.mpll, 0x10, 1, 0, 28, 1, .ro, .l, 0⟩
def MPLL_STATUS_REFOK : Fld := ⟨.mpll, 0x10, 1, 0, 27, 1, .ro, .l, 0⟩
def MPLL_STATUS_K : Fld := ⟨.mpll, 0x10, 1, 0, 22, 5, .ro, .l, 0⟩
def MPLL_STATUS_BAND : Fld := ⟨.mpll, 0x10, 1, 0, 16, 6, .ro, .l, 0⟩
def MPLL_GUARD_TGUARD : Fld := ⟨.mpll, 0xC, 1, 0, 0, 16, .rw, .l, 0⟩
def MPLL_FREF_FREF : Fld := ⟨.mpll, 0x14, 1, 0, 0, 32, .ro, .l, 0⟩
def MPLL_SWALLOW_COUNT : Fld := ⟨.mpll, 0x18, 1, 0, 0, 32, .ro, .l, 0⟩
def MPLL_REFCH_CH : Fld := ⟨.mpll, 0x1C, 1, 0, 0, 10, .rw, .a, 0⟩
def MPLL_BAND_VALID : Fld := ⟨.mpll, 0x100, 16, 4, 31, 1, .rw, .l, 0⟩
def MPLL_BAND_BAND : Fld := ⟨.mpll, 0x100, 16, 4, 22, 6, .rw, .l, 0⟩
def MPLL_BAND_KEY : Fld := ⟨.mpll, 0x100, 16, 4, 0, 16, .rw, .l, 0⟩
def MT_CTRL_XREC : Fld := ⟨.mt, 0x0, 1, 0, 13, 1, .rw, .l, 0⟩
def MT_CTRL_RECEN : Fld := ⟨.mt, 0x0, 1, 0, 12, 1, .rw, .l, 0⟩
def MT_CTRL_PRESETEN : Fld := ⟨.mt, 0x0, 1, 0, 11, 1, .rw, .a, 0⟩
def MT_CTRL_BREACHACT : Fld := ⟨.mt, 0x0, 1, 0, 10, 1, .rw, .l, 0⟩
def MT_CTRL_POLICY : Fld := ⟨.mt, 0x0, 1, 0, 8, 2, .rw, .l, 0⟩
def MT_CTRL_IDXEDGE : Fld := ⟨.mt, 0x0, 1, 0, 6, 1, .rw, .l, 0⟩
def MT_CTRL_IDXMODE : Fld := ⟨.mt, 0x0, 1, 0, 4, 2, .rw, .a, 0⟩
def MT_CTRL_MODE : Fld := ⟨.mt, 0x0, 1, 0, 2, 2, .rw, .f, 0⟩
def MT_CTRL_INVERT : Fld := ⟨.mt, 0x0, 1, 0, 1, 1, .rw, .f, 0⟩
def MT_CTRL_EN : Fld := ⟨.mt, 0x0, 1, 0, 0, 1, .rw, .l, 0⟩
def MT_INSEL_ICH : Fld := ⟨.mt, 0x4, 1, 0, 20, 10, .rw, .f, 0⟩
def MT_INSEL_BCH : Fld := ⟨.mt, 0x4, 1, 0, 10, 10, .rw, .f, 0⟩
def MT_INSEL_ACH : Fld := ⟨.mt, 0x4, 1, 0, 0, 10, .rw, .f, 0⟩
def MT_FILT_IGLITCH : Fld := ⟨.mt, 0x8, 1, 0, 8, 8, .rw, .l, 2⟩
def MT_FILT_GLITCH : Fld := ⟨.mt, 0x8, 1, 0, 0, 8, .rw, .l, 2⟩
def MT_EST_BREACHN : Fld := ⟨.mt, 0xC, 1, 0, 16, 4, .rw, .l, 4⟩
def MT_EST_AAVG : Fld := ⟨.mt, 0xC, 1, 0, 8, 3, .rw, .l, 4⟩
def MT_EST_VAVG : Fld := ⟨.mt, 0xC, 1, 0, 0, 3, .rw, .l, 2⟩
def MT_HORIZON_AMENDTOL : Fld := ⟨.mt, 0x10, 1, 0, 16, 8, .rw, .l, 1⟩
def MT_HORIZON_H : Fld := ⟨.mt, 0x10, 1, 0, 0, 9, .rw, .l, 16⟩
def MT_STATUS_BREACH : Fld := ⟨.mt, 0x20, 1, 0, 6, 1, .ro, .l, 0⟩
def MT_STATUS_FRACCOAST : Fld := ⟨.mt, 0x20, 1, 0, 5, 1, .ro, .l, 0⟩
def MT_STATUS_STALE : Fld := ⟨.mt, 0x20, 1, 0, 4, 1, .ro, .l, 1⟩
def MT_STATUS_DIR : Fld := ⟨.mt, 0x20, 1, 0, 3, 1, .ro, .l, 0⟩
def MT_STATUS_STATE : Fld := ⟨.mt, 0x20, 1, 0, 0, 3, .ro, .l, 0⟩
def MT_SLOTS_COMMITTED : Fld := ⟨.mt, 0x50, 1, 0, 16, 9, .ro, .l, 0⟩
def MT_SLOTS_ARMED : Fld := ⟨.mt, 0x50, 1, 0, 0, 9, .ro, .l, 0⟩
def MT_AMAX_AMAX : Fld := ⟨.mt, 0x14, 1, 0, 0, 32, .rw, .l, 0⟩
def MT_DROP_DROPK : Fld := ⟨.mt, 0x18, 1, 0, 0, 6, .rw, .l, 4⟩
def MT_COAST_LIMIT : Fld := ⟨.mt, 0x1C, 1, 0, 0, 16, .rw, .l, 1000⟩
def MT_POS_LO_PLO : Fld := ⟨.mt, 0x24, 1, 0, 0, 32, .ro, .l, 0⟩
def MT_POS_HI_PHI : Fld := ⟨.mt, 0x28, 1, 0, 0, 32, .ro, .l, 0⟩
def MT_VEL_VEL : Fld := ⟨.mt, 0x2C, 1, 0, 0, 32, .ro, .l, 0⟩
def MT_ACC_ACC : Fld := ⟨.mt, 0x30, 1, 0, 0, 32, .ro, .l, 0⟩
def MT_IDXPOS_LO_ILO : Fld := ⟨.mt, 0x34, 1, 0, 0, 32, .ro, .l, 0⟩
def MT_IDXPOS_HI_IHI : Fld := ⟨.mt, 0x38, 1, 0, 0, 32, .ro, .l, 0⟩
def MT_IDXVAL_IVAL : Fld := ⟨.mt, 0x3C, 1, 0, 0, 32, .rw, .a, 0⟩
def MT_PRESET_LO_SLO : Fld := ⟨.mt, 0x40, 1, 0, 0, 32, .rw, .a, 0⟩
def MT_PRESET_HI_SHI : Fld := ⟨.mt, 0x44, 1, 0, 0, 32, .rw, .a, 0⟩
def MT_RING_RING : Fld := ⟨.mt, 0x48, 1, 0, 0, 10, .rw, .l, 0⟩
def MT_ERRCNT_GLITCH : Fld := ⟨.mt, 0x4C, 1, 0, 16, 16, .ro, .l, 0⟩
def MT_ERRCNT_OVERSPEED : Fld := ⟨.mt, 0x4C, 1, 0, 0, 16, .ro, .l, 0⟩
def MT_SAFESET_MASK : Fld := ⟨.mt, 0x200, 32, 4, 0, 32, .rw, .l, 0⟩
def SILL_CTRL_OD : Fld := ⟨.sill, 0x0, 1, 0, 15, 1, .rw, .f, 0⟩
def SILL_CTRL_IDRV : Fld := ⟨.sill, 0x0, 1, 0, 14, 1, .rw, .f, 0⟩
def SILL_CTRL_ILVL : Fld := ⟨.sill, 0x0, 1, 0, 13, 1, .rw, .f, 0⟩
def SILL_CTRL_POSEN : Fld := ⟨.sill, 0x0, 1, 0, 10, 1, .rw, .l, 0⟩
def SILL_CTRL_POSMT : Fld := ⟨.sill, 0x0, 1, 0, 7, 3, .rw, .l, 0⟩
def SILL_CTRL_CEDGE : Fld := ⟨.sill, 0x0, 1, 0, 5, 2, .rw, .l, 0⟩
def SILL_CTRL_CEN : Fld := ⟨.sill, 0x0, 1, 0, 4, 1, .rw, .l, 0⟩
def SILL_CTRL_LREC : Fld := ⟨.sill, 0x0, 1, 0, 3, 1, .rw, .l, 0⟩
def SILL_CTRL_LATEPOL : Fld := ⟨.sill, 0x0, 1, 0, 2, 1, .rw, .a, 0⟩
def SILL_CTRL_EN : Fld := ⟨.sill, 0x0, 1, 0, 0, 1, .rw, .l, 0⟩
def SILL_DSK_LDSK : Fld := ⟨.sill, 0x4, 1, 0, 8, 6, .rw, .l, 0⟩
def SILL_DSK_CDSK : Fld := ⟨.sill, 0x4, 1, 0, 0, 6, .rw, .l, 0⟩
def SILL_RING_LREN : Fld := ⟨.sill, 0x8, 1, 0, 31, 1, .rw, .l, 0⟩
def SILL_RING_LRING : Fld := ⟨.sill, 0x8, 1, 0, 16, 10, .rw, .f, 0⟩
def SILL_RING_CRING : Fld := ⟨.sill, 0x8, 1, 0, 0, 10, .rw, .l, 0⟩
def SILL_STAT_PULSE : Fld := ⟨.sill, 0xC, 1, 0, 18, 1, .ro, .l, 0⟩
def SILL_STAT_DRV : Fld := ⟨.sill, 0xC, 1, 0, 17, 1, .ro, .l, 0⟩
def SILL_STAT_LEVEL : Fld := ⟨.sill, 0xC, 1, 0, 16, 1, .ro, .l, 0⟩
def SILL_STAT_FDEPTH : Fld := ⟨.sill, 0xC, 1, 0, 8, 5, .ro, .l, 0⟩
def SILL_STAT_QDEPTH : Fld := ⟨.sill, 0xC, 1, 0, 0, 5, .ro, .l, 0⟩
def SILL_NEXTTAG_VALID : Fld := ⟨.sill, 0x28, 1, 0, 31, 1, .ro, .l, 0⟩
def SILL_NEXTTAG_FIXED : Fld := ⟨.sill, 0x28, 1, 0, 30, 1, .ro, .l, 0⟩
def SILL_NEXTTAG_TRK : Fld := ⟨.sill, 0x28, 1, 0, 29, 1, .ro, .l, 0⟩
def SILL_NEXTTAG_ACTION : Fld := ⟨.sill, 0x28, 1, 0, 16, 4, .ro, .l, 0⟩
def SILL_NEXTTAG_TAG : Fld := ⟨.sill, 0x28, 1, 0, 0, 16, .ro, .l, 0⟩
def SILL_LATECNT_FIRED : Fld := ⟨.sill, 0x10, 1, 0, 16, 16, .ro, .l, 0⟩
def SILL_LATECNT_DISCARDED : Fld := ⟨.sill, 0x10, 1, 0, 0, 16, .ro, .l, 0⟩
def SILL_LOSTCNT_DEAD : Fld := ⟨.sill, 0x14, 1, 0, 16, 16, .ro, .l, 0⟩
def SILL_LOSTCNT_LOST : Fld := ⟨.sill, 0x14, 1, 0, 0, 16, .ro, .l, 0⟩
def SILL_CAPT_LO_CLO : Fld := ⟨.sill, 0x18, 1, 0, 0, 32, .ro, .l, 0⟩
def SILL_CAPT_HI_CHI : Fld := ⟨.sill, 0x1C, 1, 0, 0, 32, .ro, .l, 0⟩
def SILL_NEXT_LO_NLO : Fld := ⟨.sill, 0x20, 1, 0, 0, 32, .ro, .l, 0⟩
def SILL_NEXT_HI_NHI : Fld := ⟨.sill, 0x24, 1, 0, 0, 32, .ro, .l, 0⟩
def SILL_CMD_CLRCNT : Fld := ⟨.sill, 0x2C, 1, 0, 1, 1, .wo, .l, 0⟩
def SILL_CMD_CANCELALL : Fld := ⟨.sill, 0x2C, 1, 0, 0, 1, .wo, .l, 0⟩
def PORT_STATUS_CONVREADY : Fld := ⟨.port, 0x0, 1, 0, 8, 1, .ro, .l, 0⟩
def PORT_STATUS_VIOCODE : Fld := ⟨.port, 0x0, 1, 0, 0, 3, .ro, .l, 0⟩
def PORT_TH_B : Fld := ⟨.port, 0x1C, 1, 0, 8, 8, .rw, .l, 128⟩
def PORT_TH_A : Fld := ⟨.port, 0x1C, 1, 0, 0, 8, .rw, .l, 128⟩
def PORT_LVDS_TERM : Fld := ⟨.port, 0x20, 1, 0, 16, 16, .rw, .a, 0⟩
def PORT_LVDS_PAIR : Fld := ⟨.port, 0x20, 1, 0, 0, 16, .rw, .a, 0⟩
def PORT_CONV_EN : Fld := ⟨.port, 0x24, 1, 0, 0, 1, .rw, .l, 0⟩
def PORT_WAKE_EDGE1 : Fld := ⟨.port, 0x40, 1, 0, 3, 1, .rw, .l, 0⟩
def PORT_WAKE_EN1 : Fld := ⟨.port, 0x40, 1, 0, 2, 1, .rw, .l, 0⟩
def PORT_WAKE_EDGE0 : Fld := ⟨.port, 0x40, 1, 0, 1, 1, .rw, .l, 0⟩
def PORT_WAKE_EN0 : Fld := ⟨.port, 0x40, 1, 0, 0, 1, .rw, .l, 0⟩
def PORT_SET_MASK : Fld := ⟨.port, 0x4, 1, 0, 0, 32, .wo, .l, 0⟩
def PORT_CLR_MASK : Fld := ⟨.port, 0x8, 1, 0, 0, 32, .wo, .l, 0⟩
def PORT_TGL_MASK : Fld := ⟨.port, 0xC, 1, 0, 0, 32, .wo, .l, 0⟩
def PORT_OUT_LEVEL : Fld := ⟨.port, 0x10, 1, 0, 0, 32, .rw, .l, 0⟩
def PORT_OE_OE : Fld := ⟨.port, 0x14, 1, 0, 0, 32, .rw, .l, 0⟩
def PORT_IN_IN : Fld := ⟨.port, 0x18, 1, 0, 0, 32, .ro, .l, 0⟩
def PORT_LOCK_KEY : Fld := ⟨.port, 0x28, 1, 0, 0, 32, .wo, .l, 0⟩
def PORT_LOCKMASK_MASK : Fld := ⟨.port, 0x2C, 1, 0, 0, 32, .wo, .l, 0⟩
def PORT_LOCKED_MASK : Fld := ⟨.port, 0x30, 1, 0, 0, 32, .ro, .l, 0⟩
def PORT_SAFESET_MASK : Fld := ⟨.port, 0x34, 1, 0, 0, 32, .wo, .l, 0⟩
def PORT_SAFECLR_MASK : Fld := ⟨.port, 0x38, 1, 0, 0, 32, .wo, .l, 0⟩
def PORT_SAFEACT_MASK : Fld := ⟨.port, 0x3C, 1, 0, 0, 32, .ro, .l, 0⟩
def PORT_PIN_SAFE : Fld := ⟨.port, 0x100, 32, 4, 30, 2, .rw, .l, 2⟩
def PORT_PIN_ANA : Fld := ⟨.port, 0x100, 32, 4, 28, 1, .rw, .a, 0⟩
def PORT_PIN_INEN : Fld := ⟨.port, 0x100, 32, 4, 27, 1, .rw, .a, 0⟩
def PORT_PIN_FUNC : Fld := ⟨.port, 0x100, 32, 4, 19, 5, .rw, .a, 0⟩
def PORT_PIN_MSEL : Fld := ⟨.port, 0x100, 32, 4, 16, 3, .rw, .a, 0⟩
def PORT_PIN_CSEL : Fld := ⟨.port, 0x100, 32, 4, 12, 4, .rw, .a, 15⟩
def PORT_PIN_THSEL : Fld := ⟨.port, 0x100, 32, 4, 10, 2, .rw, .l, 0⟩
def PORT_PIN_HYS : Fld := ⟨.port, 0x100, 32, 4, 8, 2, .rw, .l, 0⟩
def PORT_PIN_PULL : Fld := ⟨.port, 0x100, 32, 4, 6, 2, .rw, .l, 0⟩
def PORT_PIN_SLEW : Fld := ⟨.port, 0x100, 32, 4, 4, 1, .rw, .l, 0⟩
def PORT_PIN_DRIVE : Fld := ⟨.port, 0x100, 32, 4, 0, 2, .rw, .l, 0⟩
def ATN_CTRL_EN : Fld := ⟨.atn, 0x0, 1, 0, 31, 1, .rw, .l, 0⟩
def ATN_CTRL_PORT : Fld := ⟨.atn, 0x0, 1, 0, 8, 5, .rw, .a, 0⟩
def ATN_CTRL_SENSE : Fld := ⟨.atn, 0x0, 1, 0, 0, 3, .rw, .a, 0⟩
def ATN_ROUTE_SUP : Fld := ⟨.atn, 0x8, 1, 0, 16, 1, .rw, .l, 0⟩
def ATN_ROUTE_SE : Fld := ⟨.atn, 0x8, 1, 0, 0, 16, .rw, .l, 0⟩
def ATN_STAT_MISSED : Fld := ⟨.atn, 0x1C, 1, 0, 16, 16, .ro, .l, 0⟩
def ATN_STAT_ACTIVE : Fld := ⟨.atn, 0x1C, 1, 0, 0, 1, .ro, .l, 0⟩
def ATN_SEQ_MASK : Fld := ⟨.atn, 0x4, 1, 0, 0, 32, .rw, .l, 0⟩
def ATN_ZONE_LO_MASK : Fld := ⟨.atn, 0xC, 1, 0, 0, 32, .rw, .l, 0⟩
def ATN_ZONE_HI_MASK : Fld := ⟨.atn, 0x10, 1, 0, 0, 32, .rw, .l, 0⟩
def ATN_TS_LO_TLO : Fld := ⟨.atn, 0x14, 1, 0, 0, 32, .ro, .l, 0⟩
def ATN_TS_HI_THI : Fld := ⟨.atn, 0x18, 1, 0, 0, 32, .ro, .l, 0⟩
def SEQ_CTRL_START : Fld := ⟨.seq, 0x0, 1, 0, 31, 1, .wo, .l, 0⟩
def SEQ_CTRL_RESUME : Fld := ⟨.seq, 0x0, 1, 0, 30, 1, .wo, .l, 0⟩
def SEQ_CTRL_HALT : Fld := ⟨.seq, 0x0, 1, 0, 29, 1, .wo, .l, 0⟩
def SEQ_CTRL_STEP : Fld := ⟨.seq, 0x0, 1, 0, 28, 1, .wo, .l, 0⟩
def SEQ_CTRL_FAULTACT : Fld := ⟨.seq, 0x0, 1, 0, 0, 1, .rw, .l, 0⟩
def SEQ_STATUS_WAITKIND : Fld := ⟨.seq, 0x4, 1, 0, 26, 3, .ro, .l, 0⟩
def SEQ_STATUS_STKDEPTH : Fld := ⟨.seq, 0x4, 1, 0, 16, 5, .ro, .l, 0⟩
def SEQ_STATUS_ALARMARM : Fld := ⟨.seq, 0x4, 1, 0, 8, 1, .ro, .l, 0⟩
def SEQ_STATUS_POSTDEPTH : Fld := ⟨.seq, 0x4, 1, 0, 4, 4, .ro, .l, 0⟩
def SEQ_STATUS_STATE : Fld := ⟨.seq, 0x4, 1, 0, 0, 2, .ro, .l, 0⟩
def SEQ_FAULT_RESTARTS : Fld := ⟨.seq, 0x10, 1, 0, 24, 8, .ro, .l, 0⟩
def SEQ_FAULT_CAUSE : Fld := ⟨.seq, 0x10, 1, 0, 16, 8, .ro, .l, 0⟩
def SEQ_FAULT_FPC : Fld := ⟨.seq, 0x10, 1, 0, 0, 16, .ro, .l, 0⟩
def SEQ_WDOG_WLIM : Fld := ⟨.seq, 0x14, 1, 0, 16, 16, .rw, .l, 0⟩
def SEQ_WDOG_RUNLIM : Fld := ⟨.seq, 0x14, 1, 0, 0, 16, .rw, .l, 0⟩
def SEQ_STREAM_EN : Fld := ⟨.seq, 0x30, 4, 4, 31, 1, .rw, .l, 0⟩
def SEQ_STREAM_DIR : Fld := ⟨.seq, 0x30, 4, 4, 30, 1, .rw, .l, 0⟩
def SEQ_STREAM_RWM : Fld := ⟨.seq, 0x30, 4, 4, 16, 10, .rw, .l, 1⟩
def SEQ_STREAM_RING : Fld := ⟨.seq, 0x30, 4, 4, 0, 10, .rw, .l, 0⟩
def SEQ_WVEC_MODE : Fld := ⟨.seq, 0x100, 16, 4, 31, 1, .rw, .l, 0⟩
def SEQ_WVEC_SRC : Fld := ⟨.seq, 0x100, 16, 4, 28, 3, .rw, .l, 0⟩
def SEQ_WVEC_INDEX : Fld := ⟨.seq, 0x100, 16, 4, 16, 10, .rw, .l, 0⟩
def SEQ_WVEC_HANDLER : Fld := ⟨.seq, 0x100, 16, 4, 0, 16, .rw, .l, 0⟩
def SEQ_ENTRY_ADDR : Fld := ⟨.seq, 0x8, 1, 0, 0, 16, .rw, .l, 0⟩
def SEQ_PC_PC : Fld := ⟨.seq, 0xC, 1, 0, 0, 16, .ro, .l, 0⟩
def SEQ_WEN_EN : Fld := ⟨.seq, 0x18, 1, 0, 0, 16, .rw, .l, 0⟩
def SEQ_WPEND_PEND : Fld := ⟨.seq, 0x1C, 1, 0, 0, 16, .w1c, .l, 0⟩
def SEQ_SIGPEND_PEND : Fld := ⟨.seq, 0x20, 1, 0, 0, 32, .w1c, .l, 0⟩
def SEQ_ALARM_LO_ALO : Fld := ⟨.seq, 0x24, 1, 0, 0, 32, .rw, .l, 0⟩
def SEQ_ALARM_HI_AHI : Fld := ⟨.seq, 0x28, 1, 0, 0, 32, .rw, .l, 0⟩
def SEQ_SIGMERGE_MERGED : Fld := ⟨.seq, 0x2C, 1, 0, 0, 16, .ro, .l, 0⟩
def ZONE_CTRL_HOLD : Fld := ⟨.zone, 0x0, 1, 0, 31, 1, .rw, .l, 0⟩
def ZONE_CTRL_BORROW : Fld := ⟨.zone, 0x0, 1, 0, 7, 1, .rw, .l, 0⟩
def ZONE_CTRL_SIGPOL : Fld := ⟨.zone, 0x0, 1, 0, 5, 2, .rw, .l, 0⟩
def ZONE_STATUS_STATE : Fld := ⟨.zone, 0x4, 1, 0, 29, 3, .ro, .l, 0⟩
def ZONE_STATUS_ACTPLANE : Fld := ⟨.zone, 0x4, 1, 0, 28, 1, .ro, .l, 0⟩
def ZONE_STATUS_SHDVALID : Fld := ⟨.zone, 0x4, 1, 0, 27, 1, .ro, .l, 0⟩
def ZONE_STATUS_STAGED : Fld := ⟨.zone, 0x4, 1, 0, 26, 1, .ro, .l, 0⟩
def ZONE_STATUS_LOADING : Fld := ⟨.zone, 0x4, 1, 0, 25, 1, .ro, .l, 0⟩
def ZONE_STATUS_ICLK1RUN : Fld := ⟨.zone, 0x4, 1, 0, 24, 1, .ro, .l, 0⟩
def ZONE_STATUS_ICLK0RUN : Fld := ⟨.zone, 0x4, 1, 0, 23, 1, .ro, .l, 0⟩
def ZONE_ICLK_0_SRC : Fld := ⟨.zone, 0x8, 1, 0, 30, 2, .rw, .a, 0⟩
def ZONE_ICLK_0_MSEL : Fld := ⟨.zone, 0x8, 1, 0, 27, 3, .rw, .a, 0⟩
def ZONE_ICLK_0_DIV : Fld := ⟨.zone, 0x8, 1, 0, 0, 9, .rw, .a, 2⟩
def ZONE_ICLK_1_SRC : Fld := ⟨.zone, 0xC, 1, 0, 30, 2, .rw, .a, 0⟩
def ZONE_ICLK_1_MSEL : Fld := ⟨.zone, 0xC, 1, 0, 27, 3, .rw, .a, 0⟩
def ZONE_ICLK_1_DIV : Fld := ⟨.zone, 0xC, 1, 0, 0, 9, .rw, .a, 2⟩
def ZONE_IMIN_MIN1 : Fld := ⟨.zone, 0x10, 1, 0, 16, 16, .ro, .l, 0⟩
def ZONE_IMIN_MIN0 : Fld := ⟨.zone, 0x10, 1, 0, 0, 16, .ro, .l, 0⟩
def ZONE_PID_ACT_PID : Fld := ⟨.zone, 0x14, 1, 0, 0, 32, .ro, .l, 0⟩
def ZONE_PID_SHD_PID : Fld := ⟨.zone, 0x18, 1, 0, 0, 32, .ro, .l, 0⟩
def ZONE_ATNPEND_PEND : Fld := ⟨.zone, 0x1C, 1, 0, 0, 32, .w1c, .l, 0⟩
def ZONE_GWREFUSED_COUNT : Fld := ⟨.zone, 0x20, 1, 0, 0, 16, .ro, .l, 0⟩
def SUP_BOOT_CFGERR : Fld := ⟨.sup, 0x800, 1, 0, 31, 1, .ro, .l, 0⟩
def SUP_BOOT_FALLBACK : Fld := ⟨.sup, 0x800, 1, 0, 30, 1, .ro, .l, 0⟩
def SUP_BOOT_REBUILT : Fld := ⟨.sup, 0x800, 1, 0, 29, 1, .ro, .l, 0⟩
def SUP_BOOT_AUDITDONE : Fld := ⟨.sup, 0x800, 1, 0, 28, 1, .ro, .l, 0⟩
def SUP_BOOT_AUDITFAIL : Fld := ⟨.sup, 0x800, 1, 0, 27, 1, .ro, .l, 0⟩
def SUP_BOOT_FAILSTEP : Fld := ⟨.sup, 0x800, 1, 0, 16, 4, .ro, .l, 0⟩
def SUP_BOOT_NREBUILT : Fld := ⟨.sup, 0x800, 1, 0, 0, 7, .ro, .l, 0⟩
def SUP_LOADSTAT_BUSY : Fld := ⟨.sup, 0x804, 1, 0, 31, 1, .ro, .l, 0⟩
def SUP_LOADSTAT_LASTOK : Fld := ⟨.sup, 0x804, 1, 0, 30, 1, .ro, .l, 0⟩
def SUP_LOADSTAT_FAILSTEP : Fld := ⟨.sup, 0x804, 1, 0, 16, 4, .ro, .l, 0⟩
def SUP_LOADSTAT_FRAMES : Fld := ⟨.sup, 0x804, 1, 0, 0, 15, .ro, .l, 0⟩
def SUP_LOADCMD_ABORT : Fld := ⟨.sup, 0x808, 1, 0, 0, 1, .wo, .l, 0⟩
def ZONE_SWCTL_XSWAP : Fld := ⟨.zone, 0x24, 1, 0, 31, 1, .rw, .l, 0⟩
def ZONE_SWCTL_SWEEP : Fld := ⟨.zone, 0x24, 1, 0, 30, 1, .rw, .l, 0⟩
def ZONE_SWCTL_SURVRAM : Fld := ⟨.zone, 0x24, 1, 0, 29, 1, .rw, .l, 0⟩
def ZONE_SWCMD_RELOAD : Fld := ⟨.zone, 0x30, 1, 0, 1, 1, .wo, .l, 0⟩
def ZONE_SWCMD_UNSTAGE : Fld := ⟨.zone, 0x30, 1, 0, 0, 1, .wo, .l, 0⟩
def ZONE_SIGSTAT_SURVFAIL : Fld := ⟨.zone, 0x34, 1, 0, 31, 1, .w1c, .l, 0⟩
def ZONE_SIGSTAT_RELOADING : Fld := ⟨.zone, 0x34, 1, 0, 30, 1, .ro, .l, 0⟩
def ZONE_SIGSTAT_MISMATCH : Fld := ⟨.zone, 0x34, 1, 0, 0, 16, .ro, .l, 0⟩
def ZONE_RELOAD_VALID : Fld := ⟨.zone, 0x48, 1, 0, 31, 1, .rw, .l, 0⟩
def ZONE_RELOAD_BLOCK : Fld := ⟨.zone, 0x48, 1, 0, 0, 8, .rw, .l, 0⟩
def ZONE_RELOAD_SHD_VALID : Fld := ⟨.zone, 0x4C, 1, 0, 31, 1, .rw, .l, 0⟩
def ZONE_RELOAD_SHD_BLOCK : Fld := ⟨.zone, 0x4C, 1, 0, 0, 8, .rw, .l, 0⟩
def ZONE_SWTIME_LO_SLO : Fld := ⟨.zone, 0x28, 1, 0, 0, 32, .ro, .l, 0⟩
def ZONE_SWTIME_HI_SHI : Fld := ⟨.zone, 0x2C, 1, 0, 0, 32, .ro, .l, 0⟩
def ZONE_GOLD_LO_GLO : Fld := ⟨.zone, 0x38, 1, 0, 0, 32, .ro, .l, 0⟩
def ZONE_GOLD_HI_GHI : Fld := ⟨.zone, 0x3C, 1, 0, 0, 32, .ro, .l, 0⟩
def ZONE_WEAR_A_COUNT : Fld := ⟨.zone, 0x40, 1, 0, 0, 32, .ro, .l, 0⟩
def ZONE_WEAR_B_COUNT : Fld := ⟨.zone, 0x44, 1, 0, 0, 32, .ro, .l, 0⟩
def SUP_SURVCTL_EN : Fld := ⟨.sup, 0x810, 1, 0, 31, 1, .rw, .l, 0⟩
def SUP_SURVCTL_PERIOD : Fld := ⟨.sup, 0x810, 1, 0, 0, 16, .rw, .l, 24⟩
def SUP_SURVSTAT_PHASE : Fld := ⟨.sup, 0x814, 1, 0, 30, 2, .ro, .l, 0⟩
def SUP_SURVSTAT_ZONE : Fld := ⟨.sup, 0x814, 1, 0, 16, 6, .ro, .l, 0⟩
def SUP_SURVSTAT_YIELDS : Fld := ⟨.sup, 0x814, 1, 0, 0, 16, .ro, .l, 0⟩
def SUP_SWEEPSTAT_ROUNDS : Fld := ⟨.sup, 0x818, 1, 0, 16, 16, .ro, .l, 0⟩
def SUP_SWEEPSTAT_MISMATCH : Fld := ⟨.sup, 0x818, 1, 0, 0, 16, .ro, .l, 0⟩
def CALDERA_PWR_G : Fld := ⟨.caldera, 0x4, 1, 0, 0, 16, .rw, .l, 0⟩
def CALDERA_ECC_CORR : Fld := ⟨.caldera, 0x18, 1, 0, 16, 16, .ro, .l, 0⟩
def CALDERA_ECC_UNCORR : Fld := ⟨.caldera, 0x18, 1, 0, 0, 16, .ro, .l, 0⟩
def CALDERA_PWRSTAT_G : Fld := ⟨.caldera, 0x8, 1, 0, 0, 16, .ro, .l, 0⟩
def CALDERA_COLL_LO_BANK : Fld := ⟨.caldera, 0x10, 1, 0, 0, 32, .w1c, .l, 0⟩
def CALDERA_COLL_HI_BANK : Fld := ⟨.caldera, 0x14, 1, 0, 0, 32, .w1c, .l, 0⟩
def CALDERA_ECCADDR_ADDR : Fld := ⟨.caldera, 0x1C, 1, 0, 0, 32, .ro, .l, 0⟩
def CALDERA_COLLADDR_ADDR : Fld := ⟨.caldera, 0x100, 64, 4, 0, 32, .ro, .l, 0⟩
def RING_CTRL_EN : Fld := ⟨.ring, 0x0, 1, 0, 31, 1, .rw, .l, 0⟩
def RING_CTRL_PROD : Fld := ⟨.ring, 0x0, 1, 0, 16, 10, .rw, .f, 0⟩
def RING_CTRL_CONS : Fld := ⟨.ring, 0x0, 1, 0, 0, 10, .rw, .f, 0⟩
def RING_BASE_BASE : Fld := ⟨.ring, 0x4, 1, 0, 4, 22, .rw, .f, 0⟩
def RING_LEN_LEN : Fld := ⟨.ring, 0x8, 1, 0, 4, 22, .ro, .l, 0⟩
def RING_NEWLEN_PENDING : Fld := ⟨.ring, 0xC, 1, 0, 31, 1, .ro, .l, 0⟩
def RING_NEWLEN_NEWLEN : Fld := ⟨.ring, 0xC, 1, 0, 4, 22, .rw, .l, 0⟩
def RING_WPTR_LAP : Fld := ⟨.ring, 0x10, 1, 0, 31, 1, .rw, .l, 0⟩
def RING_WPTR_OFF : Fld := ⟨.ring, 0x10, 1, 0, 4, 22, .rw, .l, 0⟩
def RING_RPTR_LAP : Fld := ⟨.ring, 0x14, 1, 0, 31, 1, .rw, .l, 0⟩
def RING_RPTR_OFF : Fld := ⟨.ring, 0x14, 1, 0, 4, 22, .rw, .l, 0⟩
def RING_WM_DIR : Fld := ⟨.ring, 0x18, 1, 0, 31, 1, .rw, .l, 0⟩
def RING_WM_ITEMS : Fld := ⟨.ring, 0x18, 1, 0, 0, 22, .rw, .l, 0⟩
def RING_STAT_FULL : Fld := ⟨.ring, 0x1C, 1, 0, 31, 1, .ro, .l, 0⟩
def RING_STAT_EMPTY : Fld := ⟨.ring, 0x1C, 1, 0, 30, 1, .ro, .l, 1⟩
def RING_STAT_TAIL : Fld := ⟨.ring, 0x1C, 1, 0, 29, 1, .ro, .l, 0⟩
def RING_STAT_FULLCNT : Fld := ⟨.ring, 0x1C, 1, 0, 0, 16, .ro, .l, 0⟩
def SE_CTRL_START : Fld := ⟨.se, 0x0, 1, 0, 31, 1, .wo, .l, 0⟩
def SE_CTRL_RESUME : Fld := ⟨.se, 0x0, 1, 0, 30, 1, .wo, .l, 0⟩
def SE_CTRL_HALT : Fld := ⟨.se, 0x0, 1, 0, 29, 1, .wo, .l, 0⟩
def SE_CTRL_STEP : Fld := ⟨.se, 0x0, 1, 0, 28, 1, .wo, .l, 0⟩
def SE_CTRL_FAULTACT : Fld := ⟨.se, 0x0, 1, 0, 0, 1, .rw, .l, 0⟩
def SE_STATUS_RRB : Fld := ⟨.se, 0x4, 1, 0, 22, 5, .ro, .l, 0⟩
def SE_STATUS_PAIR : Fld := ⟨.se, 0x4, 1, 0, 21, 1, .ro, .l, 0⟩
def SE_STATUS_SHADOW : Fld := ⟨.se, 0x4, 1, 0, 20, 1, .ro, .l, 0⟩
def SE_STATUS_LEVEL : Fld := ⟨.se, 0x4, 1, 0, 18, 2, .ro, .l, 0⟩
def SE_STATUS_LOOPDEPTH : Fld := ⟨.se, 0x4, 1, 0, 15, 3, .ro, .l, 0⟩
def SE_STATUS_CALLDEPTH : Fld := ⟨.se, 0x4, 1, 0, 11, 4, .ro, .l, 0⟩
def SE_STATUS_STATE : Fld := ⟨.se, 0x4, 1, 0, 0, 2, .ro, .l, 0⟩
def SE_FAULT_RESTARTS : Fld := ⟨.se, 0x10, 1, 0, 24, 8, .ro, .l, 0⟩
def SE_FAULT_CAUSE : Fld := ⟨.se, 0x10, 1, 0, 16, 8, .ro, .l, 0⟩
def SE_FAULT_FPC : Fld := ⟨.se, 0x10, 1, 0, 0, 12, .ro, .l, 0⟩
def SE_MODE_SATACC : Fld := ⟨.se, 0x14, 1, 0, 7, 1, .rw, .l, 0⟩
def SE_MODE_SAT : Fld := ⟨.se, 0x14, 1, 0, 6, 1, .rw, .l, 0⟩
def SE_MODE_SCALE : Fld := ⟨.se, 0x14, 1, 0, 0, 5, .rw, .l, 0⟩
def SE_GOV_GOV : Fld := ⟨.se, 0x18, 1, 0, 31, 1, .w1c, .l, 0⟩
def SE_GOV_GOVPC : Fld := ⟨.se, 0x18, 1, 0, 0, 12, .ro, .l, 0⟩
def SE_VEC_VEC2 : Fld := ⟨.se, 0x1C, 1, 0, 16, 12, .rw, .l, 0⟩
def SE_VEC_VEC1 : Fld := ⟨.se, 0x1C, 1, 0, 0, 12, .rw, .l, 0⟩
def SE_SCFG_EN : Fld := ⟨.se, 0x40, 4, 16, 31, 1, .rw, .l, 0⟩
def SE_SCFG_DIR : Fld := ⟨.se, 0x40, 4, 16, 30, 1, .rw, .f, 0⟩
def SE_SCFG_RING : Fld := ⟨.se, 0x40, 4, 16, 0, 10, .rw, .f, 0⟩
def SE_SWIN_LLEN : Fld := ⟨.se, 0x44, 4, 16, 16, 12, .rw, .f, 0⟩
def SE_SWIN_LBASE : Fld := ⟨.se, 0x44, 4, 16, 4, 12, .rw, .f, 0⟩
def SE_ENTRY_WORD : Fld := ⟨.se, 0x8, 1, 0, 0, 12, .rw, .l, 0⟩
def SE_PC_PC : Fld := ⟨.se, 0xC, 1, 0, 0, 12, .ro, .l, 0⟩
def SE_IRQEN_EN : Fld := ⟨.se, 0x20, 1, 0, 0, 7, .rw, .l, 0⟩
def SE_IRQLVL_L2 : Fld := ⟨.se, 0x24, 1, 0, 0, 7, .rw, .l, 0⟩
def SE_IRQPEND_PEND : Fld := ⟨.se, 0x28, 1, 0, 0, 7, .w1c, .l, 0⟩
def SE_IRQSET_SW : Fld := ⟨.se, 0x2C, 1, 0, 0, 1, .wo, .l, 0⟩
def SE_ATNEN_EN : Fld := ⟨.se, 0x30, 1, 0, 0, 32, .rw, .l, 0⟩
def SE_ATNPEND_PEND : Fld := ⟨.se, 0x34, 1, 0, 0, 32, .w1c, .l, 0⟩
def SE_SWM_LWM : Fld := ⟨.se, 0x48, 4, 16, 0, 12, .rw, .l, 0⟩
def SE_SAVAIL_AVAIL : Fld := ⟨.se, 0x4C, 4, 16, 0, 13, .ro, .l, 0⟩
def FLASH_QCFG_HOSTQ : Fld := ⟨.flash, 0x8, 1, 0, 31, 1, .rw, .f, 0⟩
def FLASH_QCFG_QSIZE : Fld := ⟨.flash, 0x8, 1, 0, 0, 7, .rw, .f, 64⟩
def FLASH_STATUS_DONECNT : Fld := ⟨.flash, 0x14, 1, 0, 16, 16, .ro, .l, 0⟩
def FLASH_STATUS_BUSYREAD : Fld := ⟨.flash, 0x14, 1, 0, 15, 1, .w1c, .l, 0⟩
def FLASH_STATUS_JERASE : Fld := ⟨.flash, 0x14, 1, 0, 14, 1, .ro, .l, 0⟩
def FLASH_STATUS_PLEVEL : Fld := ⟨.flash, 0x14, 1, 0, 12, 2, .ro, .l, 0⟩
def FLASH_STATUS_SUSP : Fld := ⟨.flash, 0x14, 1, 0, 8, 4, .ro, .l, 0⟩
def FLASH_STATUS_BUSY : Fld := ⟨.flash, 0x14, 1, 0, 4, 4, .ro, .l, 0⟩
def FLASH_STATUS_ACTBOOT : Fld := ⟨.flash, 0x14, 1, 0, 0, 1, .ro, .l, 0⟩
def FLASH_CMD_RESUME : Fld := ⟨.flash, 0x18, 1, 0, 4, 4, .wo, .l, 0⟩
def FLASH_CMD_SUSPEND : Fld := ⟨.flash, 0x18, 1, 0, 0, 4, .wo, .l, 0⟩
def FLASH_NOTIFY_TGT : Fld := ⟨.flash, 0x1C, 1, 0, 8, 6, .rw, .l, 32⟩
def FLASH_NOTIFY_BIT : Fld := ⟨.flash, 0x1C, 1, 0, 0, 5, .rw, .l, 0⟩
def FLASH_QBASE_LO_LO : Fld := ⟨.flash, 0x0, 1, 0, 0, 32, .rw, .f, 0⟩
def FLASH_QBASE_HI_HI : Fld := ⟨.flash, 0x4, 1, 0, 0, 32, .rw, .f, 0⟩
def FLASH_QHEAD_HEAD : Fld := ⟨.flash, 0xC, 1, 0, 0, 7, .rw, .l, 0⟩
def FLASH_QTAIL_TAIL : Fld := ⟨.flash, 0x10, 1, 0, 0, 7, .ro, .l, 0⟩
def FLASH_ECC_CORR : Fld := ⟨.flash, 0x20, 1, 0, 16, 16, .ro, .l, 0⟩
def FLASH_ECC_UNCORR : Fld := ⟨.flash, 0x20, 1, 0, 0, 16, .ro, .l, 0⟩
def FLASH_SELSEQ_SEQ : Fld := ⟨.flash, 0x24, 1, 0, 0, 32, .ro, .l, 0⟩
def FLASH_UID_LO_LO : Fld := ⟨.flash, 0x28, 1, 0, 0, 32, .ro, .l, 0⟩
def FLASH_UID_HI_HI : Fld := ⟨.flash, 0x2C, 1, 0, 0, 32, .ro, .l, 0⟩
def FLASH_UNDEF_MAP : Fld := ⟨.flash, 0x40, 8, 4, 0, 32, .ro, .l, 0⟩
def FLASH_BSTAT_LO_LO : Fld := ⟨.flash, 0x60, 4, 8, 0, 32, .ro, .l, 0⟩
def FLASH_BSTAT_HI_HI : Fld := ⟨.flash, 0x64, 4, 8, 0, 32, .ro, .l, 0xb5a70000⟩
def LINK_CTRL_EN : Fld := ⟨.link, 0x0, 1, 0, 31, 1, .rw, .l, 0⟩
def LINK_CTRL_RATE : Fld := ⟨.link, 0x0, 1, 0, 24, 2, .rw, .f, 0⟩
def LINK_CTRL_NOTREE : Fld := ⟨.link, 0x0, 1, 0, 1, 1, .rw, .l, 0⟩
def LINK_CTRL_CLRCNT : Fld := ⟨.link, 0x0, 1, 0, 0, 1, .wo, .l, 0⟩
def LINK_STATUS_STATE : Fld := ⟨.link, 0x4, 1, 0, 30, 2, .ro, .l, 0⟩
def LINK_STATUS_RATE10 : Fld := ⟨.link, 0x4, 1, 0, 29, 1, .ro, .l, 0⟩
def LINK_STATUS_LONG : Fld := ⟨.link, 0x4, 1, 0, 28, 1, .ro, .l, 0⟩
def LINK_STATUS_ROLE : Fld := ⟨.link, 0x4, 1, 0, 26, 2, .ro, .l, 0⟩
def LINK_STATUS_PEERNUM : Fld := ⟨.link, 0x4, 1, 0, 9, 9, .ro, .l, 0⟩
def LINK_STATUS_PEEROK : Fld := ⟨.link, 0x4, 1, 0, 8, 1, .ro, .l, 0⟩
def LINK_STATUS_PEERPRIO : Fld := ⟨.link, 0x4, 1, 0, 0, 8, .ro, .l, 0⟩
def LINK_PEER_LO_LO : Fld := ⟨.link, 0x8, 1, 0, 0, 32, .ro, .l, 0⟩
def LINK_PEER_HI_HI : Fld := ⟨.link, 0xC, 1, 0, 0, 32, .ro, .l, 0⟩
def LINK_DELAY_STEPS : Fld := ⟨.link, 0x10, 1, 0, 0, 16, .ro, .l, 0⟩
def LINK_ASYM_STEPS : Fld := ⟨.link, 0x14, 1, 0, 0, 16, .rw, .l, 0⟩
def LINK_OFFSET_STEPS : Fld := ⟨.link, 0x18, 1, 0, 0, 32, .ro, .l, 0⟩
def LINK_ERR_CRCERR : Fld := ⟨.link, 0x1C, 1, 0, 16, 16, .ro, .l, 0⟩
def LINK_ERR_REPLAY : Fld := ⟨.link, 0x1C, 1, 0, 0, 16, .ro, .l, 0⟩
def LINK_DOWNCNT_COUNT : Fld := ⟨.link, 0x20, 1, 0, 0, 16, .ro, .l, 0⟩
def CONST_CTRL_EN : Fld := ⟨.const, 0x0, 1, 0, 31, 1, .rw, .l, 0⟩
def CONST_CTRL_XCHAS : Fld := ⟨.const, 0x0, 1, 0, 1, 1, .rw, .l, 0⟩
def CONST_CTRL_RECEN : Fld := ⟨.const, 0x0, 1, 0, 0, 1, .rw, .l, 0⟩
def CONST_STATUS_DEPTH : Fld := ⟨.const, 0x4, 1, 0, 20, 6, .ro, .l, 0⟩
def CONST_STATUS_ROOT : Fld := ⟨.const, 0x4, 1, 0, 9, 1, .ro, .l, 0⟩
def CONST_STATUS_AHOLD : Fld := ⟨.const, 0x4, 1, 0, 8, 1, .ro, .l, 0⟩
def CONST_STATUS_PHASE : Fld := ⟨.const, 0x4, 1, 0, 0, 7, .ro, .l, 0⟩
def CONST_BAR_EN : Fld := ⟨.const, 0x100, 16, 8, 31, 1, .rw, .l, 0⟩
def CONST_BAR_SUPM : Fld := ⟨.const, 0x100, 16, 8, 30, 1, .rw, .f, 0⟩
def CONST_BAR_GEN : Fld := ⟨.const, 0x100, 16, 8, 16, 8, .ro, .l, 0⟩
def CONST_XSTR_EN : Fld := ⟨.const, 0x200, 8, 8, 31, 1, .rw, .l, 0⟩
def CONST_XSTR_DRING : Fld := ⟨.const, 0x200, 8, 8, 16, 10, .rw, .f, 0⟩
def CONST_XSTR_DEV : Fld := ⟨.const, 0x200, 8, 8, 0, 9, .rw, .f, 0⟩
def CONST_ID_VALID : Fld := ⟨.const, 0x8, 1, 0, 31, 1, .ro, .l, 0⟩
def CONST_ID_NUM : Fld := ⟨.const, 0x8, 1, 0, 0, 9, .ro, .l, 0⟩
def CONST_PREF_VALID : Fld := ⟨.const, 0xC, 1, 0, 31, 1, .rw, .f, 0⟩
def CONST_PREF_NUM : Fld := ⟨.const, 0xC, 1, 0, 0, 9, .rw, .f, 0⟩
def CONST_PRIO_PRIO : Fld := ⟨.const, 0x10, 1, 0, 0, 8, .rw, .f, 128⟩
def CONST_ROOT_LO_LO : Fld := ⟨.const, 0x14, 1, 0, 0, 32, .ro, .l, 0⟩
def CONST_ROOT_HI_HI : Fld := ⟨.const, 0x18, 1, 0, 0, 32, .ro, .l, 0⟩
def CONST_TOPO_COUNT : Fld := ⟨.const, 0x1C, 1, 0, 16, 10, .ro, .l, 0⟩
def CONST_TOPO_DEPTHMAX : Fld := ⟨.const, 0x1C, 1, 0, 8, 6, .ro, .l, 0⟩
def CONST_TOPO_DIAM : Fld := ⟨.const, 0x1C, 1, 0, 0, 6, .ro, .l, 0⟩
def CONST_EXPECT_COUNT : Fld := ⟨.const, 0x20, 1, 0, 0, 10, .rw, .l, 0⟩
def CONST_ALIGN_STEPLIM : Fld := ⟨.const, 0x24, 1, 0, 0, 16, .rw, .l, 1000⟩
def CONST_HOPQ_VALID : Fld := ⟨.const, 0x28, 1, 0, 31, 1, .ro, .l, 0⟩
def CONST_HOPQ_LINK : Fld := ⟨.const, 0x28, 1, 0, 24, 3, .ro, .l, 0⟩
def CONST_HOPQ_HOPS : Fld := ⟨.const, 0x28, 1, 0, 16, 6, .ro, .l, 0⟩
def CONST_HOPQ_DEV : Fld := ⟨.const, 0x28, 1, 0, 0, 9, .rw, .l, 0⟩
def CONST_XPORT_MASK : Fld := ⟨.const, 0x2C, 1, 0, 0, 32, .rw, .l, 0⟩
def CONST_XSIG_MASK : Fld := ⟨.const, 0x30, 1, 0, 0, 32, .rw, .l, 0⟩
def CONST_RING_RING : Fld := ⟨.const, 0x34, 1, 0, 0, 10, .rw, .l, 0⟩
def CONST_BARM_MASK : Fld := ⟨.const, 0x104, 16, 8, 0, 32, .rw, .f, 0⟩
def CONST_XSTRS_CREDITS : Fld := ⟨.const, 0x204, 8, 8, 16, 16, .ro, .l, 0⟩
def CONST_XSTRS_SRING : Fld := ⟨.const, 0x204, 8, 8, 0, 10, .rw, .f, 0⟩
def FP_STATUS_PRIV : Fld := ⟨.fp, 0x8, 1, 0, 16, 6, .ro, .l, 0⟩
def FP_STATUS_LOCKED : Fld := ⟨.fp, 0x8, 1, 0, 15, 1, .ro, .l, 0⟩
def FP_STATUS_SESSION : Fld := ⟨.fp, 0x8, 1, 0, 14, 1, .ro, .l, 0⟩
def FP_STATUS_RECOVERY : Fld := ⟨.fp, 0x8, 1, 0, 13, 1, .ro, .l, 0⟩
def FP_STATUS_CFGERR : Fld := ⟨.fp, 0x8, 1, 0, 12, 1, .ro, .l, 0⟩
def FP_STATUS_PLEVEL : Fld := ⟨.fp, 0x8, 1, 0, 10, 2, .ro, .l, 0⟩
def FP_STATUS_NOTEOVF : Fld := ⟨.fp, 0x8, 1, 0, 9, 1, .ro, .l, 0⟩
def FP_STATUS_NOTECNT : Fld := ⟨.fp, 0x8, 1, 0, 4, 5, .ro, .l, 0⟩
def FP_ID_DEVCODE : Fld := ⟨.fp, 0x0, 1, 0, 0, 32, .ro, .l, 0x51024b01⟩
def FP_READY_READY : Fld := ⟨.fp, 0x4, 1, 0, 0, 16, .ro, .l, 0⟩
def FP_NOTE_VALID : Fld := ⟨.fp, 0xC, 1, 0, 8, 1, .ro, .l, 0⟩
def FP_NOTE_NOTE : Fld := ⟨.fp, 0xC, 1, 0, 0, 8, .ro, .l, 0⟩
def FP_DOORBELL_NUM : Fld := ⟨.fp, 0x10, 1, 0, 0, 10, .wo, .l, 0⟩
def FP_FLASHDB_QHEAD : Fld := ⟨.fp, 0x14, 1, 0, 0, 7, .wo, .l, 0⟩
def FP_CQBASE_LO_LO : Fld := ⟨.fp, 0x20, 1, 0, 0, 32, .rw, .f, 0⟩
def FP_CQBASE_HI_HI : Fld := ⟨.fp, 0x24, 1, 0, 0, 32, .rw, .f, 0⟩
def FP_CPBASE_LO_LO : Fld := ⟨.fp, 0x28, 1, 0, 0, 32, .rw, .f, 0⟩
def FP_CPBASE_HI_HI : Fld := ⟨.fp, 0x2C, 1, 0, 0, 32, .rw, .f, 0⟩
def FP_QCFG_EN : Fld := ⟨.fp, 0x30, 1, 0, 31, 1, .rw, .l, 0⟩
def FP_QCFG_SIZE : Fld := ⟨.fp, 0x30, 1, 0, 0, 8, .rw, .f, 0⟩
def FP_CQTAIL_TAIL : Fld := ⟨.fp, 0x34, 1, 0, 0, 8, .rw, .l, 0⟩
def FP_CQHEAD_HEAD : Fld := ⟨.fp, 0x38, 1, 0, 0, 8, .ro, .l, 0⟩
def FP_CPHEAD_HEAD : Fld := ⟨.fp, 0x3C, 1, 0, 0, 8, .rw, .l, 0⟩
def FP_CPTAIL_TAIL : Fld := ⟨.fp, 0x40, 1, 0, 0, 8, .ro, .l, 0⟩
def DMA_CTRL_EN : Fld := ⟨.dma, 0x0, 1, 0, 31, 1, .rw, .l, 0⟩
def DMA_CTRL_ERR : Fld := ⟨.dma, 0x0, 1, 0, 30, 1, .ro, .l, 0⟩
def DMA_CTRL_DONE : Fld := ⟨.dma, 0x0, 1, 0, 29, 1, .ro, .l, 0⟩
def DMA_CTRL_MODE : Fld := ⟨.dma, 0x0, 1, 0, 26, 2, .rw, .f, 0⟩
def DMA_CTRL_RING : Fld := ⟨.dma, 0x0, 1, 0, 0, 10, .rw, .f, 0⟩
def DMA_HBASE_LO_LO : Fld := ⟨.dma, 0x4, 1, 0, 0, 32, .rw, .f, 0⟩
def DMA_HBASE_HI_HI : Fld := ⟨.dma, 0x8, 1, 0, 0, 32, .rw, .f, 0⟩
def DMA_HLEN_ITEMS : Fld := ⟨.dma, 0xC, 1, 0, 0, 23, .rw, .f, 0⟩
def DMA_HWPTR_LAP : Fld := ⟨.dma, 0x10, 1, 0, 31, 1, .rw, .l, 0⟩
def DMA_HWPTR_OFF : Fld := ⟨.dma, 0x10, 1, 0, 0, 22, .rw, .l, 0⟩
def DMA_HRPTR_LAP : Fld := ⟨.dma, 0x14, 1, 0, 31, 1, .rw, .l, 0⟩
def DMA_HRPTR_OFF : Fld := ⟨.dma, 0x14, 1, 0, 0, 22, .rw, .l, 0⟩
def DMA_HWB_LO_LO : Fld := ⟨.dma, 0x18, 1, 0, 0, 32, .rw, .f, 0⟩
def DMA_HWB_HI_HI : Fld := ⟨.dma, 0x1C, 1, 0, 0, 32, .rw, .f, 0⟩
def DMA_IRQ_TIMEOUT : Fld := ⟨.dma, 0x20, 1, 0, 16, 16, .rw, .l, 0⟩
def DMA_IRQ_BATCH : Fld := ⟨.dma, 0x20, 1, 0, 0, 16, .rw, .l, 0⟩
def DMA_DADDR_ADDR : Fld := ⟨.dma, 0x24, 1, 0, 0, 32, .rw, .f, 0⟩
def DMA_LEN_BYTES : Fld := ⟨.dma, 0x28, 1, 0, 0, 32, .rw, .f, 0⟩
def CHASSIS_CTRL_TERMDSTAR : Fld := ⟨.chassis, 0x0, 1, 0, 3, 1, .rw, .f, 1⟩
def CHASSIS_CTRL_TERMSYNC : Fld := ⟨.chassis, 0x0, 1, 0, 2, 1, .rw, .f, 1⟩
def CHASSIS_CTRL_TERMCLK : Fld := ⟨.chassis, 0x0, 1, 0, 1, 1, .rw, .f, 1⟩
def HOST_PCIE_DLUP : Fld := ⟨.host, 0x0, 1, 0, 31, 1, .ro, .l, 0⟩
def HOST_PCIE_PERST : Fld := ⟨.host, 0x0, 1, 0, 30, 1, .ro, .l, 1⟩
def HOST_PCIE_WIDTH : Fld := ⟨.host, 0x0, 1, 0, 26, 4, .ro, .l, 0⟩
def HOST_PCIE_SPEED : Fld := ⟨.host, 0x0, 1, 0, 23, 3, .ro, .l, 0⟩
def HOST_PCIEID_SSVID : Fld := ⟨.host, 0x4, 1, 0, 16, 16, .rw, .f, 0⟩
def HOST_PCIEID_SSID : Fld := ⟨.host, 0x4, 1, 0, 0, 16, .rw, .f, 0⟩
def HOST_MSIXRAISE_VEC : Fld := ⟨.host, 0x8, 1, 0, 0, 5, .wo, .l, 0⟩
def HOST_CP_QUAD : Fld := ⟨.host, 0xC, 1, 0, 16, 1, .ro, .l, 0⟩
def HOST_CP_REJECTS : Fld := ⟨.host, 0xC, 1, 0, 0, 16, .ro, .l, 0⟩
def HOST_SESS_OPEN : Fld := ⟨.host, 0x10, 4, 4, 31, 1, .ro, .l, 0⟩
def HOST_SESS_TRANSPORT : Fld := ⟨.host, 0x10, 4, 4, 29, 2, .ro, .l, 0⟩
def HOST_SESS_SLOT : Fld := ⟨.host, 0x10, 4, 4, 27, 2, .ro, .l, 0⟩
def HOST_SESS_PEER : Fld := ⟨.host, 0x10, 4, 4, 18, 9, .ro, .l, 0⟩
def HOST_SESS_PRIV : Fld := ⟨.host, 0x10, 4, 4, 0, 6, .ro, .l, 0⟩
def HOST_LOCK_FAILS : Fld := ⟨.host, 0x20, 3, 4, 24, 8, .ro, .l, 0⟩
def HOST_LOCK_REMAIN : Fld := ⟨.host, 0x20, 3, 4, 0, 16, .ro, .l, 0⟩
def CHASSIS_STATUS_SYNCOK : Fld := ⟨.chassis, 0x4, 1, 0, 4, 1, .ro, .l, 0⟩
def CHASSIS_STATUS_CLK10OK : Fld := ⟨.chassis, 0x4, 1, 0, 3, 1, .ro, .l, 0⟩
def CHASSIS_STATUS_CLK100OK : Fld := ⟨.chassis, 0x4, 1, 0, 2, 1, .ro, .l, 0⟩
def CHASSIS_STATUS_ARMED : Fld := ⟨.chassis, 0x4, 1, 0, 1, 1, .ro, .l, 0⟩
def CHASSIS_STATUS_VCTL33 : Fld := ⟨.chassis, 0x4, 1, 0, 0, 1, .ro, .l, 0⟩
def CHASSIS_SYNC_ARM : Fld := ⟨.chassis, 0x8, 1, 0, 31, 1, .rw, .l, 0⟩
def CHASSIS_SYNC_TRIG : Fld := ⟨.chassis, 0x8, 1, 0, 0, 3, .rw, .l, 0⟩
def CHASSIS_SYNCVAL_LO_LO : Fld := ⟨.chassis, 0xC, 1, 0, 0, 32, .rw, .l, 0⟩
def CHASSIS_SYNCVAL_HI_HI : Fld := ⟨.chassis, 0x10, 1, 0, 0, 32, .rw, .l, 0⟩
def CHASSIS_SYNCTS_LO_LO : Fld := ⟨.chassis, 0x14, 1, 0, 0, 32, .ro, .l, 0⟩
def CHASSIS_SYNCTS_HI_HI : Fld := ⟨.chassis, 0x18, 1, 0, 0, 32, .ro, .l, 0⟩
def CHASSIS_CLK10_FOFF : Fld := ⟨.chassis, 0x1C, 1, 0, 0, 32, .ro, .l, 0⟩
def CHASSIS_WAKE_EDGE : Fld := ⟨.chassis, 0x20, 1, 0, 8, 8, .rw, .l, 0⟩
def CHASSIS_WAKE_EN : Fld := ⟨.chassis, 0x20, 1, 0, 0, 8, .rw, .l, 0⟩
def SUP_READY_READY : Fld := ⟨.sup, 0x0, 1, 0, 0, 16, .ro, .l, 0⟩
def SUP_RESET_WARM : Fld := ⟨.sup, 0x10, 1, 0, 31, 1, .wo, .l, 0⟩
def SUP_RESET_WARMCNT : Fld := ⟨.sup, 0x10, 1, 0, 16, 8, .ro, .l, 0⟩
def SUP_RESET_FATALCNT : Fld := ⟨.sup, 0x10, 1, 0, 8, 8, .ro, .l, 0⟩
def SUP_RESET_CAUSE : Fld := ⟨.sup, 0x10, 1, 0, 0, 3, .ro, .l, 0⟩
def SUP_WDOG_WMAX : Fld := ⟨.sup, 0x14, 1, 0, 16, 16, .rw, .a, 10000⟩
def SUP_WDOG_WMIN : Fld := ⟨.sup, 0x14, 1, 0, 0, 16, .rw, .a, 0⟩
def SUP_ERRSTAT_HANDLING : Fld := ⟨.sup, 0x18, 1, 0, 31, 1, .ro, .l, 0⟩
def SUP_ERRSTAT_OVF : Fld := ⟨.sup, 0x18, 1, 0, 30, 1, .ro, .l, 0⟩
def SUP_ERRSTAT_DEPTH : Fld := ⟨.sup, 0x18, 1, 0, 16, 7, .ro, .l, 0⟩
def SUP_ERRSTAT_LOST : Fld := ⟨.sup, 0x18, 1, 0, 0, 16, .ro, .l, 0⟩
def SUP_SAFE_ACTIVE : Fld := ⟨.sup, 0x20, 1, 0, 31, 1, .ro, .l, 0⟩
def SUP_SAFE_FAULTN : Fld := ⟨.sup, 0x20, 1, 0, 30, 1, .ro, .l, 0⟩
def SUP_SAFE_CAUSE : Fld := ⟨.sup, 0x20, 1, 0, 4, 4, .ro, .l, 0⟩
def SUP_SAFE_CLR : Fld := ⟨.sup, 0x20, 1, 0, 0, 1, .wo, .l, 0⟩
def SUP_PWR_REQ : Fld := ⟨.sup, 0x24, 1, 0, 29, 3, .wo, .l, 0⟩
def SUP_PWR_RMASK : Fld := ⟨.sup, 0x24, 1, 0, 8, 8, .rw, .l, 255⟩
def SUP_PWR_STATE : Fld := ⟨.sup, 0x24, 1, 0, 0, 3, .ro, .l, 0⟩
def SUP_MON_TJ : Fld := ⟨.sup, 0x30, 1, 0, 24, 8, .ro, .l, 0⟩
def SUP_MON_HOT : Fld := ⟨.sup, 0x30, 1, 0, 6, 1, .ro, .l, 0⟩
def SUP_MON_OUT : Fld := ⟨.sup, 0x30, 1, 0, 0, 6, .ro, .l, 0⟩
def SUP_PREADY_MAP : Fld := ⟨.sup, 0x4, 1, 0, 0, 32, .ro, .l, 0⟩
def SUP_ZREADY_LO_MAP : Fld := ⟨.sup, 0x8, 1, 0, 0, 32, .ro, .l, 0⟩
def SUP_ZREADY_HI_MAP : Fld := ⟨.sup, 0xC, 1, 0, 0, 32, .ro, .l, 0⟩
def SUP_ERRRING_EN : Fld := ⟨.sup, 0x1C, 1, 0, 31, 1, .rw, .l, 0⟩
def SUP_ERRRING_RING : Fld := ⟨.sup, 0x1C, 1, 0, 0, 10, .rw, .l, 0⟩
def SUP_OWNQADDR_ADDR : Fld := ⟨.sup, 0x28, 1, 0, 0, 32, .rw, .l, 0⟩
def SUP_OWNQ_VALID : Fld := ⟨.sup, 0x2C, 1, 0, 31, 1, .ro, .l, 0⟩
def SUP_OWNQ_OWNER : Fld := ⟨.sup, 0x2C, 1, 0, 0, 6, .ro, .l, 32⟩

end Sys2Proof.F

namespace Sys2Proof.Machine

open Sys2Proof.F

/-- The fields of block `time`, in the order of the spec's tables. -/
def regsTime : List Fld := [
  TIME_CTRL_STEPGO, TIME_CTRL_LOCALOFF, TIME_CTRL_REVERT, TIME_CTRL_AUTORET, TIME_CTRL_FORCESW, TIME_CTRL_PULL,
  TIME_CTRL_SLEWPPM, TIME_STATUS_STEPCNT, TIME_STATUS_XTALOK, TIME_STATUS_STBYREADY, TIME_STATUS_ACTIVE,
  TIME_STATUS_HOLDOVER, TIME_STATUS_FREERUN, TIME_STATUS_SLEWING, TIME_STATUS_LOCAL, TIME_STATUS_CONSTOWN,
  TIME_STATUS_TPLL1LOCK, TIME_STATUS_TPLL0LOCK, TIME_STATUS_COUNTING, TIME_REFSEL_CH10M, TIME_REFSEL_REF1,
  TIME_REFSEL_REF0, TIME_REFMON_REFTOL, TIME_REFMON_QUAL, TIME_REFMON_VAL10M, TIME_REFMON_VAL100,
  TIME_REFMON_VALXTAL, TIME_NOW_LO_NOWLO, TIME_NOW_HI_NOWHI, TIME_SLEW_OFFSET, TIME_STEP_LO_DLO, TIME_STEP_HI_DHI,
  TIME_PPSOFF_OFFTICK, TIME_FREQ_FOFF, TIME_PPSCFG_EN, TIME_PPSCFG_EDGE, TIME_PPSCFG_PPSSTEP, TIME_PPSCFG_CH,
  TIME_PPSCFG_STEPLIM, TIME_TPLL_0_BANDVALID, TIME_TPLL_0_BAND, TIME_TPLL_0_LOCKED, TIME_TPLL_0_FROZEN,
  TIME_TPLL_1_BANDVALID, TIME_TPLL_1_BAND, TIME_TPLL_1_LOCKED, TIME_TPLL_1_FROZEN]

/-- The fields of block `mpll`, in the order of the spec's tables. -/
def regsMpll : List Fld := [
  MPLL_CTRL_SEARCH, MPLL_CTRL_REFSRC, MPLL_CTRL_GOUT, MPLL_CTRL_HOLD, MPLL_CTRL_EN, MPLL_DIV_N, MPLL_DIV_M,
  MPLL_LOCKDET_WEXP, MPLL_LOCKDET_LOCKCNT, MPLL_LOCKDET_TOL, MPLL_STATUS_LOCKED, MPLL_STATUS_HELD,
  MPLL_STATUS_SEARCHING, MPLL_STATUS_HOPPING, MPLL_STATUS_REFOK, MPLL_STATUS_K, MPLL_STATUS_BAND, MPLL_GUARD_TGUARD,
  MPLL_FREF_FREF, MPLL_SWALLOW_COUNT, MPLL_REFCH_CH, MPLL_BAND_VALID, MPLL_BAND_BAND, MPLL_BAND_KEY]

/-- The fields of block `mt`, in the order of the spec's tables. -/
def regsMt : List Fld := [
  MT_CTRL_XREC, MT_CTRL_RECEN, MT_CTRL_PRESETEN, MT_CTRL_BREACHACT, MT_CTRL_POLICY, MT_CTRL_IDXEDGE, MT_CTRL_IDXMODE,
  MT_CTRL_MODE, MT_CTRL_INVERT, MT_CTRL_EN, MT_INSEL_ICH, MT_INSEL_BCH, MT_INSEL_ACH, MT_FILT_IGLITCH,
  MT_FILT_GLITCH, MT_EST_BREACHN, MT_EST_AAVG, MT_EST_VAVG, MT_HORIZON_AMENDTOL, MT_HORIZON_H, MT_STATUS_BREACH,
  MT_STATUS_FRACCOAST, MT_STATUS_STALE, MT_STATUS_DIR, MT_STATUS_STATE, MT_SLOTS_COMMITTED, MT_SLOTS_ARMED,
  MT_AMAX_AMAX, MT_DROP_DROPK, MT_COAST_LIMIT, MT_POS_LO_PLO, MT_POS_HI_PHI, MT_VEL_VEL, MT_ACC_ACC,
  MT_IDXPOS_LO_ILO, MT_IDXPOS_HI_IHI, MT_IDXVAL_IVAL, MT_PRESET_LO_SLO, MT_PRESET_HI_SHI, MT_RING_RING,
  MT_ERRCNT_GLITCH, MT_ERRCNT_OVERSPEED, MT_SAFESET_MASK]

/-- The fields of block `sill`, in the order of the spec's tables. -/
def regsSill : List Fld := [
  SILL_CTRL_OD, SILL_CTRL_IDRV, SILL_CTRL_ILVL, SILL_CTRL_POSEN, SILL_CTRL_POSMT, SILL_CTRL_CEDGE, SILL_CTRL_CEN,
  SILL_CTRL_LREC, SILL_CTRL_LATEPOL, SILL_CTRL_EN, SILL_DSK_LDSK, SILL_DSK_CDSK, SILL_RING_LREN, SILL_RING_LRING,
  SILL_RING_CRING, SILL_STAT_PULSE, SILL_STAT_DRV, SILL_STAT_LEVEL, SILL_STAT_FDEPTH, SILL_STAT_QDEPTH,
  SILL_NEXTTAG_VALID, SILL_NEXTTAG_FIXED, SILL_NEXTTAG_TRK, SILL_NEXTTAG_ACTION, SILL_NEXTTAG_TAG,
  SILL_LATECNT_FIRED, SILL_LATECNT_DISCARDED, SILL_LOSTCNT_DEAD, SILL_LOSTCNT_LOST, SILL_CAPT_LO_CLO,
  SILL_CAPT_HI_CHI, SILL_NEXT_LO_NLO, SILL_NEXT_HI_NHI, SILL_CMD_CLRCNT, SILL_CMD_CANCELALL]

/-- The fields of block `port`, in the order of the spec's tables. -/
def regsPort : List Fld := [
  PORT_STATUS_CONVREADY, PORT_STATUS_VIOCODE, PORT_TH_B, PORT_TH_A, PORT_LVDS_TERM, PORT_LVDS_PAIR, PORT_CONV_EN,
  PORT_WAKE_EDGE1, PORT_WAKE_EN1, PORT_WAKE_EDGE0, PORT_WAKE_EN0, PORT_SET_MASK, PORT_CLR_MASK, PORT_TGL_MASK,
  PORT_OUT_LEVEL, PORT_OE_OE, PORT_IN_IN, PORT_LOCK_KEY, PORT_LOCKMASK_MASK, PORT_LOCKED_MASK, PORT_SAFESET_MASK,
  PORT_SAFECLR_MASK, PORT_SAFEACT_MASK, PORT_PIN_SAFE, PORT_PIN_ANA, PORT_PIN_INEN, PORT_PIN_FUNC, PORT_PIN_MSEL,
  PORT_PIN_CSEL, PORT_PIN_THSEL, PORT_PIN_HYS, PORT_PIN_PULL, PORT_PIN_SLEW, PORT_PIN_DRIVE]

/-- The fields of block `atn`, in the order of the spec's tables. -/
def regsAtn : List Fld := [
  ATN_CTRL_EN, ATN_CTRL_PORT, ATN_CTRL_SENSE, ATN_ROUTE_SUP, ATN_ROUTE_SE, ATN_STAT_MISSED, ATN_STAT_ACTIVE,
  ATN_SEQ_MASK, ATN_ZONE_LO_MASK, ATN_ZONE_HI_MASK, ATN_TS_LO_TLO, ATN_TS_HI_THI]

/-- The fields of block `seq`, in the order of the spec's tables. -/
def regsSeq : List Fld := [
  SEQ_CTRL_START, SEQ_CTRL_RESUME, SEQ_CTRL_HALT, SEQ_CTRL_STEP, SEQ_CTRL_FAULTACT, SEQ_STATUS_WAITKIND,
  SEQ_STATUS_STKDEPTH, SEQ_STATUS_ALARMARM, SEQ_STATUS_POSTDEPTH, SEQ_STATUS_STATE, SEQ_FAULT_RESTARTS,
  SEQ_FAULT_CAUSE, SEQ_FAULT_FPC, SEQ_WDOG_WLIM, SEQ_WDOG_RUNLIM, SEQ_STREAM_EN, SEQ_STREAM_DIR, SEQ_STREAM_RWM,
  SEQ_STREAM_RING, SEQ_WVEC_MODE, SEQ_WVEC_SRC, SEQ_WVEC_INDEX, SEQ_WVEC_HANDLER, SEQ_ENTRY_ADDR, SEQ_PC_PC,
  SEQ_WEN_EN, SEQ_WPEND_PEND, SEQ_SIGPEND_PEND, SEQ_ALARM_LO_ALO, SEQ_ALARM_HI_AHI, SEQ_SIGMERGE_MERGED]

/-- The fields of block `zone`, in the order of the spec's tables. -/
def regsZone : List Fld := [
  ZONE_CTRL_HOLD, ZONE_CTRL_BORROW, ZONE_CTRL_SIGPOL, ZONE_STATUS_STATE, ZONE_STATUS_ACTPLANE, ZONE_STATUS_SHDVALID,
  ZONE_STATUS_STAGED, ZONE_STATUS_LOADING, ZONE_STATUS_ICLK1RUN, ZONE_STATUS_ICLK0RUN, ZONE_ICLK_0_SRC,
  ZONE_ICLK_0_MSEL, ZONE_ICLK_0_DIV, ZONE_ICLK_1_SRC, ZONE_ICLK_1_MSEL, ZONE_ICLK_1_DIV, ZONE_IMIN_MIN1,
  ZONE_IMIN_MIN0, ZONE_PID_ACT_PID, ZONE_PID_SHD_PID, ZONE_ATNPEND_PEND, ZONE_GWREFUSED_COUNT, ZONE_SWCTL_XSWAP,
  ZONE_SWCTL_SWEEP, ZONE_SWCTL_SURVRAM, ZONE_SWCMD_RELOAD, ZONE_SWCMD_UNSTAGE, ZONE_SIGSTAT_SURVFAIL,
  ZONE_SIGSTAT_RELOADING, ZONE_SIGSTAT_MISMATCH, ZONE_RELOAD_VALID, ZONE_RELOAD_BLOCK, ZONE_RELOAD_SHD_VALID,
  ZONE_RELOAD_SHD_BLOCK, ZONE_SWTIME_LO_SLO, ZONE_SWTIME_HI_SHI, ZONE_GOLD_LO_GLO, ZONE_GOLD_HI_GHI,
  ZONE_WEAR_A_COUNT, ZONE_WEAR_B_COUNT]

/-- The fields of block `sup`, in the order of the spec's tables. -/
def regsSup : List Fld := [
  SUP_BOOT_CFGERR, SUP_BOOT_FALLBACK, SUP_BOOT_REBUILT, SUP_BOOT_AUDITDONE, SUP_BOOT_AUDITFAIL, SUP_BOOT_FAILSTEP,
  SUP_BOOT_NREBUILT, SUP_LOADSTAT_BUSY, SUP_LOADSTAT_LASTOK, SUP_LOADSTAT_FAILSTEP, SUP_LOADSTAT_FRAMES,
  SUP_LOADCMD_ABORT, SUP_SURVCTL_EN, SUP_SURVCTL_PERIOD, SUP_SURVSTAT_PHASE, SUP_SURVSTAT_ZONE, SUP_SURVSTAT_YIELDS,
  SUP_SWEEPSTAT_ROUNDS, SUP_SWEEPSTAT_MISMATCH, SUP_READY_READY, SUP_RESET_WARM, SUP_RESET_WARMCNT,
  SUP_RESET_FATALCNT, SUP_RESET_CAUSE, SUP_WDOG_WMAX, SUP_WDOG_WMIN, SUP_ERRSTAT_HANDLING, SUP_ERRSTAT_OVF,
  SUP_ERRSTAT_DEPTH, SUP_ERRSTAT_LOST, SUP_SAFE_ACTIVE, SUP_SAFE_FAULTN, SUP_SAFE_CAUSE, SUP_SAFE_CLR, SUP_PWR_REQ,
  SUP_PWR_RMASK, SUP_PWR_STATE, SUP_MON_TJ, SUP_MON_HOT, SUP_MON_OUT, SUP_PREADY_MAP, SUP_ZREADY_LO_MAP,
  SUP_ZREADY_HI_MAP, SUP_ERRRING_EN, SUP_ERRRING_RING, SUP_OWNQADDR_ADDR, SUP_OWNQ_VALID, SUP_OWNQ_OWNER]

/-- The fields of block `caldera`, in the order of the spec's tables. -/
def regsCaldera : List Fld := [
  CALDERA_PWR_G, CALDERA_ECC_CORR, CALDERA_ECC_UNCORR, CALDERA_PWRSTAT_G, CALDERA_COLL_LO_BANK, CALDERA_COLL_HI_BANK,
  CALDERA_ECCADDR_ADDR, CALDERA_COLLADDR_ADDR]

/-- The fields of block `ring`, in the order of the spec's tables. -/
def regsRing : List Fld := [
  RING_CTRL_EN, RING_CTRL_PROD, RING_CTRL_CONS, RING_BASE_BASE, RING_LEN_LEN, RING_NEWLEN_PENDING,
  RING_NEWLEN_NEWLEN, RING_WPTR_LAP, RING_WPTR_OFF, RING_RPTR_LAP, RING_RPTR_OFF, RING_WM_DIR, RING_WM_ITEMS,
  RING_STAT_FULL, RING_STAT_EMPTY, RING_STAT_TAIL, RING_STAT_FULLCNT]

/-- The fields of block `se`, in the order of the spec's tables. -/
def regsSe : List Fld := [
  SE_CTRL_START, SE_CTRL_RESUME, SE_CTRL_HALT, SE_CTRL_STEP, SE_CTRL_FAULTACT, SE_STATUS_RRB, SE_STATUS_PAIR,
  SE_STATUS_SHADOW, SE_STATUS_LEVEL, SE_STATUS_LOOPDEPTH, SE_STATUS_CALLDEPTH, SE_STATUS_STATE, SE_FAULT_RESTARTS,
  SE_FAULT_CAUSE, SE_FAULT_FPC, SE_MODE_SATACC, SE_MODE_SAT, SE_MODE_SCALE, SE_GOV_GOV, SE_GOV_GOVPC, SE_VEC_VEC2,
  SE_VEC_VEC1, SE_SCFG_EN, SE_SCFG_DIR, SE_SCFG_RING, SE_SWIN_LLEN, SE_SWIN_LBASE, SE_ENTRY_WORD, SE_PC_PC,
  SE_IRQEN_EN, SE_IRQLVL_L2, SE_IRQPEND_PEND, SE_IRQSET_SW, SE_ATNEN_EN, SE_ATNPEND_PEND, SE_SWM_LWM,
  SE_SAVAIL_AVAIL]

/-- The fields of block `flash`, in the order of the spec's tables. -/
def regsFlash : List Fld := [
  FLASH_QCFG_HOSTQ, FLASH_QCFG_QSIZE, FLASH_STATUS_DONECNT, FLASH_STATUS_BUSYREAD, FLASH_STATUS_JERASE,
  FLASH_STATUS_PLEVEL, FLASH_STATUS_SUSP, FLASH_STATUS_BUSY, FLASH_STATUS_ACTBOOT, FLASH_CMD_RESUME,
  FLASH_CMD_SUSPEND, FLASH_NOTIFY_TGT, FLASH_NOTIFY_BIT, FLASH_QBASE_LO_LO, FLASH_QBASE_HI_HI, FLASH_QHEAD_HEAD,
  FLASH_QTAIL_TAIL, FLASH_ECC_CORR, FLASH_ECC_UNCORR, FLASH_SELSEQ_SEQ, FLASH_UID_LO_LO, FLASH_UID_HI_HI,
  FLASH_UNDEF_MAP, FLASH_BSTAT_LO_LO, FLASH_BSTAT_HI_HI]

/-- The fields of block `link`, in the order of the spec's tables. -/
def regsLink : List Fld := [
  LINK_CTRL_EN, LINK_CTRL_RATE, LINK_CTRL_NOTREE, LINK_CTRL_CLRCNT, LINK_STATUS_STATE, LINK_STATUS_RATE10,
  LINK_STATUS_LONG, LINK_STATUS_ROLE, LINK_STATUS_PEERNUM, LINK_STATUS_PEEROK, LINK_STATUS_PEERPRIO, LINK_PEER_LO_LO,
  LINK_PEER_HI_HI, LINK_DELAY_STEPS, LINK_ASYM_STEPS, LINK_OFFSET_STEPS, LINK_ERR_CRCERR, LINK_ERR_REPLAY,
  LINK_DOWNCNT_COUNT]

/-- The fields of block `const`, in the order of the spec's tables. -/
def regsConst : List Fld := [
  CONST_CTRL_EN, CONST_CTRL_XCHAS, CONST_CTRL_RECEN, CONST_STATUS_DEPTH, CONST_STATUS_ROOT, CONST_STATUS_AHOLD,
  CONST_STATUS_PHASE, CONST_BAR_EN, CONST_BAR_SUPM, CONST_BAR_GEN, CONST_XSTR_EN, CONST_XSTR_DRING, CONST_XSTR_DEV,
  CONST_ID_VALID, CONST_ID_NUM, CONST_PREF_VALID, CONST_PREF_NUM, CONST_PRIO_PRIO, CONST_ROOT_LO_LO,
  CONST_ROOT_HI_HI, CONST_TOPO_COUNT, CONST_TOPO_DEPTHMAX, CONST_TOPO_DIAM, CONST_EXPECT_COUNT, CONST_ALIGN_STEPLIM,
  CONST_HOPQ_VALID, CONST_HOPQ_LINK, CONST_HOPQ_HOPS, CONST_HOPQ_DEV, CONST_XPORT_MASK, CONST_XSIG_MASK,
  CONST_RING_RING, CONST_BARM_MASK, CONST_XSTRS_CREDITS, CONST_XSTRS_SRING]

/-- The fields of block `fp`, in the order of the spec's tables. -/
def regsFp : List Fld := [
  FP_STATUS_PRIV, FP_STATUS_LOCKED, FP_STATUS_SESSION, FP_STATUS_RECOVERY, FP_STATUS_CFGERR, FP_STATUS_PLEVEL,
  FP_STATUS_NOTEOVF, FP_STATUS_NOTECNT, FP_ID_DEVCODE, FP_READY_READY, FP_NOTE_VALID, FP_NOTE_NOTE, FP_DOORBELL_NUM,
  FP_FLASHDB_QHEAD, FP_CQBASE_LO_LO, FP_CQBASE_HI_HI, FP_CPBASE_LO_LO, FP_CPBASE_HI_HI, FP_QCFG_EN, FP_QCFG_SIZE,
  FP_CQTAIL_TAIL, FP_CQHEAD_HEAD, FP_CPHEAD_HEAD, FP_CPTAIL_TAIL]

/-- The fields of block `dma`, in the order of the spec's tables. -/
def regsDma : List Fld := [
  DMA_CTRL_EN, DMA_CTRL_ERR, DMA_CTRL_DONE, DMA_CTRL_MODE, DMA_CTRL_RING, DMA_HBASE_LO_LO, DMA_HBASE_HI_HI,
  DMA_HLEN_ITEMS, DMA_HWPTR_LAP, DMA_HWPTR_OFF, DMA_HRPTR_LAP, DMA_HRPTR_OFF, DMA_HWB_LO_LO, DMA_HWB_HI_HI,
  DMA_IRQ_TIMEOUT, DMA_IRQ_BATCH, DMA_DADDR_ADDR, DMA_LEN_BYTES]

/-- The fields of block `chassis`, in the order of the spec's tables. -/
def regsChassis : List Fld := [
  CHASSIS_CTRL_TERMDSTAR, CHASSIS_CTRL_TERMSYNC, CHASSIS_CTRL_TERMCLK, CHASSIS_STATUS_SYNCOK, CHASSIS_STATUS_CLK10OK,
  CHASSIS_STATUS_CLK100OK, CHASSIS_STATUS_ARMED, CHASSIS_STATUS_VCTL33, CHASSIS_SYNC_ARM, CHASSIS_SYNC_TRIG,
  CHASSIS_SYNCVAL_LO_LO, CHASSIS_SYNCVAL_HI_HI, CHASSIS_SYNCTS_LO_LO, CHASSIS_SYNCTS_HI_HI, CHASSIS_CLK10_FOFF,
  CHASSIS_WAKE_EDGE, CHASSIS_WAKE_EN]

/-- The fields of block `host`, in the order of the spec's tables. -/
def regsHost : List Fld := [
  HOST_PCIE_DLUP, HOST_PCIE_PERST, HOST_PCIE_WIDTH, HOST_PCIE_SPEED, HOST_PCIEID_SSVID, HOST_PCIEID_SSID,
  HOST_MSIXRAISE_VEC, HOST_CP_QUAD, HOST_CP_REJECTS, HOST_SESS_OPEN, HOST_SESS_TRANSPORT, HOST_SESS_SLOT,
  HOST_SESS_PEER, HOST_SESS_PRIV, HOST_LOCK_FAILS, HOST_LOCK_REMAIN]

/-- The register table of a block. -/
def regTable : Blk → List Fld
  | .time => regsTime
  | .mpll => regsMpll
  | .mt => regsMt
  | .sill => regsSill
  | .port => regsPort
  | .atn => regsAtn
  | .seq => regsSeq
  | .zone => regsZone
  | .sup => regsSup
  | .caldera => regsCaldera
  | .ring => regsRing
  | .se => regsSe
  | .flash => regsFlash
  | .link => regsLink
  | .const => regsConst
  | .fp => regsFp
  | .dma => regsDma
  | .chassis => regsChassis
  | .host => regsHost

end Sys2Proof.Machine
end

