-- ==== Sys2Proof/Machine/State.lean ====
section
/-! DEFINITION. The state of the SL1024: everything the spec gives the part, as plain data.

Two homes hold it. `regs` holds every register FIELD that software can read and that nothing else below
determines (its value at reset stands in the register table); the structures below hold what a register field does not
show whole. `ConfigRead` composes a register's word from both. Log entries 1 to 6 name what is the model's own. -/

namespace Sys2Proof.Machine

/-- Why a step stops the model. The spec gives the block no stop of its own, so only an ill-formed command stops. -/
inductive Fault where
  /-- Raised by a meaning whose command carries a list that the spec gives another length (`Instr.wellFormed` is
  false of it). Safe: no such command exists. -/
  | malformed (what : String)
  deriving DecidableEq, Repr

/-- Why a command has no meaning. -/
inductive Refusal where
  /-- Raised by `exec` for a command whose arm has no meaning yet, by its mnemonic. Safe: nothing can be proved of it. -/
  | notModelled (mnemonic : String)
  deriving DecidableEq, Repr

/-- An event record of R126, 16 bytes when packed. -/
structure EvRec where
  ts : Stamp
  source : Nat
  kind : Nat
  flags : Nat
  payload : Nat
  deriving DecidableEq, Repr

/-- An error record of R490, 32 bytes when packed. -/
structure ErrRec where
  code : Nat
  source : Nat
  count : Nat
  flags : Nat
  ts : Stamp
  detail : List Nat
  deriving DecidableEq, Repr

/-- A loop of the time base (R40 to R47, R55). -/
structure TimeLoop where
  locked : Bool := false
  shadow : Bool := false
  frozen : Bool := false
  searching : Bool := false
  misses : Nat := 0
  deriving DecidableEq, Repr

/-- A reference as R40 judges it; its windows of 100 µs are counted from tick `since` on. -/
structure RefState where
  qualified : Bool := false
  lostBefore : Bool := false
  since : Nat := 0
  deriving DecidableEq, Repr

/-- How the time clock's frequency stands against the crystal (R41, R43, R45): held at a value in ppb, pulled from one since
a tick at a rate in 0.01 ppm per ms, with what the pull had come to before that tick as rate × ticks, or that of the reference
the active loop is locked to. -/
inductive LoopFreq where
  | held (ppb : Int)
  | pull (ppb : Int) (start : Nat) (rate : Nat) (done : Nat)
  | follow
  deriving DecidableEq, Repr

/-- The time base (R32 to R55). `slewAcc` counts millionths of a step on the way to the next absorbed step;
`emitted` lists the record sources that have written since the last step, for STEP of R52; `switchPending` says that the
switchover of R42 or R44 comes at the next tick boundary; `ppsTick` is the tick of the last PPS edge; `freq` is the
active loop's frequency and `trim` what the PPS discipline has added to it, in steps per second (R53); `phase` is the
register clock's place among the ticks, modulo 8 (R36); `since` is the tick at which the counter began to count, `steps` the latest
steps with their ticks. -/
structure TimeState where
  counter : Stamp := 0
  counting : Bool := false
  lockSeen : Bool := false
  snap : Stamp := 0
  slewRem : Int := 0
  slewAcc : Nat := 0
  stepCnt : Nat := 0
  active : Nat := 0
  holdover : Bool := false
  holdRec : Bool := false
  freerun : Bool := false
  xtalOk : Bool := false
  localRec : Bool := true
  loop0 : TimeLoop := {}
  loop1 : TimeLoop := {}
  refXtal : RefState := {}
  ref100 : RefState := {}
  ref10m : RefState := {}
  holdStart : Nat := 0
  stepped : Bool := false
  emitted : List Nat := []
  ppsErr : Int := 0
  ppsSeen : Bool := false
  ppsTick : Nat := 0
  switchPending : Bool := false
  freq : LoopFreq := .held 0
  trim : Int := 0
  phase : Nat := 0
  since : Nat := 0
  steps : List (Nat × Stamp) := []
  deriving DecidableEq, Repr

/-- What an MPLL is doing (R58). -/
inductive MpllPhase where
  | off | measuring | hopping | searching | detecting | holding | outOfRange
  deriving DecidableEq, Repr

/-- The hidden part of an MPLL (R57 to R66). `byProgram`, `byTracker`, `byLoss` are the causes of the held state; `change` is the
held change of R60 (N, M, REFSRC); `used` orders band-table entries, least recently used first (R59); `restart` says that R58 runs
again when the held state ends; `win` and `tol` are W and TOL of the window that runs (R63); after EN clears, `cleared` and
`lowAt` are the tick of that and the tick of the falling edge at which the guarded outputs stop low (R66). -/
structure Mpll where
  phase : MpllPhase := .off
  good : Nat := 0
  bad : Nat := 0
  byProgram : Bool := false
  byTracker : Bool := false
  byLoss : Bool := false
  forceSearch : Bool := false
  change : Option (Nat × Nat × Nat) := none
  used : List Nat := []
  swallowing : Bool := false
  restart : Bool := false
  win : Nat := 0
  tol : Nat := 0
  cleared : Nat := 0
  lowAt : Nat := 0
  deriving DecidableEq, Repr

/-- A pending launch entry of a sill (R105, R109). `time` is the launch instant, T′ once the entry is late under FIRE;
`asked` its TIME then, and `lateBy` its lateness in ticks; `src` its source as an agent code; `held` the tracker it comes from, and
the slot + 256 × the number of its commit; `closed` says that its window has closed (R90, R117). -/
structure QEntry where
  time : Stamp
  asked : Option Stamp := none
  action : Nat
  width : Nat
  tag : Nat
  src : Nat
  dev : Nat
  remote : Bool := false
  held : Option (Nat × Nat) := none
  closed : Bool := false
  fixed : Bool := false
  lateBy : Nat := 0
  amended : Bool := false
  coast : Bool := false
  deriving DecidableEq, Repr

/-- The active pulse of a sill (R113): the level its trailing edge restores, its end, and its record's content. -/
structure Pulse where
  restore : Bool
  ends : Stamp
  tag : Nat
  flags : Nat
  deriving DecidableEq, Repr

/-- An amendment-lane item (R119): tracker, slot + 256 × the number of its commit, new time (none: cancellation),
and whether the amendment was made outside TRACK. -/
structure HeldItem where
  tracker : Nat
  slot : Nat
  time : Option Stamp
  coast : Bool
  deriving DecidableEq, Repr

/-- A sill (R105 to R143). `lastChange`, `lastEdge` are real instants in steps since power-on; `shown` lists the level and driver
state that the pin shows before a tick (R135); `waiting` holds the entries that found the queue full with the lane source they
hold back (R112, R232), in order of arrival, with a tracker's number above 2048 for its commits; `samples` the apertures granted
and not yet converted: instant, tag, flags with those of the time base as of the aperture. -/
structure Sill where
  level : Bool := false
  driver : Bool := false
  shown : List (Nat × Bool × Bool) := []
  queue : List QEntry := []
  waiting : List (Nat × QEntry) := []
  pulse : Option Pulse := none
  fifo : List EvRec := []
  lostSince : Nat := 0
  lastChange : Option Int := none
  lastEdge : Option Int := none
  captTs : Stamp := 0
  captSnap : Nat := 0
  nextSnapHi : Nat := 0
  nextSnapTag : Nat := 0
  held : List HeldItem := []
  samples : List (Stamp × Nat × Nat) := []
  deriving DecidableEq, Repr

/-- What a pin's output shows: level and enable; none where the spec leaves it to the outside (R148). -/
structure PinDrive where
  level : Option Bool := some false
  enable : Option Bool := some false
  deriving DecidableEq, Repr

/-- A function switch in progress at a pin (R157, R160): its boundary tick; the tick from which its input takes no edge (R158) and
the one from which writes to its register are held (R160), which come earlier where a switch follows another within two ticks;
what the pin shows before it where an earlier hold latch does; what the hold latch drives, once the boundary has come; whether a
safe override is applied or ended; whether the sill function comes or goes (R159); whether the hold tick is over; and the writes
held for the pin's register (master, none for a PFUNC, and value). -/
structure PinSwitch where
  boundary : Nat
  shut : Nat := boundary
  holds : Nat := boundary
  before : Option PinDrive := none
  latch : Option PinDrive := none
  safe : Bool := false
  sill : Bool := false
  driving : Bool := false
  writes : List (Option Nat × Nat) := []
  deriving DecidableEq, Repr

/-- How the input buffers of a port stood before a tick (R36, R151), one bit per pin: the input reads 0; the device drives it;
the level it drives or the keeper holds; its pull is up, down, or a keeper with a level to hold; `since` is the tick from which they
have stood so. -/
structure PinShot where
  tick : Nat
  since : Nat := 0
  zero : Nat := 0
  drv : Nat := 0
  lvl : Nat := 0
  up : Nat := 0
  down : Nat := 0
  keep : Nat := 0
  deriving DecidableEq, Repr

/-- What a zone's personality gave the FFAB pins of a port before its swap or reset, until the hold tick of `boundary` is over
(R173, R300): the outputs known, their levels and enables, and whether the personality ran. -/
structure FabHold where
  boundary : Nat
  known : Nat
  out : Nat
  ran : Bool
  en : Nat := known
  deriving DecidableEq, Repr

/-- A lock sequence under way (R170): its master, how many of the three writes have come, the mask, the tick it began. -/
structure LockSeq where
  master : Nat
  stage : Nat
  mask : Nat
  start : Nat
  deriving DecidableEq, Repr

/-- A port (R145 to R173). `lastAperture` is the real instant of the last granted aperture; `safeHeld` is what a pin showed at
the boundary of its safe override (R168); `early` holds the SAMPLEs that wait for CONVREADY (sill and entry, R163); `past`
tells how the inputs stood before a tick, up to `stirred`, the last tick at which something of the port changed; `kept` is the
level last seen at the pins of `keptKnown` (R152); `fabOut` holds the level that a reflex path last gave a pin, for the pins
of `fabKnown` (R139, R148), and `fabHold` what stood there before. -/
structure Port where
  lastAperture : Option Int := none
  safeHeld : Store PinDrive := []
  locks : List LockSeq := []
  switches : Store (Option PinSwitch) := []
  early : List (Nat × QEntry) := []
  past : List PinShot := []
  stirred : Nat := 0
  kept : Nat := 0
  keptKnown : Nat := 0
  fabOut : Nat := 0
  fabKnown : Nat := 0
  fabHold : Option FabHold := none
  deriving DecidableEq, Repr

/-- Who takes an attention event (R165). -/
inductive AtnTarget where
  | zone (k : Nat)
  | seq (q : Nat)
  | engine (e : Nat)
  deriving DecidableEq, Repr

/-- An attention line (R164 to R167): the targets whose event is pending, those of them it is still on its way to, the last
timestamp, its snapshot, the level sensed last, the real instant of the last edge timestamped at the pin for the line (R122), the
tick before which no event comes, and whether a level that holds at that tick raises one (R167); the targets that have
acknowledged a level, each with the tick at which the level raises its event again if it still holds (R166). -/
structure Atn where
  pending : List AtnTarget := []
  flying : List AtnTarget := []
  ts : Stamp := 0
  snap : Nat := 0
  level : Bool := false
  last : Option Int := none
  since : Nat := 0
  due : Bool := false
  again : List (AtnTarget × Nat) := []
  deriving DecidableEq, Repr

/-- A position-match slot (R81 to R92, R103). `x` is the raw 48.16 position; `state` 0 free, 1 armed, 2 committed;
`pred` the predicted crossing; `time` the committed time; `seen` the position when the slot was
armed or amended, until the next count edge or jump (R82); `gen` counts the slot's commits; `armedAt` and `born` are 1 + the ticks
of its arming and of its last commit (R85). -/
structure Slot where
  x : Int := 0
  state : Nat := 0
  dir : Nat := 0
  action : Nat := 0
  coast : Bool := false
  amended : Bool := false
  owner : Nat := 0
  ch : Nat := 0
  width : Nat := 0
  tag : Nat := 0
  pred : Option Stamp := none
  time : Stamp := 0
  seen : Option Int := none
  gen : Nat := 0
  armedAt : Nat := 0
  born : Nat := 0
  deriving DecidableEq, Repr

/-- A count edge the estimator remembers (R76, R77): timestamp, count, referred velocity in counts per step. -/
structure TEdge where
  t : Stamp
  n : Int
  v : Rat
  deriving DecidableEq, Repr

/-- An edge inside a glitch filter (R72): line 0 A, 1 B, 2 I; `span` is the filter's span in steps as the edge came. -/
structure PendEdge where
  t : Stamp
  line : Nat
  rise : Bool
  span : Nat := 0
  deriving DecidableEq, Repr

/-- A fixed entry whose slot is freed and whose launch lies ahead (R91). -/
structure Watch where
  slot : Nat
  tag : Nat
  x : Int
  dir : Nat
  time : Stamp
  deriving DecidableEq, Repr

/-- Tracker states (R80). -/
inductive MtState where
  | off | acq | track | still | coast | overlimit
  deriving DecidableEq, Repr

/-- What a tracker's position reads from a count edge or jump on (R74, R75, R83, R96): the raw position there, and whether a
fraction adds to it (1), the model runs on (2), or nothing does (0); direction, whether there is a velocity estimate, and the
model; whether the tracker is in fraction coast, and N of its loop. -/
structure PosBase where
  base : Stamp
  pos : Int
  mode : Nat
  rev : Bool
  estimated : Bool
  v : Rat
  a : Rat
  mBase : Stamp
  mPos : Rat
  frac : Bool := false
  div : Nat := 0
  deriving DecidableEq, Repr

/-- A tracker (R69 to R103). `pos` is the raw position at instant `base`, the last count edge or jump; `n` counts edges without
jumps; `past` tells what the position read before an instant, oldest first; the model is `mPos` counts at instant `mBase` with
velocity `v` and acceleration `a`, in counts per step and per step²; `hist` holds the edges of the present run in one direction,
newest first; `good` are the last estimates within the envelope (R94); `limited` is 1 + the tick in which the fault policy was
applied last (R85, R98). -/
structure Tracker where
  st : MtState := .off
  pos : Int := 0
  base : Stamp := 0
  jumped : Bool := false
  past : List (Stamp × PosBase) := []
  mBase : Stamp := 0
  mPos : Rat := 0
  n : Int := 0
  hist : List TEdge := []
  v : Rat := 0
  a : Rat := 0
  stale : Bool := true
  dirRev : Bool := false
  sameDir : Nat := 0
  model : Bool := false
  breachRun : Nat := 0
  breachCoast : Bool := false
  good : Rat × Rat := (0, 0)
  dropAt : Option Stamp := none
  stopAt : Option Stamp := none
  limitAt : Option Stamp := none
  lvlA : Bool := false
  lvlB : Bool := false
  filt : List PendEdge := []
  slots : Store Slot := []
  watch : List Watch := []
  buf : List EvRec := []
  lost : Nat := 0
  ready : Bool := false
  limited : Nat := 0
  deriving DecidableEq, Repr

/-- An item in a posting buffer (R187). -/
inductive Posted where
  | entry (e : LaunchItem)
  | posEntry (mt : Nat) (x : Int) (dir action ch width tag : Nat)
  | amendTime (target : Half) (tag : Nat) (time : Stamp)
  | amendPos (mt ch tag : Nat) (x : Int)
  | cancel (target : Half) (tag : Nat) (all : Bool) (left : List Nat)
  | capt (target : Half) (e : Nat)
  | portMask (port fn : Nat) (mask : Word)
  | cfgw (addr : Nat) (v : Word)
  | cfga (addr : Nat) (time : Stamp)
  | signal (tgt bit : Nat)
  | zswap (mask : Nat) (time : Stamp) (x : Bool)
  | zload (addr : Nat)
  | srst (m addr : Nat)
  | stc (addr : Nat) (data : List Byte) (clash : Clash)
  | pfunc (port pin v : Nat) (arm : Option Stamp)
  | remote (dev : Nat) (payload : List Byte)
  | own (addr g : Nat)
  | safe
  | note (n : Nat)
  deriving DecidableEq, Repr

/-- Sequencer states (R181). -/
inductive SeqState where
  | halted | running | waiting | faulted
  deriving DecidableEq, Repr

/-- What a sequencer waits for (R190). A position wait keeps the position at its last evaluation. -/
inductive WaitFor where
  | time (t : Stamp)
  | pos (mt : Nat) (x : Int) (dir : Nat) (last : Int) (met : Bool)
  | vec (mask : Nat)
  | sig (mask : Nat)
  | ring (port : Nat)
  | barrier (k : Nat) (done gone : Bool)
  deriving DecidableEq, Repr

/-- A wait in progress: its condition, its result register, the tick it began, and whether its source stopped. -/
structure Waiting where
  what : WaitFor
  gd : Nat
  start : Nat
  gone : Bool := false
  deriving DecidableEq, Repr

/-- The flags of a sequencer. -/
structure Flags where
  z : Bool := false
  n : Bool := false
  c : Bool := false
  v : Bool := false
  deriving DecidableEq, Repr

/-- An entry of the return stack (R177). -/
structure StackEntry where
  ret : BitVec 16
  flags : Flags
  entry : Bool
  deriving DecidableEq, Repr

/-- A sequencer (R177): general registers G1 to G31, stamp registers, flags, PC, return stack (newest first), posting
buffer (oldest first), the prefetched or buffered items of each stream port, alarm, memories; `bars` holds, by barrier,
1 + the generation in which a wait was begun and not ended (R242). -/
structure Seq where
  g : Store Word := []
  t : Store Stamp := []
  flags : Flags := {}
  pc : BitVec 16 := 0
  stack : List StackEntry := []
  st : SeqState := .halted
  wait : Option Waiting := none
  stepping : Bool := false
  post : List Posted := []
  stream : Store (List (BitVec 128)) := []
  alarm : Option Stamp := none
  runStart : Nat := 0
  faultAt : Nat := 0
  bars : Store Nat := []
  imem : Store Byte := []
  dmem : Store Byte := []
  deriving DecidableEq, Repr

/-- A staged swap set (R299, R302): its instant and the zones of its mask. -/
structure SwapSet where
  time : Stamp
  mask : Nat
  owner : Nat
  deriving DecidableEq, Repr

/-- A plane pair of a zone (R298). `data` holds byte `i` of tile frame `t`'s payload at key 512·t + i: bytes 0 to 127 of a
frame are the mask plane, the others the routing plane (R276); `ctrl` holds the zone-control payloads the same way; `tag`
is the routing plane's PID and ROUTESUM (R290); `sweep` the FLAGS.SWEEP of the image it came from. -/
structure Plane where
  data : Store Byte := []
  ctrl : Store Byte := []
  tag : Option (Nat × Nat) := none
  sweep : Bool := false
  deriving DecidableEq, Repr

/-- A handshake stage (R250, R252): whether it holds a token that some consumer has not taken, its latch (none: the reset value that
the image records), the consumers that have taken the token, and the register beside the latch of a boundary synchroniser (what it
shows its island, R266) or a multiplier (its accumulator, R255). -/
structure Stage where
  full : Bool := false
  value : Option Nat := none
  taken : List Nat := []
  held : Option Nat := none
  deriving DecidableEq, Repr

/-- A tally block (R255): counter, comparator value, CRC register. -/
structure Tally where
  count : Nat := 0
  target : Nat := 0
  crc : Nat := 0
  deriving DecidableEq, Repr

/-- A stretch for which an island clock network runs from one source (R262, R263, R265): source 1 the time clock divided, 2 a
guarded MPLL; the tick of its first rising edge (none: the counter stands still), and the tick of the falling edge at which it
stops low; of a guarded MPLL, the instant of its last rising edge in units of 100 ps since power-on (R64). -/
structure ClockRun where
  src : Nat
  msel : Nat
  div : Nat
  start : Option Nat
  stop : Option Nat := none
  last : Option Nat := none
  deriving DecidableEq, Repr

/-- An island clock network: the run that a change is stopping, and the one that follows it. -/
structure IslandClock where
  old : Option ClockRun := none
  run : Option ClockRun := none
  deriving DecidableEq, Repr

/-- A zone (R255, R268, R298). `pocket` holds the 36-bit words of its pocket RAMs, by slot of the view of R17; `valid` says that
it holds a valid active personality; `resetAt` is the tick at which an SRST reset began; `snap` the snapshot of SWTIME_HI;
`stages` its handshake stages by number (0 to 4,095 headed by that cell, 4,096 + 2 × i + p port p of pocket RAM i, 4,104 and 4,105
the multipliers, 4,106 the tally block, above them channels and boundary synchronisers); `clocked` the tick up to which its island
clocks' edges have been run; `pins` what its personality has given each pin (32 × port + pin) of late, newest first: from which
tick, the level and the enable. -/
structure Zone where
  a : Plane := {}
  b : Plane := {}
  pocket : Store Nat := []
  valid : Bool := false
  resetAt : Option Nat := none
  snap : Nat := 0
  stages : Store Stage := []
  tally : Tally := {}
  clk0 : IslandClock := {}
  clk1 : IslandClock := {}
  clocked : Nat := 0
  pins : Store (List (Nat × Bool × Bool)) := []
  deriving DecidableEq, Repr

/-- The running background load (R282, R283): image address, zones, next frame, FLAGS.SWEEP, the sequencer that asked; what has been
read of the image, from its header on (R286); and whether it waits for a survey's yield (R317). -/
structure Load where
  addr : Nat
  mask : Nat
  frame : Nat
  sweep : Bool
  q : Nat
  seen : List Byte
  waiting : Bool
  deriving DecidableEq, Repr

/-- What ends a survey early (R317), and what proceeds after the zone's return. -/
inductive YieldCause where
  | attention | borrow | warm
  | hold (k : Nat)
  | reset (k : Nat)
  | reload (k : Nat)
  | load
  deriving DecidableEq, Repr

/-- The survey (R313 to R317): STATE of the zone before the borrow, the causes that ask for a yield, 1 + the ticks at which each
zone's last survey was completed and last yielded; `last` is the zone surveyed last; `ended` holds, while the zone is being
restored, the tick at which the test ended and the failing resource it found. -/
structure Survey where
  home : Nat := 0
  causes : List YieldCause := []
  done : Store Nat := []
  yielded : Store Nat := []
  last : Option Nat := none
  ended : Option (Nat × Option Nat) := none
  deriving DecidableEq, Repr

/-- The status register of an engine's register set (R345), PAIR included. -/
structure SeSr where
  z : Bool := false
  n : Bool := false
  c : Bool := false
  v : Bool := false
  sat : Bool := false
  pair : Bool := false
  deriving DecidableEq, Repr

/-- A register set of an engine (R345): X0 to X3 and Y0 to Y3 at keys 0 to 7, accumulators as the accumulating
operations see them (`a`) and as stores, AMOV and EXP see them (`out`, R362), pointers, modifiers, SR, RRB. -/
structure SeSet where
  x : Store Word := []
  a : Store Int := []
  out : Store Int := []
  p : Store Half := []
  m : Store Half := []
  sr : SeSr := {}
  rrb : Nat := 0
  deriving DecidableEq, Repr

/-- Where a result in flight lands (R362): a register of a set by its code (Q registers by physical number), an
accumulator's outer view, or the guard-overflow source. -/
inductive SeDest where
  | reg (shadow : Bool) (code : Nat)
  | acc (shadow : Bool) (i : Nat)
  | guard
  deriving DecidableEq, Repr

/-- A result in flight: it lands when `left` words more have issued. -/
structure SeFlight where
  dest : SeDest
  value : Int
  left : Nat
  deriving DecidableEq, Repr

/-- An active loop (R345, R360). -/
structure SeLoop where
  first : Nat
  last : Nat
  count : Nat
  depth : Nat
  level : Nat
  rot : Nat
  deriving DecidableEq, Repr

/-- A stream port of an engine (R376, R377): the next window slot to copy into (consume) or out of (produce), and the
the items committed and not yet copied, as they stood at their SPUT (produce). -/
structure SePort where
  slot : Nat := 0
  items : List (BitVec 128) := []
  deriving DecidableEq, Repr

/-- A signal engine (R345). `pc` 4,096 stands past the last word; `iter` says that the last word of a loop body has
completed and its iteration end is due. -/
structure Engine where
  main : SeSet := {}
  shadow : SeSet := {}
  q : Store Word := []
  b : Store Half := []
  l : Store Half := []
  pmode : Word := 0
  pc : Nat := 0
  calls : List Nat := []
  loops : List SeLoop := []
  level : Nat := 0
  onShadow : Bool := false
  ra1 : Nat := 0
  ra2 : Nat := 0
  sr2 : SeSr := {}
  below : Nat := 0
  flight : List SeFlight := []
  iter : Bool := false
  ports : Store SePort := []
  faultAt : Nat := 0
  imem : Store Byte := []
  dmem : Store Byte := []
  deriving DecidableEq, Repr

/-- An error that a memory word holds until it is written again (R328, R388): a 16-byte word of the Caldera, or an 8-byte unit of
the flash, at an address; `bad` says that two bits are wrong, which no read corrects. -/
structure Flaw where
  flash : Bool
  addr : Nat
  bad : Bool
  deriving DecidableEq, Repr

/-- A suspended erase (R397): block within the bank, resumes so far, the descriptor it serves, or, with `own`, the supervisor's
work. -/
structure FlashHold where
  block : Nat
  resumes : Nat
  idx : Nat
  own : Bool := false
  deriving DecidableEq, Repr

/-- A flash bank (R396, R397): the operation that runs (0 none, 2 PROGRAM, 3 ERASE), block within the bank, page, resumes,
the descriptor it serves, the data of the pages still to program, the suspended erase, and whether that erase goes on once the page
program that runs has ended. With `own` the operation is the supervisor's, and `idx` the key of the work it belongs to. -/
structure FlashBank where
  op : Nat := 0
  block : Nat := 0
  page : Nat := 0
  resumes : Nat := 0
  idx : Nat := 0
  data : List Byte := []
  held : Option FlashHold := none
  due : Bool := false
  own : Bool := false
  deriving DecidableEq, Repr

/-- A descriptor that the controller has reached (R391, R393): its index modulo 128, its fields (`odd`: bytes 2 and 3 are not 0),
and whether it is parked, runs, or has completed ahead of an earlier one; `priv` holds the privileges it was reached with (R469),
and `moved` the pages it has programmed (R394). -/
structure FlashDesc where
  idx : Nat
  op : Nat
  flags : Nat
  faddr : Nat
  buf : Nat
  len : Nat
  arg : Nat
  odd : Bool
  parked : Bool := false
  done : Bool := false
  priv : Nat := 0
  moved : Nat := 0
  deriving DecidableEq, Repr

/-- One operation of the supervisor's own on the array (R393, R412): it erases a global block, programs a page (counted over the
whole array) with 512 bytes, or with what the Caldera holds at an address, of which `n` bytes count. -/
inductive SupOp where
  | erase (block : Nat)
  | program (page : Nat) (data : List Byte)
  | copy (page src n : Nat)
  deriving DecidableEq, Repr

/-- What ends a piece of the supervisor's work (R294, R405, R406, R408, R411, R454): nothing more; SWAP_BOOT's selector record;
the OTP word of an OTP_PROGRAM; the fuse of a SET_PROTECTION to 0, with the level before; or what the long command in progress
does, with the parameter records that an erase of its block took away. -/
inductive JobEnd where
  | plain
  | swap (b : Nat)
  | otp (off v : Nat)
  | wipe (now : Nat)
  | long (keep : Store Nat)
  deriving DecidableEq, Repr

/-- A piece of the supervisor's work on the flash: its key (a queue descriptor's index, or 128 for the long command in progress),
the operations still to start, and what ends it. -/
structure SupJob where
  key : Nat
  todo : List SupOp
  fin : JobEnd
  deriving DecidableEq, Repr

/-- The flash (R386 to R410). `mem` holds the array, where an unlisted byte is erased; `otp` the OTP row; `wild` the
pages of undefined content; `pages` the next page of each block that may be programmed (R387); `reach` is the next
descriptor to be reached; `jpage`, `jepoch` the journal's next page and epoch; `sel` the page of the selector record in
force (0 none); `pausing` the banks whose erase is to pause, with the descriptor of the SUSPEND (none: FLASH.CMD);
`privs` the privileges recorded at the last GRANT of the instance (R469); `params` the parameter records of each boot
block, by 16 × block + kind of R454; `jobs` the supervisor's work in progress; `jwait` the journal records that wait for their bank;
`burnt` the OTP words whose programming was interrupted (R408). -/
structure Flash where
  mem : Store Byte := []
  otp : Store Byte := []
  wild : List Nat := []
  pages : Store Nat := []
  banks : Store FlashBank := []
  queue : List FlashDesc := []
  reach : Nat := 0
  jpage : Nat := 0
  jepoch : Nat := 0
  sel : Nat := 0
  pausing : List (Nat × Option Nat) := []
  privs : Nat := 0
  params : Store Nat := []
  jobs : List SupJob := []
  jwait : List (Nat × List Byte) := []
  burnt : List Nat := []
  deriving DecidableEq, Repr

/-- A command message on its way (R452). `transport` 0 control port, 1 PCIe, 2 remote, where `peer` is the device; `odd`
says that bytes 5 to 7 are not 0; `data` is the attached data; `sent` that a RELAY waits for its answer. -/
structure HostCmd where
  transport : Nat
  peer : Nat
  op : Nat
  tag : Nat
  flags : Nat
  odd : Bool
  addr : Nat
  len : Nat
  arg0 : Nat
  arg1 : Nat
  arg2 : Nat
  data : List Byte
  sent : Bool := false
  deriving DecidableEq, Repr

/-- What a session keeps beside HOST.SESS_k (R467, R472): its idle timeout in seconds, and the tick of its last use. -/
structure SessTime where
  idle : Nat := 0
  used : Nat := 0
  deriving DecidableEq, Repr

/-- A DMA engine in modes 0 and 1 (R460): items moved since its last interrupt, and the tick at which the first of them
moved. -/
structure DmaCount where
  moved : Nat := 0
  since : Nat := 0
  deriving DecidableEq, Repr

/-- What the host has set in the PCIe function's configuration space (R446): D3hot, Max payload size and Max read request size in
bytes. -/
structure PcieFunc where
  d3hot : Bool := false
  payload : Nat := 128
  readReq : Nat := 512
  deriving DecidableEq, Repr

/-- A PCIe completion that waits for an entry of its ring (R456). -/
structure CpWait where
  cmd : HostCmd
  status : Nat
  info : Nat
  len : Nat
  deriving DecidableEq, Repr

/-- The host side (R446 to R480): the two lanes of commands, oldest first; the control port's responses (completion and output),
the last response and the last note it returned, and REJECT; PHASE of the next PCIe completion; the sessions' times by k; the
nonces outstanding with their ticks, by binding (0 control port, 1 PCIe, 2 + n remote device n); the ends of lockouts, by
transport; the DMA engines' counts; words 0 to 2 of the MSI-X table's entries, by word of the table; the last SYNC100 edge with
its snapshot and its tick; the tick at which ARM was set, and of the last rising edge of each PXI_TRIG line, + 1 (R476); since
which tick PXI_CLK10 has been in tolerance (R477); VCTL is gone in STANDBY (R478); the PCIe function; completions that wait for
room; HRDY (R465): the tick until which it is low for busy, the tick at which its last blink began, and whether a blink is due. -/
structure HostSide where
  quick : List HostCmd := []
  long : List HostCmd := []
  responses : List (List Byte) := []
  lastResp : List Byte := []
  lastNote : List Byte := []
  reject : Bool := false
  phase : Bool := true
  sess : Store SessTime := []
  nonces : Store (Nat × Nat) := []
  lockEnd : Store Nat := []
  dma : Store DmaCount := []
  syncTs : Stamp := 0
  syncSnap : Nat := 0
  syncTick : Nat := 0
  armAt : Nat := 0
  trigs : Store Nat := []
  clk10Since : Nat := 0
  vctlLost : Bool := false
  pcie : PcieFunc := {}
  cpWait : List CpWait := []
  busyEnd : Nat := 0
  blinkAt : Option Nat := none
  blinkDue : Bool := false
  msixTable : Store Nat := []
  deriving DecidableEq, Repr

/-- What a neighbour said of itself in IDENT (R419): UID, PRIO, PREF as sent, link number, phase flags. -/
structure Ident where
  uid : Nat
  prio : Nat
  pref : Nat
  link : Nat
  phase : Nat
  deriving DecidableEq, Repr

/-- A claim of R424: the root's UID and PRIO, EST, hops to the root, and the parent link of the device that claims. -/
structure Claim where
  uid : Nat
  prio : Nat
  est : Bool
  hops : Nat
  parent : Nat
  deriving DecidableEq, Repr

/-- A TSYNC that has come (R426): its SEQ, its arrival, its RXSEQ and RXLAST, and whether it is the first one with that RXSEQ. -/
structure TsyncRx where
  seq : Nat
  time : Stamp
  rxseq : Nat
  rxlast : Stamp
  first : Bool
  deriving DecidableEq, Repr

/-- One side of a link (R415 to R426): what the neighbour said last; the next link sequence number and the frames kept for replay
(R420), newest last; LSEQ of the frame that comes next; the frame that NAK asked for last and how often in a row; the next SEQ of
TSYNC with the departures of the last ones, newest first; the peer's last TSYNC; the last one-way delays, newest first; P5 and
AHOLD in the peer's TSYNC; the tick of the last failed training; how the frame that comes next comes in (R420; log entry 119). -/
structure LinkSide where
  ident : Option Ident := none
  claim : Option Claim := none
  txSeq : Nat := 0
  replay : List (Nat × Nat × List Byte) := []
  rxSeq : Nat := 0
  naked : Option (Nat × Nat) := none
  tsSeq : Nat := 0
  sent : List (Nat × Stamp) := []
  rx : Option TsyncRx := none
  delays : List Int := []
  peerP5 : Bool := false
  peerHold : Bool := false
  failedAt : Nat := 0
  coming : FrameSeal := .good
  deriving DecidableEq, Repr

/-- A device of the tree as ASSIGN gives it (R425); the root is its own parent. -/
structure TreeDev where
  uid : Nat
  num : Nat
  parent : Nat
  deriving DecidableEq, Repr

/-- An entry of a REPORT (R425), with the link it came by. -/
structure RepDev where
  uid : Nat
  parent : Nat
  pref : Nat
  phase : Nat
  via : Nat
  deriving DecidableEq, Repr

/-- A barrier on this device (R436): the members that have arrived in the generation, the child links whose DONE has
come, and whether this device's own DONE has gone; by child link, the generation of the last DONE that counted. -/
structure BarrierSide where
  arrived : List Nat := []
  kids : List Nat := []
  sent : Bool := false
  last : List (Nat × Nat) := []
  deriving DecidableEq, Repr

/-- SRC and HOPS of a frame (R418). -/
structure FrameHead where
  src : Nat := 0
  hops : Nat := 0
  deriving DecidableEq, Repr

/-- Credits that this device owes a link stream (R437): source device, stream, destination ring, how many. -/
structure Owed where
  dev : Nat
  stream : Nat
  ring : Nat
  n : Nat
  deriving DecidableEq, Repr

/-- The constellation side of the device (R421 to R441): it has been at P4 before; the claim it has adopted and since which tick;
its parent link; the tree; the REPORT entries of its subtree and the child links that have reported; the tick at which the
alignment window began; the tick of the entry into AHOLD, and since which tick the offset has been within or beyond its bound;
barriers; the device count at P6 and the tick since which it has been too low; credits at the start of each stream; credits owed;
link records that wait for room in CONST.RING; the entries of the ASSIGN flood and of the REPORTs that are coming; the numbers
that devices have had (R440); SRC and HOPS of the broadcast that comes next (R418; log entry 119). -/
structure ConstSide where
  est : Bool := false
  claim : Option Claim := none
  claimAt : Nat := 0
  parent : Option Nat := none
  tree : List TreeDev := []
  reports : List RepDev := []
  reported : List Nat := []
  windowAt : Option Nat := none
  holdAt : Nat := 0
  okSince : Option Nat := none
  badSince : Option Nat := none
  bars : Store BarrierSide := []
  p6count : Nat := 0
  belowAt : Option Nat := none
  credits : Store Nat := []
  owed : List Owed := []
  buf : List (Nat × EvRec) := []
  coming : List TreeDev := []
  repComing : List RepDev := []
  known : List (Nat × Nat) := []
  head : FrameHead := {}
  deriving DecidableEq, Repr

/-- What leaves the block (log entry 6): an MSI-X message, a PCIe write, a frame on a link, an item
or a counter value that a zone's gateway gives its personality, what the control port sends after a command byte (the status
byte first), the data of a BAR read. -/
inductive Out where
  | msix (vec : Nat)
  | pcie (addr : Nat) (data : List Byte)
  | frame (link : Nat) (type : Nat) (data : List Byte)
  | poison (link : Nat) (type : Nat)
  | item (zone : Nat) (x : BitVec 128)
  | tap (zone : Nat) (t : Stamp)
  | port (data : List Byte)
  | bar (data : List Byte)
  deriving DecidableEq, Repr

/-- A write of a Caldera word in the present tick (R326): its tick, the word's address, its byte enables, and whether it came by
port A. -/
structure BusWrite where
  tick : Nat
  word : Nat
  mask : Nat
  timed : Bool
  deriving DecidableEq, Repr

/-- The test access port (R530): the level that the board drives on TRST_N, none while the ball is open, and whether the
controller has been clocked out of Test-Logic-Reset since it was last held there (log entry 116). -/
structure Tap where
  trst : Option Bool := none
  left : Bool := false
  deriving DecidableEq, Repr

/-- The state of the SL1024. -/
structure State where
  /-- Commands waiting, first in, first out (the block's queue). -/
  pending : List Instr := []
  /-- Ticks of the time clock since power-on (R4, R33). -/
  tickNo : Nat := 0
  /-- Index of the next free value (log entry 3). -/
  free : Nat := 0
  /-- Register fields, by `fldKey`; an unlisted field reads its reset value. -/
  regs : Store Nat := []
  /-- Staging copies of A-class fields (R25); an unlisted one reads its reset value. -/
  staged : Store Nat := []
  /-- L-class fields of blocks that work on ticks, by `fldKey`, with the tick of their last write and the value in force for
  the rest of that tick (R24). -/
  prior : Store (Option (Nat × Nat)) := []
  /-- Bits of SUP.READY that have set since the last reset that covers their function (R23). -/
  begun : Nat := 0
  /-- Pending arm times of block instances, by base address (R26). -/
  arms : Store Stamp := []
  /-- Owners of block instances, by base address (R15); an unlisted one is SUP's. -/
  owners : Store Nat := []
  time : TimeState := {}
  mplls : Store Mpll := []
  trackers : Store Tracker := []
  sills : Store Sill := []
  ports : Store Port := []
  atns : Store Atn := []
  seqs : Store Seq := []
  /-- Lane items on the way from trackers to sills (R89, R119): sill and item, oldest first. -/
  lane : List (Nat × HeldItem) := []
  /-- Tracker commits on the way to sills (R87), oldest first. -/
  commits : List (Nat × QEntry) := []
  /-- The sill that each lane served last, plus 1 (R131). -/
  laneLast : Store Nat := []
  /-- The source that each lane served last downwards, plus 1 (R131). -/
  laneDown : Store Nat := []
  /-- Gateway entries on the way to sills (R259): zone and entry, oldest first. -/
  gwEntries : List (Nat × LaunchItem) := []
  /-- The words of the Caldera (R322). -/
  caldera : Store Byte := []
  /-- Writes of Caldera words in the present tick and the one before (R326). -/
  bus : List BusWrite := []
  /-- Old lengths, in items, of rings whose reader is in the old lap (R339). -/
  ringOld : Store Nat := []
  /-- Producers that wait for room in a ring: ring and agent (R334). -/
  ringWaits : List (Nat × Nat) := []
  /-- Words of the Caldera and units of the flash that hold an error (R328, R388). -/
  flaws : List Flaw := []
  /-- Watermark events on their way to sequencers: sequencer and ring (R335). -/
  watermarks : List (Nat × Nat) := []
  /-- The error queue, oldest first (R492). -/
  errq : List ErrRec := []
  cpNotes : List Nat := []
  pcNotes : List Nat := []
  cpNoteOvf : Bool := false
  pcNoteOvf : Bool := false
  /-- HRDY is high (R465). -/
  hrdy : Bool := false
  /-- HRDY blinks since power-on (R465). -/
  blinks : Nat := 0
  /-- MSI-X vectors that are masked, one bit each; table contents and pending bits. -/
  msixMask : Nat := 0xFFFFFFFF
  msixPend : Nat := 0
  /-- What has left the block, oldest first. -/
  out : List Out := []
  /-- Staged swap sets (R302). -/
  swaps : List SwapSet := []
  zones : Store Zone := []
  load : Option Load := none
  survey : Survey := {}
  /-- Planes checked in the sweeper's present round: zone, and whether the shadow (R310). -/
  swept : List (Nat × Bool) := []
  engines : Store Engine := []
  flash : Flash := {}
  /-- The mode pins as read at the last power-on reset (R529). -/
  modePins : Nat := 0
  /-- The recovery loader runs in place of the supervisor's firmware (R405). -/
  recovery : Bool := false
  /-- CFGERR_N is driven low (R292). -/
  cfgerr : Bool := false
  hostSide : HostSide := {}
  /-- Power-up loading is due (R288); zones that are being rebuilt, and those rebuilt since power-on (R291); the first store
  block of the booted image whose audit is due (R293); VERSION of the firmware that runs (R404). -/
  loadDue : Bool := false
  rebuilds : List Nat := []
  /-- First store block of the booted image (R291). -/
  booted : Nat := 0
  rebuilt : List Nat := []
  audit : Option Nat := none
  fwVersion : Nat := 0
  /-- The boot ROM runs (R405): `true` after a power-on reset, `false` after a warm reset; the source of the wake from STANDBY
  whose record is due (R508). -/
  booting : Option Bool := none
  wokeBy : Option Nat := none
  /-- A warm reset that waits for R486: the code SUP.RESET.CAUSE will show. -/
  warm : Option Nat := none
  /-- Tick of the first fatal warm reset that FATALCNT counts (R494). -/
  fatalFirst : Nat := 0
  /-- Tick of the last KICK, or of the setting of SUP.READY bit 0 (R498). -/
  kickAt : Nat := 0
  /-- The watchdog has expired since then (R498). -/
  wdogOut : Bool := false
  /-- The firmware has written a record of the present batch into the ring of SUP.ERRRING (R496). -/
  errWritten : Bool := false
  links : Store LinkSide := []
  const : ConstSide := {}
  /-- VSER and VSERH are out of range (R516). -/
  vserLost : Bool := false
  vserhLost : Bool := false
  tap : Tap := {}
  deriving DecidableEq, Repr

/-- The machine right after power-on reset: every register field at its reset value, nothing listed, no command waiting.
Where the spec gives no value the log entries 1 to 6 name it. -/
def State.reset : State := {}

end Sys2Proof.Machine
end

