-- ==== Sys2Proof/Machine/Ops.lean ====
section
/-! DEFINITION. The named operations over registers, time, records, the Caldera and its rings that every family uses. -/

namespace Sys2Proof.Machine

open Sys2Proof.F

/-! ### Addresses of block instances (R20, R450) -/

/-- Base address of instance `n` of a block (R20); the front page and the DMA engines lie above configuration space. -/
def cfgBase : Blk → Nat → Nat
  | .sup, _ => 0
  | .time, _ => 0x00010000
  | .mpll, n => 0x00020000 + 0x1000 * n
  | .mt, n => 0x00030000 + 0x2000 * n
  | .atn, n => 0x00040000 + 0x100 * n
  | .port, n => 0x00100000 + 0x1000 * n
  | .sill, n => if n < 1024 then 0x00200000 + 0x100 * n else 0x00240000 + 0x100 * (n - 1024)
  | .seq, n => 0x00300000 + 0x1000 * n
  | .se, n => 0x00340000 + 0x1000 * n
  | .zone, n => 0x00400000 + 0x1000 * n
  | .caldera, _ => 0x00500000
  | .ring, n => 0x00510000 + 0x20 * n
  | .flash, _ => 0x00600000
  | .link, n => 0x00700000 + 0x1000 * n
  | .const, _ => 0x00708000
  | .host, _ => 0x00800000
  | .chassis, _ => 0x00810000
  | .fp, _ => 0x100000000
  | .dma, n => 0x100001000 + 0x100 * n

/-- A range of R20: block, first address, size, stride. -/
def cfgRanges : List (Blk × Nat × Nat × Nat × Nat) := [
  (.sup, 0, 0x10000, 0x10000, 0), (.time, 0x10000, 0x10000, 0x10000, 0), (.mpll, 0x20000, 0x8000, 0x1000, 0),
  (.mt, 0x30000, 0x10000, 0x2000, 0), (.atn, 0x40000, 0x2000, 0x100, 0), (.port, 0x100000, 0x20000, 0x1000, 0),
  (.sill, 0x200000, 0x40000, 0x100, 0), (.sill, 0x240000, 0xC00, 0x100, 1024), (.seq, 0x300000, 0x21000, 0x1000, 0),
  (.se, 0x340000, 0x10000, 0x1000, 0), (.zone, 0x400000, 0x40000, 0x1000, 0), (.caldera, 0x500000, 0x10000, 0x10000, 0),
  (.ring, 0x510000, 0x8000, 0x20, 0), (.flash, 0x600000, 0x10000, 0x10000, 0), (.link, 0x700000, 0x8000, 0x1000, 0),
  (.const, 0x708000, 0x8000, 0x8000, 0), (.host, 0x800000, 0x10000, 0x10000, 0), (.chassis, 0x810000, 0x10000, 0x10000, 0)]

/-- The block instance whose configuration range holds an address, and the offset in it (R20); bit 31 is the caller's. -/
def cfgDecode (addr : Nat) : Option (Blk × Nat × Nat) :=
  match cfgRanges.find? (fun r => decide (r.2.1 ≤ addr) && decide (addr < r.2.1 + r.2.2.1)) with
  | none => none
  | some (b, lo, _, stride, first) => some (b, first + (addr - lo) / stride, (addr - lo) % stride)

/-- The instance that owns a register range: SUP's covers `seq` 32 (R15). -/
def ownerKey (b : Blk) (n : Nat) : Nat := if b = .seq ∧ n = 32 then 0 else cfgBase b n

/-! ### Register fields -/

/-- The key of field `f` of register `i` (of an indexed register) of instance `n`. -/
def fldKey (f : Fld) (n i : Nat) : Nat := (cfgBase f.blk n + f.off + f.stride * i) * 32 + f.lo

/-- The value of a field of an indexed register. -/
def State.fldI (s : State) (f : Fld) (n i : Nat) : Nat := storeGet f.reset s.regs (fldKey f n i)

/-- The value of a field. -/
def State.fld (s : State) (f : Fld) (n : Nat) : Nat := s.fldI f n 0

/-- A one-bit field. -/
def State.bit (s : State) (f : Fld) (n : Nat) : Bool := decide (s.fld f n = 1)

/-- Write a field of an indexed register. -/
def State.setFldI (s : State) (f : Fld) (n i v : Nat) : State :=
  { s with regs := storeSet f.reset s.regs (fldKey f n i) (v % 2 ^ f.width) }

/-- Write a field. -/
def State.setFld (s : State) (f : Fld) (n v : Nat) : State := s.setFldI f n 0 v

/-- Write a one-bit field. -/
def State.setBit (s : State) (f : Fld) (n : Nat) (b : Bool) : State := s.setFld f n (b2n b)

/-- Count up a saturating counter field. -/
def State.bump (s : State) (f : Fld) (n : Nat) : State := s.setFld f n (satAdd f.width (s.fld f n) 1)

/-! ### L-class fields within a tick (R24) -/

/-- Blocks whose L fields apply from the first tick boundary after a write lands (R24). -/
def tickBlock (b : Blk) : Bool :=
  match b with
  | .sill | .port | .atn | .mt | .mpll | .time => true
  | _ => false

/-- The value of an L field that an operation starting now uses (R24): in the rest of the tick in which a write landed, the
value before it. -/
def State.actI (s : State) (f : Fld) (n i : Nat) : Nat :=
  match storeGet none s.prior (fldKey f n i) with
  | some (t, v) => if t = s.tickNo then v else s.fldI f n i
  | none => s.fldI f n i

/-- The value of a field in force now. -/
def State.act (s : State) (f : Fld) (n : Nat) : Nat := s.actI f n 0

/-- A one-bit field in force now. -/
def State.actBit (s : State) (f : Fld) (n : Nat) : Bool := decide (s.act f n = 1)

/-- Keep the value of an L field for the rest of the tick (R24). -/
def State.keepPrior (s : State) (f : Fld) (n i : Nat) : State :=
  { s with prior := storeSet none s.prior (fldKey f n i) (some (s.tickNo, s.actI f n i)) }

/-- The staging copy of an A-class field (R25). -/
def State.stagedI (s : State) (f : Fld) (n i : Nat) : Nat := storeGet f.reset s.staged (fldKey f n i)

/-- Write a staging copy. -/
def State.setStagedI (s : State) (f : Fld) (n i v : Nat) : State :=
  { s with staged := storeSet f.reset s.staged (fldKey f n i) (v % 2 ^ f.width) }

/-! ### Instances -/

def State.mpll (s : State) (n : Nat) : Mpll := storeGet {} s.mplls n
def State.setMpll (s : State) (n : Nat) (x : Mpll) : State := { s with mplls := storeSet {} s.mplls n x }
def State.mt (s : State) (n : Nat) : Tracker := storeGet {} s.trackers n
def State.setMt (s : State) (n : Nat) (x : Tracker) : State := { s with trackers := storeSet {} s.trackers n x }
def State.sill (s : State) (n : Nat) : Sill := storeGet {} s.sills n
def State.setSill (s : State) (n : Nat) (x : Sill) : State := { s with sills := storeSet {} s.sills n x }
def State.port (s : State) (n : Nat) : Port := storeGet {} s.ports n
def State.setPort (s : State) (n : Nat) (x : Port) : State := { s with ports := storeSet {} s.ports n x }
def State.atn (s : State) (n : Nat) : Atn := storeGet {} s.atns n
def State.setAtn (s : State) (n : Nat) (x : Atn) : State := { s with atns := storeSet {} s.atns n x }
def State.seq (s : State) (n : Nat) : Seq := storeGet {} s.seqs n
def State.setSeq (s : State) (n : Nat) (x : Seq) : State := { s with seqs := storeSet {} s.seqs n x }
def Tracker.slot (t : Tracker) (i : Nat) : Slot := storeGet {} t.slots i
def Tracker.setSlot (t : Tracker) (i : Nat) (x : Slot) : Tracker := { t with slots := storeSet {} t.slots i x }

def State.zone (s : State) (k : Nat) : Zone := storeGet {} s.zones k
def State.setZone (s : State) (k : Nat) (x : Zone) : State := { s with zones := storeSet {} s.zones k x }

/-- General register `r` (R177): G0 reads 0. -/
def Seq.greg (x : Seq) (r : Nat) : Word := if r = 0 then 0 else storeGet 0 x.g r

/-- Write general register `r` (R177): a write to G0 is discarded. -/
def Seq.setG (x : Seq) (r : Nat) (v : Word) : Seq := if r = 0 then x else { x with g := storeSet 0 x.g r v }

def Seq.treg (x : Seq) (r : Nat) : Stamp := storeGet 0 x.t r
def Seq.setT (x : Seq) (r : Nat) (v : Stamp) : Seq := { x with t := storeSet 0 x.t r v }

/-- Change the registers of sequencer `q`. -/
def State.mapSeq (s : State) (q : Nat) (f : Seq → Seq) : State := s.setSeq q (f (s.seq q))

def State.mapZone (s : State) (k : Nat) (f : Zone → Zone) : State := s.setZone k (f (s.zone k))

def State.mapPort (s : State) (p : Nat) (f : Port → Port) : State := s.setPort p (f (s.port p))
def State.mapFlash (s : State) (f : Flash → Flash) : State := { s with flash := f s.flash }
def State.mapSill (s : State) (n : Nat) (f : Sill → Sill) : State := s.setSill n (f (s.sill n))

/-! ### Readiness (R482) -/

def State.ready (s : State) (k : Nat) : Bool := bitOf (s.fld SUP_READY_READY 0) k

/-- A function's ready bit has set since the last reset that covers it (R23). -/
def State.hasBegun (s : State) (k : Nat) : Bool := bitOf s.begun k

/-- Set or clear a readiness bit; under the recovery loader only bits 0 to 4 and 7 can set. -/
def State.setReady (s : State) (k : Nat) (b : Bool) : State :=
  if b && s.recovery && !(decide (k ≤ 4) || decide (k = 7)) then s
  else
    let s : State := if b then { s with begun := withBit s.begun k } else s
    s.setFld SUP_READY_READY 0 (if b then withBit (s.fld SUP_READY_READY 0) k else withoutBit (s.fld SUP_READY_READY 0) k)

/-- Bit 15 follows bits 5 and 14 (R482). -/
def State.syncReady15 (s : State) : State := s.setReady 15 (s.ready 5 && s.ready 14)

/-! ### Free values (log entry 3) -/

/-- The next free value, and the state that has used it. -/
def State.freeNat (s : State) : Nat × State := ((Config.freeWord s.free).toNat, { s with free := s.free + 1 })

/-! ### Time (R4, R32, R34, R49) -/

def State.now (s : State) : Stamp := s.time.counter

/-- `n` ticks as steps. -/
def ticks (n : Nat) : Stamp := BitVec.ofNat 64 (32 * n)

/-- Ticks of a microsecond (R37's table). -/
def usTicks : Nat := 1250

/-- Signed distance in steps from `b` to `a`, modulo 2^64. -/
def stampDiff (a b : Stamp) : Int := (a - b).toInt

/-- T lies in the future of `now` (R34): (T − now) mod 2^64 lies below 2^63. The present itself counts as future. -/
def inFuture (t now : Stamp) : Bool := decide ((t - now).toNat < 2 ^ 63)

/-- The real instant, in steps since power-on, that a timestamp names on the present scale. -/
def State.realOf (s : State) (t : Stamp) : Int := (32 * s.tickNo : Nat) + stampDiff t s.now

/-- A value of SLEWPPM as it acts (R56): 0 as 1, above 100 as 100. -/
def ppmOf (x : Nat) : Nat := max 1 (min 100 x)

/-- SLEWPPM of the ticks after this one, and of this one (R24, R56). -/
def State.slewPpm (s : State) : Nat := ppmOf (s.fld TIME_CTRL_SLEWPPM 0)
def State.slewPpmNow (s : State) : Nat := ppmOf (s.act TIME_CTRL_SLEWPPM 0)

/-- Millionths of a step absorbed after `d` more ticks, whole steps and remainder (R49). -/
def slewAfter (t : TimeState) (ppm d : Nat) : TimeState :=
  if t.slewRem = 0 then { t with slewAcc := 0 }
  else
    let acc := t.slewAcc + 32 * ppm * d
    let k := acc / 1000000
    let left : Int := if 0 ≤ t.slewRem then max 0 (t.slewRem - k) else min 0 (t.slewRem + k)
    { t with slewRem := left, slewAcc := if left = 0 then 0 else acc % 1000000 }

/-- The slew after `d` ticks: what is left of the present tick goes by the SLEWPPM in force in it (R24, R49). -/
def State.slewed (s : State) (d : Nat) : TimeState :=
  if d = 0 then s.time else slewAfter (slewAfter s.time s.slewPpmNow 1) s.slewPpm (d - 1)

/-- `d` ticks pass: the counter counts while it runs, and the slew goes on (R32, R33, R49). -/
def State.passTicks (s : State) (d : Nat) : State :=
  let t := s.time
  let t := if t.counting then { s.slewed d with counter := t.counter + ticks d } else t
  { s with tickNo := s.tickNo + d, time := t }

/-- Bring the time forward to tick `n` since power-on, if it lies ahead. -/
def State.reachTick (s : State) (n : Nat) : State := if s.tickNo < n then s.passTicks (n - s.tickNo) else s

/-- Ticks from now to the first tick boundary at or after `t`; 0 if `t` is not in the future. -/
def State.ticksTo (s : State) (t : Stamp) : Nat :=
  if inFuture t s.now then ((t - s.now).toNat + 31) / 32 else 0

/-- Bring the time forward to the first tick boundary at or after `t`, if the counter runs and `t` lies ahead. -/
def State.reachStamp (s : State) (t : Stamp) : State := if s.time.counting then s.passTicks (s.ticksTo t) else s

/-! ### Error records (R490 to R494) -/

/-- An agent code (R330). -/
def agent (cls idx : Nat) : Nat := cls * 64 + idx

/-- A SOURCE word (R491): block class and instance. -/
def srcOf (cls inst : Nat) : Nat := cls * 1024 + inst

/-- The SOURCE of a sill: class 6, or 7 for a chassis sill (R491). -/
def sillSrc (n : Nat) : Nat := if n < 1024 then srcOf 6 n else srcOf 7 (n - 1024)

def supSrc : Nat := srcOf 0 0

/-- SOURCE of a sequencer's records (R491, R495): class 8, or class 0 for SUP. -/
def seqSrc (q : Nat) : Nat := if q = 32 then supSrc else srcOf 8 q

/-- A 64-bit detail item as two words, low word first (R541). -/
def two (x : Stamp) : List Nat := [x.toNat % 2 ^ 32, x.toNat / 2 ^ 32]

/-- A register field as a detail item (R541). -/
def fldItem (f : Fld) (i : Nat) : Nat := f.off + f.stride * i + f.lo * 65536

/-- A signed number as a detail word. -/
def word (x : Int) : Nat := wrapOf 32 x

/-- HOLDOVER and LOCAL of a record (R48). -/
def State.holdFlag (s : State) : Bool := s.time.holdover || s.time.holdRec

/-- The record of an occurrence raised now (R490). -/
def State.errRec (s : State) (code src : Nat) (detail : List Nat) (fatal : Bool) : ErrRec where
  code := code
  source := src
  count := 1
  flags := b2n fatal + 2 * b2n s.holdFlag + 4 * b2n s.time.localRec + 8 * b2n (!s.time.counting)
  ts := if s.time.counting then s.now else 0
  detail := (detail ++ [0, 0, 0, 0]).take 4

/-- Merge an occurrence into the queued record with its code and source, FATAL records apart (R492). -/
def mergeErr (code src : Nat) : List ErrRec → Option (List ErrRec)
  | [] => none
  | r :: t =>
    if r.code = code ∧ r.source = src ∧ r.flags % 2 = 0 then some ({ r with count := satAdd 16 r.count 1 } :: t)
    else (mergeErr code src t).map (r :: ·)

/-- Remove the newest record without FATAL (R493); none if every record is fatal. -/
def dropNewestPlain : List ErrRec → Option (List ErrRec)
  | [] => none
  | r :: t =>
    match dropNewestPlain t with
    | some t' => some (r :: t')
    | none => if r.flags % 2 = 0 then some t else none

/-- Count a lost record (R493); true if OVF sets by it. -/
def State.loseErr (s : State) : State × Bool :=
  let first := !s.bit SUP_ERRSTAT_OVF 0
  ((s.bump SUP_ERRSTAT_LOST 0).setBit SUP_ERRSTAT_OVF 0 true, first)

/-- Enter a record into the error queue; true if the first loss after room last existed happened (R492, R493). -/
def State.enqueueErr (s : State) (r : ErrRec) : State × Bool :=
  if r.flags % 2 = 0 then
    match mergeErr r.code r.source s.errq with
    | some q => ({ s with errq := q }, false)
    | none => if s.errq.length < 63 then ({ s with errq := s.errq ++ [r] }, false) else s.loseErr
  else if s.errq.length < 64 then ({ s with errq := s.errq ++ [r] }, false)
  else
    match dropNewestPlain s.errq with
    | some q => { s with errq := q ++ [r] }.loseErr
    | none => s.loseErr

/-! ### Notes and interrupts towards the host (R461, R464, R465) -/

/-- Raise an MSI-X vector (R461): sent while the link is up and it is not masked; masked, it becomes pending. -/
def State.msix (s : State) (v : Nat) : State :=
  if !s.bit HOST_PCIE_DLUP 0 then s
  else if bitOf s.msixMask v then { s with msixPend := withBit s.msixPend v }
  else { s with out := s.out ++ [.msix v] }

/-- The earliest tick at which the next blink of HRDY can begin: 1 µs after the last one began, and HRDY high (R465). -/
def HostSide.blinkFrom (h : HostSide) : Nat :=
  max h.busyEnd (match h.blinkAt with
    | some b => b + 1250
    | none => 0)

/-- A blink that was due has begun, once it could. -/
def State.blinkCatch (s : State) : State :=
  let h := s.hostSide
  if h.blinkDue && decide (h.blinkFrom ≤ s.tickNo) then
    { s with blinks := s.blinks + 1, hostSide := { h with blinkDue := false, blinkAt := some h.blinkFrom } }
  else s

/-- A note or a response has joined its queue: HRDY, once the port answers, blinks, at once or as soon as it can; arrivals in
between share that blink (R465). -/
def State.blink (s : State) : State :=
  if !s.hrdy then s
  else
    let s := s.blinkCatch
    let h := s.hostSide
    if h.blinkDue then s
    else if h.blinkFrom ≤ s.tickNo then { s with blinks := s.blinks + 1, hostSide := { h with blinkAt := some s.tickNo } }
    else { s with hostSide := { h with blinkDue := true } }

/-- Put a note into both queues of 16; which of them dropped it (R464). -/
def State.noteIn (s : State) (n : Nat) : State × Bool × Bool :=
  let dc := decide (16 ≤ s.cpNotes.length)
  let dp := decide (16 ≤ s.pcNotes.length)
  let s := if dc then { s with cpNoteOvf := true } else { s with cpNotes := s.cpNotes ++ [n % 256] }.blink
  let s := if dp then { s with pcNoteOvf := true } else { s with pcNotes := s.pcNotes ++ [n % 256] }.msix 0
  (s, dc, dp)

/-- Enter a record, and post note 0xFE at the first loss (R493), for a record that a full note queue raises itself. -/
def State.raiseQuiet (s : State) (code src : Nat) (detail : List Nat) : State :=
  let (s, lost) := s.enqueueErr (s.errRec code src detail false)
  if lost then (s.noteIn 0xFE).1 else s

/-- A record with this code and source is still in the queue (R492). -/
def State.reported (s : State) (code src : Nat) : Bool :=
  s.errq.any (fun r => decide (r.code = code) && decide (r.source = src))

/-- Post a note to both queues (R464); the first drop after a stretch without one raises 0x0B0B (R492), transport 0 control port,
1 PCIe. -/
def State.postNote (s : State) (n : Nat) : State :=
  let (s, dc, dp) := s.noteIn n
  if (dc || dp) && !s.reported 0x0B0B (srcOf 16 0) then s.raiseQuiet 0x0B0B (srcOf 16 0) [b2n (!dc)] else s

/-- Raise an error record (R490 to R493). -/
def State.raise (s : State) (code src : Nat) (detail : List Nat) (fatal : Bool := false) : State :=
  let (s, lost) := s.enqueueErr (s.errRec code src detail fatal)
  if lost then s.postNote 0xFE else s

/-- Raise a record that its chapter reports at the first occurrence after a stretch without one (R492). -/
def State.raiseFirst (s : State) (code src : Nat) (detail : List Nat) : State :=
  if s.reported code src then s else s.raise code src detail

/-! ### Ownership (R15, R484) -/

/-- The owner of a block instance; 32 is SUP. -/
def State.owner (s : State) (b : Blk) (n : Nat) : Nat := storeGet 32 s.owners (ownerKey b n)

def State.owns (s : State) (q : Nat) (b : Blk) (n : Nat) : Bool := decide (s.owner b n = q)

/-! ### The Caldera (R322, R340) -/

/-- Bytes of a sparse byte memory, from `a` on. -/
def readBytes (m : Store Byte) (a n : Nat) : List Byte := (List.range n).map (fun i => storeGet 0 m (a + i))

/-- Write bytes into a sparse byte memory from `a` on. -/
def writeBytes (m : Store Byte) (a : Nat) : List Byte → Store Byte
  | [] => m
  | b :: t => writeBytes (storeSet 0 m a b) (a + 1) t

/-- Size of the Caldera: 48 MiB (R322). -/
def calderaSize : Nat := 0x3000000

/-- Retention group of an address: bits [17:15] (R340). -/
def groupOf (a : Nat) : Nat := bitsOf a 15 3

/-- State of a retention group (PWRSTAT): 0 ON, 1 RETAIN, 2 OFF, 3 changing. -/
def State.group (s : State) (g : Nat) : Nat := bitsOf (s.fld CALDERA_PWRSTAT_G 0) (2 * g) 2

/-- Set a two-bit entry of a number. -/
def setPair (v g x : Nat) : Nat := v - bitsOf v (2 * g) 2 * 4 ^ g + (x % 4) * 4 ^ g

def State.setGroup (s : State) (g x : Nat) : State :=
  s.setFld CALDERA_PWRSTAT_G 0 (setPair (s.fld CALDERA_PWRSTAT_G 0) g x)

/-- An access wakes a group in RETAIN: the group is ON, in PWR and in PWRSTAT (R340). -/
def State.wakeGroup (s : State) (g : Nat) : State :=
  if s.group g = 1 then (s.setGroup g 0).setFld CALDERA_PWR_G 0 (setPair (s.fld CALDERA_PWR_G 0) g 0) else s

/-- An access to a word of the Caldera goes on now: it waits for the clearing after power-on (R325), and for that of its group
(R340). -/
def State.wordOpen (s : State) (a : Nat) : Bool := s.ready 4 && decide (s.group (groupOf a) ≠ 3)

/-- Read a 16-byte-or-less piece of one Caldera word: a group that is OFF reads 0 with a 0x0606 record (R340). -/
def State.calderaRead (s : State) (master a n : Nat) : List Byte × State :=
  let s := s.wakeGroup (groupOf a)
  if s.group (groupOf a) = 2 then
    (List.replicate n 0, s.raise 0x0606 (srcOf 11 0) [groupOf a, master, a])
  else (readBytes s.caldera a n, s)

/-- Agents on port A of the Caldera (R323, R330): lanes, trackers, links. -/
def timedSide (ag : Nat) : Bool := decide (ag / 64 = 1) || decide (ag / 64 = 3) || decide (ag / 64 = 4)

/-- Data of port A over data of port B where A enables a byte (R326); byte `i` of A comes with bit `i` of the mask. -/
def overlay (mask : Nat) : Nat → List Byte → List Byte → List Byte
  | _, [], _ => []
  | _, b, [] => b
  | i, b :: tb, a :: ta => (if bitOf mask i then a else b) :: overlay mask (i + 1) tb ta

/-- A collision in the bank of an address (R326): the first since its COLL bit cleared latches and raises. -/
def State.collide (s : State) (a : Nat) : State :=
  let bank := bitsOf a 12 6
  let f := if bank < 32 then CALDERA_COLL_LO_BANK else CALDERA_COLL_HI_BANK
  if bitOf (s.fld f 0) (bank % 32) then s
  else ((s.setFld f 0 (withBit (s.fld f 0) (bank % 32))).setFldI CALDERA_COLLADDR_ADDR 0 bank (a / 16 * 16)).raise
    0x0601 (srcOf 11 0) [bank, a / 16 * 16]

/-- Byte enables of `n` bytes from an address on, within its word. -/
def enables (a n : Nat) : Nat := (2 ^ n - 1) * 2 ^ (a % 16)

/-- Bytes of a word with the bytes of a piece of it in their place. -/
def inWord (old : List Byte) (o : Nat) (bs : List Byte) : List Byte := old.take o ++ bs ++ old.drop (o + bs.length)

/-- Byte enables of the other port's writes of a word that may fall in the same bank cycle (R324, R326): a cycle is at most 1.4 ns
long, so those of this tick and of the one before; none where there is no such write. -/
def State.otherPort (s : State) (timed : Bool) (w : Nat) : Option Nat :=
  match s.bus.filter (fun b => decide (s.tickNo ≤ b.tick + 1) && decide (b.word = w) && (b.timed != timed)) with
  | [] => none
  | l => some (l.foldl (fun m b => Nat.lor m b.mask) 0)

/-- The bytes that a write of a piece of a word leaves in the word: where the other port's write falls in the same bank
cycle, port A's bytes stand (R326); whether it does is a free value (log entry 105). -/
def State.calderaMerge (s : State) (timed : Bool) (a : Nat) (bs : List Byte) : State :=
  let w := a / 16 * 16
  let plain (s : State) : State := { s with caldera := writeBytes s.caldera a bs }
  match s.otherPort timed w with
  | none => plain s
  | some m =>
    let (f, s) := s.freeNat
    if f % 2 = 0 then plain s
    else if timed then (plain s).collide w
    else
      let old := readBytes s.caldera w 16
      { s with caldera := writeBytes s.caldera w (overlay m 0 (inWord old (a - w) bs) old) }.collide w

/-- Write a piece of one Caldera word (R326, R340). -/
def State.calderaWrite (s : State) (master a : Nat) (bs : List Byte) : State :=
  let s := s.wakeGroup (groupOf a)
  if s.group (groupOf a) = 2 then s.raise 0x0606 (srcOf 11 0) [groupOf a, master, a]
  else
    let s := s.calderaMerge (timedSide master) a bs
    { s with
      flaws := if bs.length = 16 then s.flaws.filter (fun x => x.flash || decide (x.addr ≠ a / 16 * 16)) else s.flaws
      bus := s.bus.filter (fun b => decide (s.tickNo ≤ b.tick + 1)) ++
      [{ tick := s.tickNo, word := a / 16 * 16, mask := enables a bs.length, timed := timedSide master }] }

/-- What reading a word with an error does (R328): the data stand as they are. -/
def State.eccSeen (s : State) (e : Ecc) (master a : Nat) : State :=
  let w := a / 16 * 16
  match e with
  | .clean => s
  | .corrected => s.bump CALDERA_ECC_CORR 0
  | .uncorrected =>
    (((s.bump CALDERA_ECC_UNCORR 0).setFld CALDERA_ECCADDR_ADDR 0 w)).raise 0x0603 (srcOf 11 0) [w, master]

/-- A master reads `n` bytes of the Caldera from `a` on: the errors that its words hold count and are reported (R328). -/
def State.eccRead (s : State) (master a n : Nat) : State :=
  (s.flaws.filter (fun x => !x.flash && decide (a < x.addr + 16) && decide (x.addr < a + n))).foldl (fun s x =>
    s.eccSeen (if x.bad then .uncorrected else .corrected) master x.addr) s

/-- Bytes of an item, little-endian. -/
def itemBytes (x : BitVec 128) : List Byte := leBytes 16 x.toNat

/-- The item that 16 bytes spell. -/
def itemOf (bs : List Byte) : BitVec 128 := BitVec.ofNat 128 (leNat bs)

/-- Port B's write of bytes within one word, with port A's write of that word in the same bank cycle, if any (R326). -/
def State.calderaWriteClash (s : State) (master a : Nat) (bs : List Byte) (c : Clash) : State :=
  match c with
  | none => s.calderaWrite master a bs
  | some (mask, d) =>
    let w := a / 16 * 16
    let old := readBytes s.caldera w 16
    if s.group (groupOf a) = 2 then s.calderaWrite master a bs
    else (s.calderaWrite master w (overlay mask.toNat 0 (inWord old (a - w) bs) (itemBytes d))).collide w

/-! ### The tree and Plume frames (R418 to R421, R425) -/

def State.link (s : State) (l : Nat) : LinkSide := storeGet {} s.links l
def State.setLink (s : State) (l : Nat) (x : LinkSide) : State := { s with links := storeSet {} s.links l x }
def State.mapLink (s : State) (l : Nat) (f : LinkSide → LinkSide) : State := s.setLink l (f (s.link l))
def State.mapConst (s : State) (f : ConstSide → ConstSide) : State := { s with const := f s.const }

/-- Link `l` is up. -/
def State.linkUp (s : State) (l : Nat) : Bool := decide (s.fld LINK_STATUS_STATE l = 2)

/-- The links of a role: 1 parent, 2 child, 3 standby. -/
def State.roleLinks (s : State) (r : Nat) : List Nat :=
  (List.range 8).filter (fun l => s.linkUp l && decide (s.fld LINK_STATUS_ROLE l = r))

/-- This device's number: 0 before one is assigned (R128, R243). -/
def State.devNum (s : State) : Nat := if s.bit CONST_ID_VALID 0 then s.fld CONST_ID_NUM 0 else 0

/-- The device has a number in the tree (P4). -/
def State.inTree (s : State) : Bool := bitOf (s.fld CONST_STATUS_PHASE 0) 4

/-- The constellation alignment owns the time base (R54): from P5 on, on a device that is not the root. -/
def State.constOwn (s : State) : Bool := bitOf (s.fld CONST_STATUS_PHASE 0) 5 && !s.bit CONST_STATUS_ROOT 0

/-- This device's unique ID. -/
def State.uid (s : State) : Nat := s.fld FLASH_UID_LO_LO 0 + 2 ^ 32 * s.fld FLASH_UID_HI_HI 0

/-- A device and its ancestors, up to the root; `fuel` bounds the hops (R421). -/
def ancestors (t : List TreeDev) : Nat → Nat → List Nat
  | 0, _ => []
  | fuel + 1, n =>
    match t.find? (fun d => decide (d.num = n)) with
    | none => []
    | some d => if d.parent = n then [n] else n :: ancestors t fuel d.parent

/-- Hops between two devices on the tree (R421). -/
def treeHops (t : List TreeDev) (a b : Nat) : Option Nat :=
  let la := ancestors t 64 a
  let lb := ancestors t 64 b
  (la.findIdx? (fun x => lb.contains x)).bind (fun i =>
    (la[i]?).bind (fun x => (lb.findIdx? (fun y => decide (y = x))).map (fun j => i + j)))

/-- The link that leads towards a device (R425, R443). -/
def State.linkTo (s : State) (dev : Nat) : Option Nat :=
  let up := ancestors s.const.tree 64 dev
  if up.isEmpty ∨ dev = s.devNum then none
  else if up.contains s.devNum then
    let child := (up.takeWhile (fun x => decide (x ≠ s.devNum))).getLast?
    child.bind (fun c => (s.const.tree.find? (fun d => decide (d.num = c))).bind (fun d =>
      (s.roleLinks 2).find? (fun l => match (s.link l).ident with
        | some i => decide (i.uid = d.uid)
        | none => false)))
  else s.const.parent

/-- The bytes of a frame (R418): header, payload, CRC-32C. -/
def frameBytes (type flags dst src hops lseq : Nat) (payload : List Byte) : List Byte :=
  let l := leBytes 1 type ++ leBytes 1 flags ++ leBytes 2 dst ++ leBytes 2 src ++ leBytes 1 hops ++ leBytes 1 lseq ++ payload
  l ++ leBytes 4 (crc32c l)

/-- Send a frame on a link that is up; it is kept for replay (R420). -/
def State.putFrame (s : State) (l type flags dst src hops : Nat) (payload : List Byte) : State :=
  if !s.linkUp l then s
  else
    let x := s.link l
    let b := frameBytes type flags dst src hops x.txSeq payload
    let kept := x.replay ++ [(x.txSeq, type, b)]
    { (s.setLink l { x with txSeq := (x.txSeq + 1) % 256, replay := kept.drop (kept.length - 64) }) with
      out := s.out ++ [.frame l type b] }

/-- SRC of this device's frames: NONUM before it has a number. -/
def State.srcField (s : State) : Nat := if s.bit CONST_ID_VALID 0 then s.devNum else 2 ^ 15

/-- Send a frame for the neighbour only. -/
def State.sendHop (s : State) (l type : Nat) (payload : List Byte) : State := s.putFrame l type 4 0 s.srcField 0 payload

/-- Send a routed frame towards a device. -/
def State.sendTo (s : State) (dev type : Nat) (payload : List Byte) : State :=
  match s.linkTo dev with
  | some l => s.putFrame l type 0 dev s.srcField 0 payload
  | none => s

/-- Send a frame to every device, along the tree. -/
def State.flood (s : State) (type : Nat) (payload : List Byte) : State :=
  (s.roleLinks 1 ++ s.roleLinks 2).foldl (fun s l => s.putFrame l type 1 0 s.srcField 0 payload) s

/-- Send a frame towards the root; without a number it is for the parent only (R418; log entry 139). -/
def State.sendUp (s : State) (type : Nat) (payload : List Byte) : State :=
  match s.const.parent with
  | some l => s.putFrame l type (if s.bit CONST_ID_VALID 0 then 2 else 6) 0 s.srcField 0 payload
  | none => s

/-- A frame has come whole and in order on link `l`: the next one has the next LSEQ (R420). -/
def State.frameIn (s : State) (l : Nat) : State := s.mapLink l (fun x => { x with rxSeq := (x.rxSeq + 1) % 256 })

/-- A frame of device `dev` has come, by the link that leads there. -/
def State.frameFrom (s : State) (dev : Nat) : State :=
  match s.linkTo dev with
  | some l => s.frameIn l
  | none => s

/-- A frame of the root's has come, by the parent link. -/
def State.frameDown (s : State) : State :=
  match s.const.parent with
  | some l => s.frameIn l
  | none => s

/-- Pass a broadcast of the root's on to the children, with its SRC and one link more, unless HOPS would exceed 63 (R418). -/
def State.passDown (s : State) (type : Nat) (payload : List Byte) : State :=
  if 63 ≤ s.const.head.hops then s
  else (s.roleLinks 2).foldl (fun s l => s.putFrame l type 1 0 s.const.head.src (s.const.head.hops + 1) payload) s

/-! ### Rings (R329 to R339). Offsets and lengths are counted in items of 16 bytes. -/

def State.ringLen (s : State) (r : Nat) : Nat := s.fld RING_LEN_LEN r
def State.ringEn (s : State) (r : Nat) : Bool := s.bit RING_CTRL_EN r
def State.tail (s : State) (r : Nat) : Bool := s.bit RING_STAT_TAIL r

/-- Fill in items (R332, R339). -/
def State.ringFill (s : State) (r : Nat) : Nat :=
  let w := s.fld RING_WPTR_OFF r
  let rd := s.fld RING_RPTR_OFF r
  if s.tail r then storeGet 0 s.ringOld r - rd + w
  else if s.fld RING_WPTR_LAP r = s.fld RING_RPTR_LAP r then w - rd
  else s.ringLen r - rd + w

/-- Room in items (R332, R339). -/
def State.ringRoom (s : State) (r : Nat) : Nat :=
  if s.tail r then min (s.ringLen r) (s.fld RING_RPTR_OFF r) - s.fld RING_WPTR_OFF r
  else s.ringLen r - s.ringFill r

/-- Address of the item at an offset of a ring. -/
def State.ringAddr (s : State) (r off : Nat) : Nat := (s.fld RING_BASE_BASE r + off) * 16

/-- A watermark event of ring `r` sets out to every sequencer with a vector that names the ring (R335, R194). -/
def State.watermark (s : State) (r : Nat) : State :=
  let qs := (List.range 33).filter (fun q => (List.range 16).any (fun k =>
    decide (s.fldI SEQ_WVEC_SRC q k = 2) && decide (s.fldI SEQ_WVEC_INDEX q k = r)))
  { s with watermarks := s.watermarks ++ qs.map (fun q => (q, r)) }

/-- W leaves its lap: a staged length takes effect, and the reader is in the old lap (R338). -/
def State.lenTakes (s : State) (r : Nat) : State :=
  if s.bit RING_NEWLEN_PENDING r then
    { (((s.setFld RING_LEN_LEN r (s.fld RING_NEWLEN_NEWLEN r)).setBit RING_NEWLEN_PENDING r false).setBit
        RING_STAT_TAIL r true) with ringOld := storeSet 0 s.ringOld r (s.ringLen r) }
  else s

/-- W has reached the end (R332, R338): OFF returns to 0 and LAP inverts. -/
def State.ringWrap (s : State) (r : Nat) : State :=
  ((s.setFld RING_WPTR_OFF r 0).setFld RING_WPTR_LAP r (1 - s.fld RING_WPTR_LAP r)).lenTakes r

/-- R has left the old lap: TAIL clears, and a W that stands at the new end goes on (R339). -/
def State.tailEnds (s : State) (r : Nat) : State :=
  let s : State := { (s.setBit RING_STAT_TAIL r false) with ringOld := storeErase s.ringOld r }
  if s.ringLen r ≤ s.fld RING_WPTR_OFF r then s.ringWrap r else s

/-- Write an item at W and advance W; the watermark check follows the advance (R333, R335, R338). While TAIL is 1 a W that
reaches the new end stays there until TAIL clears (R339). -/
def State.ringPut (s : State) (master r : Nat) (item : BitVec 128) : State :=
  let w := s.fld RING_WPTR_OFF r
  let before := s.ringFill r
  let s := s.calderaWrite master (s.ringAddr r w) (itemBytes item)
  let s := if w + 1 < s.ringLen r ∨ s.tail r = true then s.setFld RING_WPTR_OFF r (w + 1) else s.ringWrap r
  let items := s.fld RING_WM_ITEMS r
  if s.fld RING_WM_DIR r = 0 ∧ items ≠ 0 ∧ before < items ∧ items ≤ s.ringFill r then s.watermark r else s

/-- R advances by one item (R333, R335, R339). -/
def State.ringPass (s : State) (r : Nat) : State :=
  let rd := s.fld RING_RPTR_OFF r
  let before := s.ringRoom r
  let last := if s.tail r then storeGet 0 s.ringOld r else s.ringLen r
  let s :=
    if rd + 1 < last then s.setFld RING_RPTR_OFF r (rd + 1)
    else
      let s := (s.setFld RING_RPTR_OFF r 0).setFld RING_RPTR_LAP r (1 - s.fld RING_RPTR_LAP r)
      if s.tail r then s.tailEnds r else s
  let items := s.fld RING_WM_ITEMS r
  if s.fld RING_WM_DIR r = 1 ∧ items ≠ 0 ∧ before < items ∧ items ≤ s.ringRoom r then s.watermark r else s

/-- Read the item at R and advance R. -/
def State.ringTakeItem (s : State) (master r : Nat) : BitVec 128 × State :=
  let (bs, s) := s.calderaRead master (s.ringAddr r (s.fld RING_RPTR_OFF r)) 16
  (itemOf bs, s.ringPass r)

/-- The agent may write items into the ring (R331). -/
def State.mayProduce (s : State) (ag r : Nat) : Bool :=
  let p := s.fld RING_CTRL_PROD r
  (decide (p = ag) && decide (p / 64 ≠ 0)) || (decide (p / 64 = 2) && timedSide ag)

/-- The agent may read items from the ring (R331). -/
def State.mayConsume (s : State) (ag r : Nat) : Bool :=
  decide (s.fld RING_CTRL_CONS r = ag) && decide (ag / 64 ≠ 0)

/-- What offering an item to a ring came to. -/
inductive Offer where
  | taken | waits | discarded
  deriving DecidableEq, Repr

/-- The producer begins to wait for a full ring (R334). -/
def State.ringWaitStart (s : State) (ag r : Nat) : State :=
  if s.ringWaits.contains (r, ag) then s
  else ({ s with ringWaits := s.ringWaits ++ [(r, ag)] }.bump RING_STAT_FULLCNT r).raise 0x0608 (srcOf 12 r) [r, ag]

/-- Access to a ring that is disabled (R331): the first one raises the record, and later ones merge into it. -/
def State.ringOff (s : State) (ag r : Nat) : State := s.raise 0x0602 (srcOf 12 r) [r, ag]

/-- Access to a ring by a master that its descriptor does not name for it (R331). -/
def State.ringNotMine (s : State) (ag r : Nat) : State := s.raise 0x0604 (srcOf 12 r) [r, ag]

/-- The word at W can be written now (R325, R340). -/
def State.writeOpen (s : State) (r : Nat) : Bool := s.wordOpen (s.ringAddr r (s.fld RING_WPTR_OFF r))

/-- A producer offers an item (R331, R334, R340): taken, waiting for room or for the clearing of its word's group, or discarded. -/
def State.ringOffer (s : State) (ag r : Nat) (item : BitVec 128) : State × Offer :=
  if !s.ringEn r then (s.ringOff ag r, .discarded)
  else if !s.mayProduce ag r then (s.ringNotMine ag r, .discarded)
  else if s.ringRoom r = 0 then (s.ringWaitStart ag r, .waits)
  else if !s.writeOpen r then (s, .waits)
  else ({ s with ringWaits := s.ringWaits.filter (· ≠ (r, ag)) }.ringPut ag r item, .taken)

/-! ### Event records (R126 to R129) -/

/-- The 16 bytes of an event record, as an item (R126). -/
def EvRec.item (r : EvRec) : BitVec 128 :=
  BitVec.ofNat 128 (r.ts.toNat + 2 ^ 64 * (r.source % 2 ^ 16 + 2 ^ 16 * (r.kind % 2 ^ 8 + 2 ^ 8 * (r.flags % 2 ^ 8
    + 2 ^ 8 * (r.payload % 2 ^ 32)))))

/-- A tracker passes the records it holds on to its ring, as far as the ring takes them (R102, R334). -/
def State.mtFlushGo (n : Nat) : Nat → State → State
  | 0, s => s
  | k + 1, s =>
    match (s.mt n).buf with
    | [] => s
    | r :: rest =>
      if !s.ready 4 then s
      else
        match s.ringOffer (agent 3 n) (s.act MT_RING_RING n) r.item with
        | (s, .waits) => s
        | (s, _) => mtFlushGo n k (s.setMt n { s.mt n with buf := rest })

def State.mtFlush (s : State) (n : Nat) : State := State.mtFlushGo n 16 s

/-- The link records that wait go to their ring, as far as it takes them (R444, R334). -/
def State.constFlushGo : Nat → State → State
  | 0, s => s
  | k + 1, s =>
    match s.const.buf with
    | [] => s
    | (l, r) :: rest =>
      if !s.ready 4 then s
      else
        match s.ringOffer (agent 4 l) (s.fld CONST_RING_RING 0) r.item with
        | (s, .waits) => s
        | (s, _) => constFlushGo k (s.mapConst (fun c => { c with buf := rest }))

def State.constFlush (s : State) : State := State.constFlushGo s.const.buf.length s

/-- Credits return to the link streams into a ring as it frees room (R437). -/
def State.creditReturn (s : State) (r : Nat) : State :=
  s.const.owed.foldl (fun s o =>
    if o.ring = r ∧ o.n ≤ s.ringRoom r then
      (s.mapConst (fun c => { c with owed := c.owed.filter (fun x => decide (x ≠ o)) })).sendTo o.dev 0x0A
        (leBytes 1 o.stream ++ leBytes 2 o.n ++ leBytes 1 0)
    else s) s

/-- A ring has room: a tracker whose records waited goes on, link records too, and credits return. -/
def State.ringRoomed (s : State) (r : Nat) : State :=
  let s := (List.range 8).foldl (fun s n => if s.act MT_RING_RING n = r then s.mtFlush n else s) s
  let s := if s.fld CONST_RING_RING 0 = r then s.constFlush else s
  s.creditReturn r

/-- Read the item at R and advance R. -/
def State.ringTake (s : State) (master r : Nat) : BitVec 128 × State :=
  let (x, s) := s.ringTakeItem master r
  (x, s.ringRoomed r)

/-- Advance R past `n` items that have been read before. -/
def State.ringSkip (s : State) (r : Nat) : Nat → State
  | 0 => s.ringRoomed r
  | n + 1 => (s.ringPass r).ringSkip r n

/-- Offset of the item `k` places behind the read pointer (R332, R339). -/
def State.aheadOff (s : State) (r k : Nat) : Nat :=
  let last := if s.tail r then storeGet 0 s.ringOld r else s.ringLen r
  let o := s.fld RING_RPTR_OFF r + k
  if o < last then o else o - last

/-- The word of the item `k` behind R can be read now (R325, R340). -/
def State.readOpen (s : State) (r k : Nat) : Bool := s.wordOpen (s.ringAddr r (s.aheadOff r k))

def fLate : Nat := 1
def fCoast : Nat := 2
def fRemote : Nat := 64
def fAmended : Nat := 128

/-- HOLDOVER and LOCAL of a timestamp taken now (R48, R129). -/
def State.timeFlags (s : State) : Nat := 4 * b2n s.holdFlag + 8 * b2n s.time.localRec

/-- A record whose flags, HOLDOVER and LOCAL among them, are given; it carries STEP where it is its source's first since a step
(R52, R129). DESIGN CHOICE (log entry 120): a record that is then lost in a full FIFO uses up its source's STEP mark. -/
def State.evRecOf (s : State) (ts : Stamp) (source kind flags payload : Nat) : EvRec × State :=
  let step := s.time.stepped && !s.time.emitted.contains source
  ({ ts := ts, source := source, kind := kind, payload := payload, flags := flags + 16 * b2n step },
   if s.time.stepped && step then { s with time := { s.time with emitted := source :: s.time.emitted } } else s)

/-- A record of this instant with the time flags (R48, R52, R129). -/
def State.evRec (s : State) (ts : Stamp) (source kind flags payload : Nat) : EvRec × State :=
  s.evRecOf ts source kind (flags + s.timeFlags) payload

/-- Put a record into a sill's FIFO of 16, or lose it (R123). -/
def State.sillEmit (s : State) (n : Nat) (r : EvRec) : State :=
  let x := s.sill n
  if 16 ≤ x.fifo.length then
    ((s.setSill n { x with lostSince := x.lostSince + 1 }).bump SILL_LOSTCNT_LOST n).raiseFirst 0x0303 (sillSrc n)
      [n]
  else
    let r := if x.lostSince = 0 then r else
      { r with flags := r.flags + 32, payload := r.payload % 2 ^ 16 + 2 ^ 16 * min x.lostSince 65535 }
    s.setSill n { x with fifo := x.fifo ++ [r], lostSince := 0 }

/-- Event-record SOURCE of a sill (R127). -/
def sillSource (n : Nat) : Nat := if n < 1024 then n else 1024 + (n - 1024)

/-- The part is in SLEEP (R502): sequencers, engines and personalities stand still. -/
def State.asleep (s : State) : Bool := decide (s.fld SUP_PWR_STATE 0 = 3)

/-! ### Wake vectors and signals (R194, R197) -/

/-- Vectors of sequencer `q` that name a source. -/
def State.vectorsOn (s : State) (q src idx : Nat) : List Nat :=
  (List.range 16).filter (fun k =>
    decide (s.fldI SEQ_WVEC_SRC q k = src) && (decide (src = 4) || decide (s.fldI SEQ_WVEC_INDEX q k = idx)))

/-- A wake from RETAIN (R504, R508): every group of RMASK returns to ON; `cause` counts R504's list from 1. -/
def State.wakeRetain (s : State) (cause : Nat) : State :=
  if s.fld SUP_PWR_STATE 0 = 2 then
    let s := (List.range 8).foldl (fun s g =>
      if bitOf (s.fld SUP_PWR_RMASK 0) g && decide (s.group g = 1) then
        (s.setGroup g 0).setFld CALDERA_PWR_G 0 (setPair (s.fld CALDERA_PWR_G 0) g 0)
      else s) s
    (s.setFld SUP_PWR_STATE 0 0).raise 0x0C31 (srcOf 0 0) [2, cause]
  else s

/-- Vector `k` of sequencer `q` becomes pending (R194); enabled, it wakes the part from RETAIN (R504). -/
def State.pendVector (s : State) (q k : Nat) : State :=
  let s := s.setFld SEQ_WPEND_PEND q (withBit (s.fld SEQ_WPEND_PEND q) k)
  if bitOf (s.fld SEQ_WEN_EN q) k then s.wakeRetain 1 else s

/-- Set every vector of sequencer `q` that names the source pending (R194). -/
def State.pendVectors (s : State) (q src idx : Nat) : State :=
  (s.vectorsOn q src idx).foldl (fun s k => s.pendVector q k) s

/-- The firmware posts the note of a signal bit that a program has sent to SUP (R497; log entry 147). -/
def State.signalNote (s : State) (q b : Nat) : State := if q = 32 ∧ 16 ≤ b ∧ s.ready 0 = true then s.postNote (0x20 + b) else s

/-- A signal bit arrives at sequencer `q` (R197). -/
def State.signalIn (s : State) (q b : Nat) : State :=
  let vs := s.vectorsOn q 3 b
  if vs.isEmpty then
    if bitOf (s.fld SEQ_SIGPEND_PEND q) b then s.bump SEQ_SIGMERGE_MERGED q
    else (s.setFld SEQ_SIGPEND_PEND q (withBit (s.fld SEQ_SIGPEND_PEND q) b)).signalNote q b
  else
    let merged := vs.any (fun k => bitOf (s.fld SEQ_WPEND_PEND q) k)
    let s := s.pendVectors q 3 b
    if merged then s.bump SEQ_SIGMERGE_MERGED q else s.signalNote q b

/-! ### Engine interrupts (R365) -/

def State.engine (s : State) (n : Nat) : Engine := storeGet {} s.engines n
def State.setEngine (s : State) (n : Nat) (x : Engine) : State := { s with engines := storeSet {} s.engines n x }

/-- SE.IRQPEND: bit 0 follows the attention latch (R365). -/
def State.irqPend (s : State) (e : Nat) : Nat :=
  s.fld SE_IRQPEND_PEND e / 2 * 2 + b2n (decide (Nat.land (s.fld SE_ATNPEND_PEND e) (s.fld SE_ATNEN_EN e) ≠ 0))

/-- The source of a level that would be taken: the lowest-numbered one pending and enabled. -/
def State.irqSource (s : State) (e : Nat) (level2 : Bool) : Option Nat :=
  (List.range 7).find? (fun k => bitOf (s.irqPend e) k && bitOf (s.fld SE_IRQEN_EN e) k &&
    (bitOf (s.fld SE_IRQLVL_L2 e) k == level2))

/-- A takeable engine interrupt wakes the part from RETAIN (R504). -/
def State.irqCheck (s : State) (e : Nat) : State :=
  let st := s.fld SE_STATUS_STATE e
  let l := (s.engine e).level
  if (st = 1 ∨ st = 2) ∧ ((l < 2 ∧ s.irqSource e true ≠ none) ∨ (l = 0 ∧ s.irqSource e false ≠ none)) then s.wakeRetain 2
  else s

/-! ### Surveys (R315, R317) -/

/-- Zone `k` is under survey, in its writing phase, BORROWED or being restored. -/
def State.surveyed (s : State) (k : Nat) : Bool :=
  decide (s.fld SUP_SURVSTAT_PHASE 0 ≠ 0) && decide (s.fld SUP_SURVSTAT_ZONE 0 = k)

/-- A cause of a yield reaches zone `k` (R317). -/
def State.surveyCause (s : State) (k : Nat) (c : YieldCause) : State :=
  if s.surveyed k then { s with survey := { s.survey with causes := s.survey.causes ++ [c] } } else s

end Sys2Proof.Machine
end

