-- ==== Sys2Proof/Machine/Classes.lean ====
section
/-! DEFINITION. Change classes (R21, R23 to R30): what a configuration write does to a register's fields, and what an
arm copies. The effects a register has beyond its fields stand in its family's file. -/

namespace Sys2Proof.Machine

open Sys2Proof.F

/-- The fields of the register at an offset of a block, with the register's index. -/
def fieldsAt (b : Blk) (off : Nat) : List (Fld × Nat) :=
  (regTable b).filterMap (fun f =>
    if f.stride = 0 then (if f.off = off then some (f, 0) else none)
    else if f.off ≤ off ∧ (off - f.off) % f.stride = 0 ∧ (off - f.off) / f.stride < f.cnt then
      some (f, (off - f.off) / f.stride)
    else none)

/-- The block class of an error record's SOURCE, with the record's instance number (R491). -/
def blkSrc (b : Blk) (n : Nat) : Nat :=
  match b with
  | .sup => srcOf 0 0
  | .time => srcOf 1 0
  | .mpll => srcOf 2 n
  | .mt => srcOf 3 n
  | .atn => srcOf 4 n
  | .port => srcOf 5 n
  | .sill => sillSrc n
  | .seq => if n = 32 then srcOf 0 0 else srcOf 8 n
  | .se => srcOf 9 n
  | .zone => srcOf 10 n
  | .caldera => srcOf 11 0
  | .ring => srcOf 12 n
  | .flash => srcOf 13 0
  | .link => srcOf 14 n
  | .const => srcOf 15 0
  | .host | .fp => srcOf 16 0
  | .chassis => srcOf 17 0
  | .dma => srcOf 18 n

/-- A block instance runs, in the sense of R23, by its chapter's definition where it has one; else from the setting of its ready
bit until a reset that covers it. DESIGN CHOICE (log entry 97): no rule names a ready bit for the CHASSIS block; the model takes
bit 5, the time base. -/
def State.running (s : State) (b : Blk) (n : Nat) : Bool :=
  match b with
  | .sup => s.ready 0
  | .time => s.hasBegun 5
  | .mpll => s.bit MPLL_CTRL_EN n
  | .mt => s.bit MT_CTRL_EN n
  | .atn => s.bit ATN_CTRL_EN n
  | .port => bitOf (s.fld SUP_PREADY_MAP 0) n
  | .sill => s.bit SILL_CTRL_EN n && s.ready 15
  | .seq => decide ((s.seq n).st = .running) || decide ((s.seq n).st = .waiting)
  | .se => decide (s.fld SE_STATUS_STATE n = 1) || decide (s.fld SE_STATUS_STATE n = 2)
  | .zone => decide (s.fld ZONE_STATUS_STATE n = 1) || decide (s.fld ZONE_STATUS_STATE n = 3)
  | .caldera => s.hasBegun 4
  | .ring => s.ringEn n
  | .flash => decide (s.fld FLASH_QHEAD_HEAD 0 ≠ s.fld FLASH_QTAIL_TAIL 0) || s.flash.banks.any (fun c =>
      (decide (c.2.op ≠ 0) && !c.2.own) || (match c.2.held with
        | some h => !h.own
        | none => false))
  | .link => s.bit LINK_CTRL_EN n
  | .const => s.bit CONST_CTRL_EN 0
  | .host => s.hasBegun 7
  | .chassis => s.hasBegun 5
  | .fp => s.bit FP_QCFG_EN 0
  | .dma => s.bit DMA_CTRL_EN n

/-- Write one field by its class (R24, R25, R29); true if an F field keeps its value against a different one. -/
def State.writeField (s : State) (run : Bool) (n i : Nat) (f : Fld) (x : Nat) : State × Bool :=
  match f.acc, f.cls with
  | .ro, _ => (s, false)
  | .wo, _ => (s, false)
  | .w1c, _ => (s.setFldI f n i (s.fldI f n i - Nat.land (s.fldI f n i) x), false)
  | .rw, .l => ((if run && tickBlock f.blk then s.keepPrior f n i else s).setFldI f n i x, false)
  | .rw, .a => if run then (s.setStagedI f n i x, false) else ((s.setStagedI f n i x).setFldI f n i x, false)
  | .rw, .f => if run then (s, decide (s.fldI f n i ≠ x)) else (s.setFldI f n i x, false)

/-- Write a register by class, field by field; fields that `skip` names are left alone (R30). `who` is the master. -/
def State.classWrite (s : State) (who : Nat) (b : Blk) (n off v : Nat) (skip : Fld → Nat → Bool) : State :=
  let run := s.running b n
  (fieldsAt b off).foldl (fun s fi =>
    let (f, i) := fi
    let x := bitsOf v f.lo f.width
    if skip f x then s
    else
      let (s, bad) := s.writeField run n i f x
      if bad then s.raise 0x0C01 (blkSrc b n) [(cfgBase b n + off) % 2 ^ 32, who] else s) s

/-- Copy every staged A field of an instance into its active value (R25). -/
def State.armCopy (s : State) (b : Blk) (n : Nat) (skip : Fld → Nat → Bool) : State :=
  ((regTable b).filter (fun f => decide (f.cls = .a))).foldl (fun s f =>
    (List.range f.cnt).foldl (fun s i => if skip f i then s else s.setFldI f n i (s.stagedI f n i)) s) s

/-- A reset of a block instance clears its pending arm, and its staging copies take their reset values (R28); `size` is that of its
register range. -/
def State.dropArm (s : State) (b : Blk) (n size : Nat) : State :=
  let a := cfgBase b n * 32
  { s with arms := storeErase s.arms (ownerKey b n), staged := s.staged.filter (fun c => !(decide (a ≤ c.1) &&
    decide (c.1 < a + size * 32))) }

end Sys2Proof.Machine
end

