-- ==== Sys2Proof/Machine/Time.lean ====
section
/-! DEFINITION. The time base: R32 to R56. -/

namespace Sys2Proof.Machine

open Sys2Proof.F

def timeSrc : Nat := srcOf 1 0

/-- Reference code of a loop as it acts (R38): 3 acts as 0. -/
def State.loopRef (s : State) (l : Nat) : Nat :=
  let c := if l = 0 then s.fld TIME_REFSEL_REF0 0 else s.fld TIME_REFSEL_REF1 0
  if c = 3 then 0 else c

def TimeState.loop (t : TimeState) (l : Nat) : TimeLoop := if l = 0 then t.loop0 else t.loop1
def TimeState.setLoop (t : TimeState) (l : Nat) (x : TimeLoop) : TimeState :=
  if l = 0 then { t with loop0 := x } else { t with loop1 := x }

/-- A reference by its code (R38). -/
def TimeState.ref (t : TimeState) (r : Nat) : RefState := if r = 1 then t.ref100 else if r = 2 then t.ref10m else t.refXtal
def TimeState.setRef (t : TimeState) (r : Nat) (x : RefState) : TimeState :=
  if r = 1 then { t with ref100 := x } else if r = 2 then { t with ref10m := x } else { t with refXtal := x }

def State.setTime (s : State) (t : TimeState) : State := { s with time := t }

def State.setLoop (s : State) (l : Nat) (x : TimeLoop) : State := s.setTime (s.time.setLoop l x)

/-- The standby loop. -/
def State.standby (s : State) : Nat := 1 - s.time.active

/-- STBYREADY (R42): the standby in shadow lock, with its own reference qualified. -/
def State.stbyReady (s : State) : Bool :=
  (s.time.loop s.standby).shadow && (s.time.ref (s.loopRef s.standby)).qualified

/-- A switchover is due at the next tick boundary (R42, R44), outside holdover only (R46). -/
def State.wantSwitch (s : State) : State :=
  if s.time.holdover then s else s.setTime { s.time with switchPending := true }

/-- REVERT with TPLL_0 as a ready standby (R44). -/
def State.revertIf (s : State) (revert : Bool) : State :=
  if revert && decide (s.time.active = 1) && s.stbyReady then s.wantSwitch else s

/-- R44 with REVERT as it is in force (R24). -/
def State.revertCheck (s : State) : State := s.revertIf (s.actBit TIME_CTRL_REVERT 0)

/-! ### The time clock's frequency (R41, R43, R45, R53, R56) -/

/-- REFTOL as it acts (R56): 0 as 1. -/
def State.refTol (s : State) : Nat := max 1 (s.act TIME_REFMON_REFTOL 0)

/-- QUAL as it acts (R56): 0 as 1. -/
def State.qualWindows (s : State) : Nat := max 1 (s.act TIME_REFMON_QUAL 0)

/-- PULL as it acts (R56): 0 as 1, above 100 as 100. -/
def State.pullRate (s : State) : Nat := ppmOf (s.act TIME_CTRL_PULL 0)

/-- Where a reference stands against the crystal, in ppb: the crystal itself at 0, another one within REFTOL ppm of its
nominal frequency while it is qualified (R40), a free value. -/
def State.refPpb (s : State) (r : Nat) : Int × State :=
  if r = 0 then (0, s)
  else
    let (f, s) := s.freeNat
    let lim : Nat := 1000 * s.refTol
    ((if (s.time.ref r).qualified then (f % (2 * lim + 1) : Nat) - (lim : Int) else signedOf 32 f), s)

/-- How far a pull has gone, in ppb (R43): `work` is rate × ticks, the rate in 0.01 ppm per ms. -/
def pullReach (work : Nat) : Int := (10 * work / (1000 * usTicks) : Nat)

/-- The frequency on its way from `x` to `y` after so much of the pull (R43). -/
def pulled (x y : Int) (work : Nat) : Int := max (x - pullReach work) (min (x + pullReach work) y)

/-- The active loop's frequency against the crystal, in ppb: held (R41, R45), on the way to its reference (R43), or that
reference's. In free-run it is not specified (R47). -/
def State.freqNow (s : State) : Int × State :=
  if s.time.freerun then
    let (f, s) := s.freeNat
    (signedOf 32 f, s)
  else
    match s.time.freq with
    | .held x => (x, s)
    | .follow => s.refPpb (s.loopRef s.time.active)
    | .pull x t rate done =>
      let (y, s) := s.refPpb (s.loopRef s.time.active)
      (pulled x y (done + rate * (s.tickNo - t)), s)

/-- A value between two, a free one. -/
def State.between (s : State) (a b : Int) : Int × State :=
  let (f, s) := s.freeNat
  (min a b + (f % ((a - b).natAbs + 1) : Nat), s)

/-- The active loop's frequency now, and its average over the last 100 ms (R45). On a reference the average is a value within REFTOL
of its own; during a pull, which moves one way, it is one between where the pull stood 100 ms ago and where it stands (DESIGN
CHOICE, log entry 122). -/
def State.freqMean (s : State) : Int × Int × State :=
  if s.time.freerun then
    let (x, s) := s.freqNow
    (x, x, s)
  else
    match s.time.freq with
    | .held x => (x, x, s)
    | .follow =>
      let (x, s) := s.refPpb (s.loopRef s.time.active)
      let (y, s) := s.refPpb (s.loopRef s.time.active)
      (x, y, s)
    | .pull x t rate done =>
      let (y, s) := s.refPpb (s.loopRef s.time.active)
      let now := pulled x y (done + rate * (s.tickNo - t))
      let (m, s) := s.between (pulled x y (done + rate * (s.tickNo - t) - rate * (100000 * usTicks))) now
      (now, m, s)

/-- TIME.FREQ (R56): the frequency with what the PPS discipline has added, a step per second being 25 × 10⁻³ ppb. -/
def State.freqShown (s : State) : Int × State :=
  let (x, s) := s.freqNow
  (x + s.time.trim / 40, s)

/-- The active loop pulls from a frequency to its reference (R43). -/
def State.pullFrom (s : State) (x : Int) : State :=
  s.setTime { s.time with freq := .pull x s.tickNo s.pullRate 0 }

/-- The active loop pulls from its present frequency to its reference (R43). -/
def State.freqPull (s : State) : State :=
  let (x, s) := s.freqNow
  s.pullFrom x

/-- A pull that runs goes on at the rate that PULL now gives, from the next tick boundary on (R24, R43). -/
def State.pullGoesOn (s : State) : State :=
  match s.time.freq with
  | .pull x t rate done =>
    let n := s.tickNo + 1
    s.setTime { s.time with freq := .pull x n (ppmOf (s.fld TIME_CTRL_PULL 0)) (done + rate * (n - t)) }
  | _ => s

/-- The active loop freezes its control word at the frequency it had when its reference was lost (R41). -/
def State.freezeActive (s : State) (x : Int) : State :=
  (s.setTime { s.time with freq := .held x }).setLoop s.time.active
    { s.time.loop s.time.active with frozen := true, locked := false }

/-- Entry into holdover (R45) with `avg`, the frequency averaged over the 100 ms before the loss. A crystal that was lost
before leaves FREERUN 0 (log entry 99). -/
def State.enterHoldover (s : State) (avg : Int) : State :=
  if s.time.holdover then s
  else
    let (x, s) := s.freqShown
    (s.setTime { s.time with
      holdover := true, holdRec := true, holdStart := s.tickNo, switchPending := false, freq := .held avg }).raise
      0x0104 timeSrc [word x]

/-- The active loop has lost its reference: freeze, then switchover or holdover (R41, R42, R45); `x` and `avg` are the frequency it
had then and the average over the 100 ms before. -/
def State.activeRefLost (s : State) (x avg : Int) : State :=
  let s := s.freezeActive x
  if s.time.holdover then s else if s.stbyReady then s.wantSwitch else s.enterHoldover avg

/-- Detail of 0x0106: 1 holdover, 2 free-run, 0 neither (R541). -/
def State.xtalDetail (s : State) : Nat := if s.time.freerun then 2 else if s.time.holdover then 1 else 0

/-- Which loop follows a reference: 0, 1, 2 both, 3 neither (R68). -/
def State.followers (s : State) (r : Nat) : Nat :=
  if s.loopRef 0 = r then (if s.loopRef 1 = r then 2 else 0) else if s.loopRef 1 = r then 1 else 3

/-- The loop that takes over at an exit from holdover (R46), if a loop's reference is qualified. -/
def State.exitLoop (s : State) : Option Nat :=
  if (s.time.ref (s.loopRef 0)).qualified then some 0
  else if (s.time.ref (s.loopRef 1)).qualified then some 1 else none

/-- Exit from holdover (R46): the qualified loop becomes active and pulls, the other is its standby. The records of a root
stop carrying HOLDOVER here (log entry 98); 0x0105 carries the duration modulo 2^32 (log entry 100). -/
def State.exitHoldover (s : State) : State :=
  match s.time.holdover, s.exitLoop with
  | true, some l =>
    let dur := s.tickNo - s.time.holdStart
    let t := (s.time.setLoop l { s.time.loop l with frozen := false, shadow := false }).setLoop (1 - l)
      { s.time.loop (1 - l) with frozen := false, locked := false, shadow := false }
    let s := s.freqPull
    (s.setTime { t with
      freq := s.time.freq, active := l, holdover := false, freerun := false
      holdRec := s.bit CONST_CTRL_EN 0 && !s.bit CONST_STATUS_ROOT 0 }).raise 0x0105 timeSrc [l, dur]
  | _, _ => s

/-- With AUTORET set, the time base leaves holdover as soon as a loop's reference is qualified (R46). -/
def State.autoReturn (s : State) : State := if s.act TIME_CTRL_AUTORET 0 = 1 then s.exitHoldover else s

/-- Publish the bits of TIME.REFMON that show which references are qualified. -/
def State.showRefs (s : State) : State :=
  (((s.setBit TIME_REFMON_VALXTAL 0 s.time.refXtal.qualified).setBit TIME_REFMON_VAL100 0 s.time.ref100.qualified).setBit
    TIME_REFMON_VAL10M 0 s.time.ref10m.qualified).setBit CHASSIS_STATUS_CLK100OK 0 s.time.ref100.qualified

/-- Pin `i` lies in an LVDS pair (R154). -/
def State.paired (s : State) (p i : Nat) : Bool := bitOf (s.fld PORT_LVDS_PAIR p) (i / 2)

/-- The pin of a channel is in analogue mode; ANA is ignored on a paired pin (R155). -/
def State.analogue (s : State) (ch : Nat) : Bool :=
  decide (s.fldI PORT_PIN_ANA (ch / 32) (ch % 32) = 1) && !s.paired (ch / 32) (ch % 32)

/-- The pin of a channel is set up as a digital input (R40, R121, R154, R155): its buffer is selected, it is no pin in analogue
mode and no odd pin of a pair. -/
def State.pinInput (s : State) (ch : Nat) : Bool :=
  decide (s.fldI PORT_PIN_INEN (ch / 32) (ch % 32) = 1) && !s.analogue ch &&
    !(s.paired (ch / 32) (ch % 32) && decide (ch % 2 = 1))

/-! ### Steps (R50 to R52, R79, R136) -/

/-- A pending entry moves with a step (R136), and with it the TIME that its late record carries. -/
def moveEntry (d : Stamp) (e : QEntry) : QEntry := { e with time := e.time + d, asked := e.asked.map (· + d) }

/-- A sill's pending entries and the trailing edge of its pulse move with a step (R136); waiting entries do not (R137). DESIGN
CHOICE (log entry 128): the timestamp of an aperture taken before the step, whose conversion still runs, moves too. -/
def moveSill (d : Stamp) (x : Sill) : Sill :=
  { x with
    queue := x.queue.map (moveEntry d)
    pulse := x.pulse.map (fun p => { p with ends := p.ends + d })
    samples := x.samples.map (fun a => (a.1 + d, a.2)) }

/-- A tracker's model moves with a step (R79); so do the times of its committed and watched entries (R51). -/
def moveTracker (d : Stamp) (x : Tracker) : Tracker :=
  { x with
    base := x.base + d
    mBase := x.mBase + d
    past := x.past.map (fun c => (c.1 + d, { c.2 with base := c.2.base + d, mBase := c.2.mBase + d }))
    hist := x.hist.map (fun e => { e with t := e.t + d })
    dropAt := x.dropAt.map (· + d)
    stopAt := x.stopAt.map (· + d)
    limitAt := x.limitAt.map (· + d)
    filt := x.filt.map (fun e => { e with t := e.t + d })
    slots := x.slots.map (fun c =>
      (c.1, if c.2.state = 0 then c.2 else { c.2 with pred := c.2.pred.map (· + d), time := c.2.time + d }))
    watch := x.watch.map (fun w => { w with time := w.time + d }) }

/-- The target of a WAITT moves with a step (R192). -/
def moveSeq (d : Stamp) (x : Seq) : Seq :=
  match x.wait with
  | some w => match w.what with
    | .time t => { x with wait := some { w with what := .time (t + d) } }
    | _ => x
  | none => x

/-- The SAMPLEs that wait for a converter move with a step (R136). -/
def movePort (d : Stamp) (x : Port) : Port := { x with early := x.early.map (fun e => (e.1, moveEntry d e.2)) }

def mapStore {α : Type} (f : α → α) (m : Store α) : Store α := m.map (fun c => (c.1, f c.2))

/-- The stamps of the device's own time that a link holds move with the step, so that the round they belong to measures the new time
(R426, R428). -/
def moveLink (d : Stamp) (x : LinkSide) : LinkSide :=
  { x with sent := x.sent.map (fun p => (p.1, p.2 + d)), rx := x.rx.map (fun r => { r with time := r.time + d }) }

/-- Every hardware-held time target moves by Δ in the tick of the step (R51). -/
def State.moveTargets (s : State) (d : Stamp) : State :=
  { s with
    sills := mapStore (moveSill d) s.sills
    ports := mapStore (movePort d) s.ports
    trackers := mapStore (moveTracker d) s.trackers
    seqs := mapStore (moveSeq d) s.seqs
    links := mapStore (moveLink d) s.links
    arms := s.arms.map (fun c => (c.1, c.2 + d))
    swaps := s.swaps.map (fun w => { w with time := w.time + d }) }

/-- Apply a step value (R50): the whole-tick part moves the counter, the step part joins or becomes the remainder. -/
def State.applyStep (s : State) (v : Stamp) : State :=
  if !s.time.counting then s
  else
    let part : Nat := v.toNat % 32
    let whole : Stamp := v - BitVec.ofNat 64 part
    if whole = 0 then s.setTime { s.time with slewRem := s.time.slewRem + part }
    else
      let s := s.passTicks 1
      let old := s.time.slewRem
      let s := s.moveTargets whole
      let t := s.time
      (s.setTime { t with
        counter := t.counter + whole, slewRem := part, slewAcc := 0, stepCnt := (t.stepCnt + 1) % 256
        stepped := true, emitted := []
        steps := t.steps.filter (fun c => decide (s.tickNo < c.1 + 8)) ++ [(s.tickNo, whole)] }).raise 0x0107 timeSrc (two v ++
          [word old])

/-- The counter as it stood at the tick boundary `k` ticks ago, of the last 8: before a step, and before it began to count. -/
def State.nowAgo (s : State) (k : Nat) : Stamp :=
  if !s.time.counting then s.now
  else
    let back := (s.time.steps.filter (fun c => decide (s.tickNo < c.1 + k))).foldl (fun d c => d + c.2) 0
    s.now - back - ticks (min k (s.tickNo - s.time.since))

/-- The step value held in TIME.STEP_HI:TIME.STEP_LO. -/
def State.stepValue (s : State) : Stamp :=
  BitVec.ofNat 64 (s.fld TIME_STEP_LO_DLO 0 + 2 ^ 32 * s.fld TIME_STEP_HI_DHI 0)

/-- FORCESW (R42, R46). -/
def State.forceSwitch (s : State) : State :=
  if s.time.holdover then s.exitHoldover else if s.stbyReady then s.wantSwitch else s

/-- Offsets whose writes the constellation alignment takes away from programs (R54). -/
def timeOwnedOff (off : Nat) : Bool := decide (off = 0x18) || decide (off = 0x1C) || decide (off = 0x20)

/-- What a write to a TIME register does beyond its fields (R42, R48, R49, R50, R54). -/
def State.timeWrote (s : State) (off v : Nat) (pps : Bool) : State :=
  if off = 0x24 then
    (if s.bit TIME_PPSCFG_EN 0 && !pps then s.setTime { s.time with ppsTick := s.tickNo, ppsSeen := false } else s)
  else if off = 0x18 then s.setTime { s.time with slewRem := signedOf 32 v, slewAcc := 0 }
  else if off = 0 then
    let s := if bitOf v 23 then (s.setTime { s.time with localRec := false }).setBit TIME_CTRL_LOCALOFF 0 true else s
    let s := if bitOf v 20 then s.forceSwitch else s
    let s := s.pullGoesOn.revertIf (s.bit TIME_CTRL_REVERT 0)
    let s := if s.bit TIME_CTRL_AUTORET 0 then s.exitHoldover else s
    if bitOf v 31 then
      if s.constOwn then s.raise 0x0109 timeSrc [0x10000] else s.applyStep s.stepValue
    else s
  else s

/-- The bits of TIME.STATUS. -/
def State.timeStatus (s : State) : Nat :=
  let t := s.time
  let lk (l : TimeLoop) := b2n (l.locked || l.shadow)
  2 ^ 24 * t.stepCnt + 2 ^ 19 * b2n t.xtalOk + 2 ^ 18 * b2n s.stbyReady + 2 ^ 17 * t.active + 2 ^ 16 * b2n t.holdover +
    2 ^ 15 * b2n t.freerun + 2 ^ 14 * b2n (decide (t.slewRem ≠ 0)) + 2 ^ 13 * b2n t.localRec + 2 ^ 12 * b2n s.constOwn +
    2 ^ 11 * lk t.loop1 + 2 ^ 10 * lk t.loop0 + 2 ^ 9 * b2n t.counting

/-- An armed change of CH10M names another signal, which qualifies anew (R40). -/
def State.ch10mArmed (s : State) (old : Nat) : State :=
  if s.fld TIME_REFSEL_CH10M 0 = old then s
  else (s.setTime { s.time with ref10m := { s.time.ref10m with qualified := false, since := s.tickNo } }).showRefs

/-- An armed change of REFSEL (R43): `old` is the reference the active loop followed before the arm, `ch` the channel of the
10 MHz reference, `x` and `avg` the frequency inherited and its average over the last 100 ms. -/
def State.refselArmed (s : State) (old ch : Nat) (x avg : Int) : State :=
  let r := s.loopRef s.time.active
  let s :=
    if r = old ∧ (r ≠ 2 ∨ s.fld TIME_REFSEL_CH10M 0 = ch) then s
    else if !(s.time.ref r).qualified then (s.raise 0x0101 timeSrc [r, s.followers r]).activeRefLost x avg
    else if s.time.holdover then s
    else (s.pullFrom x).setLoop s.time.active { s.time.loop s.time.active with locked := false }
  s.autoReturn.revertCheck

/-- The arm of TIME (R25, R40, R43): the frequency is that of the references as they stand before it. -/
def State.timeArm (s : State) : State :=
  let old := s.loopRef s.time.active
  let ch := s.fld TIME_REFSEL_CH10M 0
  let (x, avg, s) := s.freqMean
  ((s.armCopy .time 0 (fun _ _ => false)).ch10mArmed ch).refselArmed old ch x avg

/-! ### Meanings -/

/-- XTALOK (R55): the crystal runs, and both loops hop to their stored bands or start calibration. -/
def execXtalok (s : State) : Host.Outcome State Fault Refusal :=
  let t := s.time
  .next (s.setTime { t with
    xtalOk := true
    refXtal := if t.xtalOk then t.refXtal else { t.refXtal with since := s.tickNo }
    loop0 := { t.loop0 with searching := !s.bit TIME_TPLL_0_BANDVALID 0, misses := 0 }
    loop1 := { t.loop1 with searching := !s.bit TIME_TPLL_1_BANDVALID 0, misses := 0 } })

/-- Hardware notes the band in which a loop has locked (R56). -/
def State.bandLocked (s : State) (l band : Nat) : State :=
  if l = 0 then (s.setFld TIME_TPLL_0_BAND 0 band).setBit TIME_TPLL_0_BANDVALID 0 true
  else (s.setFld TIME_TPLL_1_BAND 0 band).setBit TIME_TPLL_1_BANDVALID 0 true

/-- TPLL_LOCK (R33, R55): the active loop declares lock; a pull that runs goes on to its reference (R43). A loop whose reference is
lost stays on its frozen control word until a switchover or an exit from holdover (R41, R45). -/
def execTpllLock (band : Fin 64) (s : State) : Host.Outcome State Fault Refusal :=
  if !s.time.xtalOk || (s.time.loop s.time.active).frozen || s.time.holdover then .next s
  else
    let l := s.time.active
    let s := s.setLoop l { s.time.loop l with locked := true, searching := false, misses := 0 }
    let s := (s.setTime { s.time with freq := match s.time.freq with
      | .pull x t rate done => .pull x t rate done
      | _ => .follow }).bandLocked l band.val
    .next (if s.time.counting then s else s.setTime { s.time with lockSeen := true })

/-- BAND_FALLBACK (R55): the stored band did not lock within eight windows, so the loop calibrates. -/
def execBandFallback (loop : Fin 2) (s : State) : Host.Outcome State Fault Refusal :=
  let x := s.time.loop loop.val
  if x.locked || x.shadow || !s.time.xtalOk then .next s
  else .next (s.setLoop loop.val { x with searching := true, misses := 8 })

/-! ### The divided clocks of the islands (R263) -/

def Zone.clock (z : Zone) (i : Nat) : IslandClock := if i = 0 then z.clk0 else z.clk1

def State.mapClock (s : State) (k i : Nat) (f : IslandClock → IslandClock) : State :=
  s.mapZone k (fun z => if i = 0 then { z with clk0 := f z.clk0 } else { z with clk1 := f z.clk1 })

/-- The first tick from `t` on whose tick count is a multiple of DIV (R263). -/
def State.riseFrom (s : State) (div t : Nat) : Nat :=
  let c := s.now.toNat / 32 + (t - s.tickNo)
  t + (div - c % div) % div

/-- The counter counts again: the divided clocks that waited for it start at their next rising edge (R263). -/
def State.iclkResume (s : State) : State :=
  s.zones.foldl (fun s c => [0, 1].foldl (fun s i => s.mapClock c.1 i (fun x => { x with
    run := x.run.map (fun r => if r.src = 1 ∧
      r.start = none then { r with start := some (s.riseFrom r.div s.tickNo) } else r) })) s) s

/-- The counter stops: the divided clocks stop with it. -/
def State.iclkHalt (s : State) : State :=
  s.zones.foldl (fun s c => [0, 1].foldl (fun s i => s.mapClock c.1 i (fun x => {
    old := x.old.filter (fun r => decide (r.src ≠ 1))
    run := x.run.map (fun r => if r.src = 1 then { r with start := none } else r) })) s) s

/-- COUNTER_START (R33, R36): one tick after the lock declaration the counter starts, from 0 or from the value it held, and
the register clock takes its phase, a free value. -/
def execCounterStart (s : State) : Host.Outcome State Fault Refusal :=
  if s.time.lockSeen && !s.time.counting then
    let (f, s) := (s.passTicks 1).freeNat
    .next ((s.setTime { s.time with counting := true, lockSeen := false, phase := f % 8, since := s.tickNo }).iclkResume.setReady 5 true).syncReady15
  else .next s

/-- REFERENCE_QUALIFY (R40, R46): QUAL windows of 100 µs at the least have passed; 0x0102 after a loss; with AUTORET set it
ends a holdover. -/
def execReferenceQualify (ref : Fin 3) (s : State) : Host.Outcome State Fault Refusal :=
  let r := ref.val
  let x := s.time.ref r
  if x.qualified || (decide (r = 2) && !s.pinInput (s.fld TIME_REFSEL_CH10M 0)) then .next s
  else
    let s := s.reachTick (x.since + s.qualWindows * (100 * usTicks))
    let t := s.time.setRef r { x with qualified := true, lostBefore := false }
    let s := (s.setTime (if r = 0 then { t with freerun := false, xtalOk := true } else t)).showRefs
    let s := if x.lostBefore then s.raise 0x0102 timeSrc [r] else s
    .next (if s.time.holdover then s.autoReturn else s.revertCheck)

/-- REFERENCE_LOSS (R40, R41, R45, R47). -/
def execReferenceLoss (ref : Fin 3) (s : State) : Host.Outcome State Fault Refusal :=
  let r := ref.val
  let x := s.time.ref r
  if r = 0 ∧ x.qualified = false ∧ s.time.xtalOk = false then .next (s.raise 0x0106 timeSrc [s.xtalDetail])
  else if !x.qualified && !(decide (r = 0)) then .next s
  else
    let wasActive := decide (s.loopRef s.time.active = r)
    let (x, avg, s) := if wasActive then s.freqMean else (0, 0, s)
    let t := s.time.setRef r { qualified := false, lostBefore := true, since := s.tickNo }
    let s := (s.setTime (if r = 0 then { t with xtalOk := false } else t)).showRefs
    let s := s.raise 0x0101 timeSrc [r, s.followers r]
    let open_ := decide (r = 0) && (s.time.holdover || (wasActive && !s.stbyReady))
    let s := if wasActive then s.activeRefLost x avg else s
    let s := if open_ then
        let s := s.setTime { s.time with freerun := true, holdover := true, holdRec := true }
        s.raise 0x0106 timeSrc [s.xtalDetail]
      else s
    .next s.autoReturn

/-- SWITCHOVER (R42, R43): at the next tick boundary the loops swap roles; 0x0103. -/
def execSwitchover (phasePs : Word) (s : State) : Host.Outcome State Fault Refusal :=
  if !s.time.switchPending then .next s
  else
    let s := (s.passTicks 1).freqPull
    let old := s.time.active
    let new := s.standby
    let t := (s.time.setLoop old { s.time.loop old with locked := false, shadow := false, frozen := false }).setLoop new
      { s.time.loop new with locked := false, shadow := false, frozen := false }
    .next ((s.setTime { t with active := new, switchPending := false }).raise 0x0103 timeSrc [new, phasePs.toNat])

/-- SHADOW_LOCK (R42, R44): the standby reaches shadow lock, its reference being qualified. The band it found by calibration is
a free value. -/
def execShadowLock (s : State) : Host.Outcome State Fault Refusal :=
  let l := s.standby
  if (s.time.ref (s.loopRef l)).qualified then
    let (f, s) := s.freeNat
    let stored := if l = 0 then s.fld TIME_TPLL_0_BAND 0 else s.fld TIME_TPLL_1_BAND 0
    let s := s.bandLocked l (if (s.time.loop l).searching then f % 64 else stored)
    .next (s.setLoop l { s.time.loop l with shadow := true, searching := false }).revertCheck
  else .next s

/-- SLEW_DONE (R49): the remainder reaches 0 at the instant SLEWPPM gives. -/
def execSlewDone (s : State) : Host.Outcome State Fault Refusal :=
  if s.time.slewRem = 0 ∨ s.time.counting = false then .next s
  else
    let t := slewAfter s.time s.slewPpmNow 1
    let need := t.slewRem.natAbs * 1000000 - t.slewAcc
    .next (s.passTicks (1 + (need + 32 * s.slewPpm - 1) / (32 * s.slewPpm)))

/-- The PPS error of an edge at `t`, folded into (−2·10¹⁰, 2·10¹⁰] steps (R53). -/
def ppsError (t : Stamp) (off : Nat) : Int :=
  let e : Int := ((t.toNat : Int) - 32 * off) % 40000000000
  if e ≤ 20000000000 then e else e - 40000000000

/-- PPS_MISSING (R53, R54): no PPS edge for 1.5 s, counted from the last edge or from the setting of EN. DESIGN CHOICE (log entry
101): the 0x0108 record carries the error of the last edge. -/
def execPpsMissing (s : State) : Host.Outcome State Fault Refusal :=
  if s.actBit TIME_PPSCFG_EN 0 && !s.constOwn then
    let s := s.reachTick (s.time.ppsTick + 1875000000)
    .next ((s.setTime { s.time with ppsTick := s.tickNo }).raise 0x0108 timeSrc (two (BitVec.ofInt 64 s.time.ppsErr)))
  else .next s

/-- NOW_LO (R37): the read snapshots the whole counter. -/
def execNowLo (_q : Fin 33) (s : State) : Host.Outcome State Fault Refusal :=
  .next (s.setTime { s.time with snap := s.now })

end Sys2Proof.Machine
end

