-- ==== Sys2Proof/Machine/Position.lean ====
section
/-! DEFINITION. What a tracker's position reads: R6, R74, R75, R83, R96. Positions are raw 48.16 values. -/

namespace Sys2Proof.Machine

open Sys2Proof.F

/-- Truncate towards zero (R78). -/
def truncRat (x : Rat) : Int := if 0 ≤ x then x.floor else -((-x).floor)

/-- Steps from `t0` to the stop that a model predicts; none if it does not stop (R86, R96). -/
def stopAfter (v a : Rat) : Option Rat :=
  if v = 0 then some 0 else if 0 < v * a ∨ a = 0 then none else some (-v / a)

/-- Displacement, in counts, of a model after `tau` steps; it never reverses (R96). -/
def coastBy (v a tau : Rat) : Rat :=
  let tau := match stopAfter v a with
    | some z => min tau z
    | none => tau
  v * tau + a * tau * tau / 2

/-- The tracker is in fraction coast (R75). -/
def State.fracCoast (s : State) (n : Nat) : Bool :=
  !s.bit MPLL_CTRL_EN n || decide (s.fld MPLL_CTRL_REFSRC n ≠ 0) || !s.bit MPLL_STATUS_LOCKED n

/-- Largest fraction of R74. -/
def fracCeil (m : Nat) : Nat := 65536 * (m - 1) / m

/-- A tracker in COAST or OVERLIMIT, apart from a coast by an envelope breach, whose integer part still follows the edges
(R94, R96). -/
def Tracker.extrapolates (x : Tracker) : Bool :=
  (decide (x.st = .coast) || decide (x.st = .overlimit)) && !x.breachCoast

/-- The tracker has a velocity estimate (R80): not in an ACQ without a model. -/
def Tracker.estimated (x : Tracker) : Bool := !decide (x.st = .acq) || x.model

/-- What the position of a tracker reads from its last count edge or jump on (R74, R75, R83, R96). -/
def State.posBase (s : State) (n : Nat) : PosBase :=
  let x := s.mt n
  { base := x.base
    pos := x.pos
    mode := if x.st = .off ∨ x.jumped = true then 0 else if x.extrapolates then 2 else if x.hist.isEmpty then 0 else 1
    rev := x.dirRev
    estimated := x.estimated
    v := x.v
    a := x.a
    mBase := x.mBase
    mPos := x.mPos
    frac := s.fracCoast n
    div := s.fld MPLL_DIV_N n }

/-- What tracker `n` reads is about to change at instant `t`: what it has read up to then is kept for 300 ticks. -/
def State.notePos (s : State) (n : Nat) (t : Stamp) : State :=
  let x := s.mt n
  if x.st = .off then s
  else s.setMt n { x with
    past := x.past.filter (fun c => decide (stampDiff s.now c.1 < 9600)) ++ [(t, s.posBase n)] }

/-- A position at an instant, with the MPLL cycles since the count edge before it (R74, R75, R96). In fraction coast without an
estimate the fraction is any (log entry 106). -/
def PosBase.at (b : PosBase) (t : Stamp) (cycles : Nat) : Int :=
  if b.mode = 0 then b.pos
  else if b.mode = 2 then truncRat (65536 * (b.mPos + coastBy b.v b.a (stampDiff t b.mBase)))
  else
    let f := if b.frac && b.estimated then ((65536 * |b.v| * (stampDiff t b.base : Rat)).floor).toNat
      else cycles * 65536 / b.div
    let f : Nat := min f (fracCeil b.div)
    if b.rev then b.pos - f else b.pos + f

/-- Position of tracker `n` at an instant of the last ticks: what it read then. -/
def State.posWith (s : State) (n : Nat) (t : Stamp) (cycles : Nat) : Int :=
  match (s.mt n).past.find? (fun c => decide (stampDiff t c.1 < 0)) with
  | some c => c.2.at t cycles
  | none => (s.posBase n).at t cycles

/-- Position of tracker `n` at a tick boundary `age` ticks ago. The MPLL cycles are a free value. -/
def State.posAgo (s : State) (n age : Nat) : Int × State :=
  let (c, s) := s.freeNat
  (s.posWith n (s.now - ticks age) c, s)

/-- Position of tracker `n` now (R74). -/
def State.posNow (s : State) (n : Nat) : Int × State := s.posAgo n 0

/-- Records and reads taken from the tracker carry COAST (R75, R96). -/
def State.mtCoasts (s : State) (n : Nat) : Bool :=
  let x := s.mt n
  decide (x.st ≠ .off) && (s.fracCoast n || decide (x.st = .coast) || decide (x.st = .overlimit) ||
    (decide (x.st = .acq) && x.model))

end Sys2Proof.Machine
end

