-- ==== Sys2Proof/Machine/Space.lean ====
section
/-! DEFINITION. Data space (R16 to R19): what an address names, and one write of at most 16 bytes within one 16-byte
word. A refused access raises one record. -/

namespace Sys2Proof.Machine

open Sys2Proof.F

/-- Who reaches data space from outside the Caldera's own agents: a sequencer's LDC or STC, a BAR access, the control port's own
access (READ_MEM, WRITE_MEM), a command of a session on a path (R541: 0 control port, 1 PCIe, 2 remote session), or a DMA engine.
-/
inductive Master where
  | seq (q : Nat)
  | bar
  | port
  | command (path : Nat)
  | dma (d : Nat)
  deriving DecidableEq, Repr

/-- The agent code of a master (R541); SUP acts on a command of a host, but a READ_MEM or WRITE_MEM of the control port is its own
access, as a BAR access is PCIe's (log entry 148). -/
def Master.agent : Master → Nat
  | .seq q => Machine.agent 5 q
  | .bar => Machine.agent 9 1
  | .port => Machine.agent 9 2
  | .command _ => Machine.agent 5 32
  | .dma d => Machine.agent 8 d

/-- What a data-space address names (R16). -/
inductive Place where
  | caldera (a : Nat)
  | seqI (q off : Nat)
  | seqD (q off : Nat)
  | seI (e off : Nat)
  | seD (e off : Nat)
  | pocket (k off : Nat)
  | none
  deriving DecidableEq, Repr

/-- R16. -/
def placeOf (a : Nat) : Place :=
  if a < calderaSize then .caldera a
  else if 0x10000000 ≤ a ∧ a < 0x10420000 then
    let q := (a - 0x10000000) / 0x20000
    let o := (a - 0x10000000) % 0x20000
    if o < 0x10000 then .seqI q o else .seqD q (o - 0x10000)
  else if 0x10800000 ≤ a ∧ a < 0x10A00000 then
    let e := (a - 0x10800000) / 0x20000
    let o := (a - 0x10800000) % 0x20000
    if o < 0x8000 then .seI e o else if o < 0x10000 then .none else .seD e (o - 0x10000)
  else if 0x10C00000 ≤ a ∧ a < 0x10D00000 then .pocket ((a - 0x10C00000) / 0x4000) ((a - 0x10C00000) % 0x4000)
  else .none

/-- The record of an access to an address that names nothing (R19). -/
def State.reservedSpace (s : State) (m : Master) (a : Nat) : State :=
  match m with
  | .seq q => s.raise 0x0709 (seqSrc q) [q, a]
  | .bar => s.raise 0x0B02 (srcOf 16 0) [1, a]
  | .port => s.raise 0x0B02 (srcOf 16 0) [0, a]
  | .command p => s.raise 0x0B02 (srcOf 16 0) [p, a]
  | .dma d => s.raise 0x0B02 (srcOf 18 d) [4 + d, a]

/-- An access to data space can be made now: the Caldera answers once it is clear (R325, R483). -/
def State.spaceOpen (s : State) (a : Nat) : Bool :=
  match placeOf a with
  | .caldera a => s.wordOpen a
  | _ => true

/-- An access of `n` bytes from `a` on goes on now: each 32 KiB run of the Caldera belongs to one group (R340). -/
def State.pieceOpen (s : State) (a n : Nat) : Bool :=
  s.spaceOpen a && s.spaceOpen (a + n - 1) && (List.range (n / 32768)).all (fun i => s.spaceOpen (a + 32768 * (i + 1)))

/-- The pocket-RAM view of a zone is usable (R17). -/
def State.pocketOpen (s : State) (k : Nat) : Bool :=
  (!(s.zone k).valid || decide (s.fld ZONE_STATUS_STATE k = 2)) && decide (s.fld ZONE_STATUS_STATE k ≠ 3)

/-- Write one byte of a pocket RAM's slot (R17): bits [63:36] are ignored. -/
def pocketPut (m : Store Nat) (o : Nat) (b : Byte) : Store Nat :=
  let i := o % 8
  let old := storeGet 0 m (o / 8)
  storeSet 0 m (o / 8) ((old - bitsOf old (8 * i) 8 * 2 ^ (8 * i) + b.toNat * 2 ^ (8 * i)) % 2 ^ 36)

def pocketWrite (m : Store Nat) (o : Nat) : List Byte → Store Nat
  | [] => m
  | b :: t => pocketWrite (pocketPut m o b) (o + 1) t

/-- Write at most 16 bytes within one 16-byte word (R17 to R19). -/
def State.spaceWrite (s : State) (m : Master) (a : Nat) (bs : List Byte) : State :=
  match placeOf a with
  | .caldera a => s.calderaWrite m.agent a bs
  | .seqI q o =>
    if q < 32 ∧ ((s.seq q).st = .halted ∨ (s.seq q).st = .faulted) then
      s.mapSeq q (fun x => { x with imem := writeBytes x.imem o bs })
    else s.raise 0x070A (seqSrc q) [q, m.agent]
  | .seqD q o => s.mapSeq q (fun x => { x with dmem := writeBytes x.dmem o bs })
  | .seI e o =>
    if s.fld SE_STATUS_STATE e = 1 ∨ s.fld SE_STATUS_STATE e = 2 then s.raise 0x0809 (srcOf 9 e) [e, m.agent]
    else s.setEngine e { s.engine e with imem := writeBytes (s.engine e).imem o bs }
  | .seD e o => s.setEngine e { s.engine e with dmem := writeBytes (s.engine e).dmem o bs }
  | .pocket k o =>
    if s.pocketOpen k then s.mapZone k (fun z => { z with pocket := pocketWrite z.pocket o bs })
    else s.raise 0x0404 (srcOf 10 k) [k, m.agent, a]
  | .none => s.reservedSpace m a

/-- A write to data space within one word, with port A's write of the same Caldera word in the same bank cycle (R326). -/
def State.spaceWriteClash (s : State) (m : Master) (a : Nat) (bs : List Byte) (c : Clash) : State :=
  match placeOf a with
  | .caldera a => s.calderaWriteClash m.agent a bs c
  | _ => s.spaceWrite m a bs

end Sys2Proof.Machine
end

