-- ==== Sys2Proof/Machine/Pins.lean ====
section
/-! DEFINITION. Pins: what a pin shows at each tick, its function switches, its history and what its input functions see
(R36, R145 to R160, R168 to R173). `tickNo` of the state is the tick asked about. -/

namespace Sys2Proof.Machine

open Sys2Proof.F

/-- The edge zone of a port (R257). -/
def edgeZone (p : Nat) : Nat :=
  if p < 8 then p else if p < 16 then 8 * (p - 8) + 7 else if p < 24 then 79 - p else 8 * (31 - p)

/-- The VIO of a port is in a class (R146). -/
def State.vioOk (s : State) (p : Nat) : Bool :=
  decide (1 ≤ s.fld PORT_STATUS_VIOCODE p) && decide (s.fld PORT_STATUS_VIOCODE p ≤ 5)

/-- The pins of a port are set free: its ready bit is set and no start-up image stands rejected (R147, R292). -/
def State.pinsFree (s : State) (p : Nat) : Bool := bitOf (s.fld SUP_PREADY_MAP 0) p && !s.cfgerr

/-- The pin of a channel receives (R121, R146, R147, R151, R154, R155): its buffer is on, it is no pin in analogue mode and no odd
pin of a pair. -/
def State.bufferOn (s : State) (p i : Nat) : Bool :=
  s.pinsFree p && s.pinInput (32 * p + i)

/-! ### Output functions (R148, R149, R154, R155, R168) -/

/-- Level and driver state of a sill as its pin shows them: a placement takes effect with its deskew (R106, R135). -/
def State.sillShows (s : State) (n : Nat) : Bool × Bool :=
  match (s.sill n).shown.find? (fun h => decide (s.tickNo < h.1)) with
  | some h => h.2
  | none => ((s.sill n).level, (s.sill n).driver)

/-- The level of a chassis line as the part receives it, where the part itself sets it, through a sill that runs with its driver
on (R141, R475): open-drain, level 0 pulls low and level 1 releases. In the safe state no trigger line is driven, and CSILL_11
drives level 0 (R499). -/
def State.chassisLevel (s : State) (k : Nat) : Option Bool :=
  let v := s.sillShows (1024 + k)
  if s.bit SUP_SAFE_ACTIVE 0 then (if k = 11 then some false else none)
  else if !v.2 || (8 ≤ k && k ≤ 10) || !s.actBit SILL_CTRL_EN (1024 + k) then none
  else if s.bit SILL_CTRL_OD (1024 + k) && v.1 then none
  else some v.1

/-- The guarded output of an MPLL is on (R64 to R66): it runs, or EN has cleared and its next falling edge has not come. -/
def State.guardedOn (s : State) (m : Nat) : Bool :=
  (s.actBit MPLL_CTRL_EN m || decide (s.tickNo < (s.mpll m).lowAt)) && s.actBit MPLL_CTRL_GOUT m &&
    decide (s.act MPLL_GUARD_TGUARD m ≠ 0)

/-- The level of a guarded output (R64 to R66): low while it is gated, stopped or TGUARD is 0; else a running clock, whose level
is the outside's. -/
def State.guardedLevel (s : State) (m : Nat) : Option Bool := if s.guardedOn m then none else some false

/-- What a zone's personality gave a pin at a tick (R148, R257). -/
def Zone.pinAt (z : Zone) (c t : Nat) : Option (Bool × Bool) :=
  ((storeGet [] z.pins c).find? (fun h => decide (h.1 ≤ t))).map (·.2)

/-- Level and enable that the personality of a port's edge zone gives a pin now: by a reflex path (R139), or by a stage of the zone
(R257, R258); none where neither is known. -/
def State.fabGives (s : State) (p i : Nat) : Option (Bool × Bool) :=
  let x := s.port p
  if bitOf x.fabKnown i then some (bitOf x.fabOut i, true) else (s.zone (edgeZone p)).pinAt (32 * p + i) s.tickNo

/-- What the personality of a port's edge zone gives an FFAB pin (R148, R173, R300): what it gave before a swap or reset holds until
the hold tick is over. -/
def State.fabricDrive (s : State) (p i : Nat) : PinDrive :=
  let now := (s.fabGives p i, decide (s.fld ZONE_STATUS_STATE (edgeZone p) = 1))
  let (gives, ran) := match (s.port p).fabHold with
    | some h => if s.tickNo ≤ h.boundary then
        (if bitOf h.known i then some (bitOf h.out i, bitOf h.en i) else none, h.ran)
      else now
    | none => now
  if !ran then {}
  else
    match gives with
    | some (l, e) => { level := some l, enable := some e }
    | none => { level := none, enable := none }

/-- The output functions mapped at a pin (R148). -/
def State.pinSources (s : State) (p i : Nat) : List PinDrive :=
  let fn := s.fldI PORT_PIN_FUNC p i
  let m := s.fldI PORT_PIN_MSEL p i
  let c := s.fldI PORT_PIN_CSEL p i
  let v := s.sillShows (32 * p + i)
  (if bitOf fn 4 then
    [{ level := some (bitOf (s.act PORT_OUT_LEVEL p) i), enable := some (bitOf (s.act PORT_OE_OE p) i) }] else []) ++
  (if bitOf fn 3 then [{ level := some v.1, enable := some v.2 }] else []) ++
  (if bitOf fn 2 then [s.fabricDrive p i] else []) ++
  (if bitOf fn 1 then
    [{ level := s.guardedLevel m, enable := some (s.actBit MPLL_CTRL_EN m && s.actBit MPLL_CTRL_GOUT m) }] else []) ++
  (if bitOf fn 0 then [{ level := s.chassisLevel c, enable := some (decide (c ≤ 11)) }] else [])

/-- OR of values that may be open. -/
def orOpen (a b : Option Bool) : Option Bool :=
  match a, b with
  | some true, _ => some true
  | _, some true => some true
  | some false, some false => some false
  | _, _ => none

/-- AND of values that may be open. -/
def andOpen (a b : Option Bool) : Option Bool := (orOpen (a.map (!·)) (b.map (!·))).map (!·)

/-- The OR rule (R149): a function whose enable is 0 presents level 0. -/
def orRule (l : List PinDrive) : PinDrive where
  level := l.foldr (fun d v => orOpen (andOpen d.level d.enable) v) (some false)
  enable := l.foldr (fun d v => orOpen d.enable v) (some false)

/-- A pin is under safe override. -/
def State.overridden (s : State) (p i : Nat) : Bool := bitOf (s.fld PORT_SAFEACT_MASK p) i

/-- What a pin under safe override drives (R168). -/
def State.safeDrive (s : State) (p i : Nat) : PinDrive :=
  match s.actI PORT_PIN_SAFE p i with
  | 0 => { level := some false, enable := some true }
  | 1 => { level := some true, enable := some true }
  | 2 => {}
  | _ => storeGet {} (s.port p).safeHeld i

/-- What a pin drives outside a switch, with or without safe override. -/
def State.pinNormal (s : State) (p i : Nat) (safe : Bool) : PinDrive :=
  if safe then s.safeDrive p i
  else if s.paired p i then
    let e := orRule (s.pinSources p (i / 2 * 2))
    if i % 2 = 0 then e else { e with level := andOpen (e.level.map (!·)) e.enable }
  else if s.fldI PORT_PIN_ANA p i = 1 then {}
  else orRule (s.pinSources p i)

/-- What pin `i` drives (R146, R147, R157): in a switch the old functions before its boundary, the hold latch at it, the new
functions after it. -/
def State.pinView (s : State) (p i : Nat) : PinDrive :=
  if !s.vioOk p || !s.pinsFree p then {}
  else
    let safe := s.overridden p i
    match storeGet none (s.port p).switches i with
    | none => s.pinNormal p i safe
    | some w =>
      if s.tickNo < w.boundary then w.before.getD (s.pinNormal p i (safe != w.safe))
      else if s.tickNo = w.boundary then w.latch.getD (s.pinNormal p i (safe != w.safe))
      else s.pinNormal p i safe

/-! ### What the inputs see (R36, R149, R151, R152) -/

/-- Bits of the pins of a port that satisfy a test. -/
def pinMask (f : Nat → Bool) : Nat := (List.range 32).foldl (fun m i => if f i then m + 2 ^ i else m) 0

/-- What sets the level at a pin that its own device does not drive (R149, R152, R154, R155): 0 nothing, 1 pull up, 2 pull down, 3
keeper. -/
def State.pullOf (s : State) (p i : Nat) : Nat :=
  if s.paired p i || decide (s.fldI PORT_PIN_ANA p i = 1) then 0 else s.actI PORT_PIN_PULL p i

/-- How the inputs of a port stand at this tick; `before` is the tick they are noted to stand before. -/
def State.pinShot (s : State) (p before : Nat) : PinShot :=
  let view (i : Nat) : PinDrive := s.pinView p (if s.paired p i then i / 2 * 2 else i)
  let pull (i k : Nat) : Bool := decide ((view i).enable = some false) && decide (s.pullOf p i = k)
  let kept := (s.port p).kept
  let holds (i : Nat) : Bool := pull i 3 && bitOf (s.port p).keptKnown i
  let drv (i : Nat) : Bool := decide ((view i).enable = some true) && (view i).level.isSome
  { tick := before
    since := (s.port p).stirred
    zero := pinMask (fun i => !s.bufferOn p i)
    drv := pinMask drv
    lvl := pinMask (fun i => if drv i then (view i).level.getD false else holds i && bitOf kept i)
    up := pinMask (fun i => pull i 1)
    down := pinMask (fun i => pull i 2)
    keep := pinMask holds }

/-- The level that the outside last drove at a ball, of the `n` ticks up to `t`. -/
def lastBall (c : Nat) : Nat → Nat → Option Bool
  | _, 0 => none
  | t, n + 1 =>
    match Config.ball c t with
    | some b => some b
    | none => lastBall c (t - 1) n

/-- The level that an input shows at tick `t`: the device's, else what the outside drives at the ball, else the pull's or the
keeper's, which holds the level that the outside drove last since the pin stands as it does or, before that, the level seen last
(R152), else any (R149; log entry 104). -/
def PinShot.level (h : PinShot) (p i t : Nat) : Bool :=
  if bitOf h.drv i then bitOf h.lvl i
  else
    match Config.ball (32 * p + i) t with
    | some b => b
    | none =>
      if bitOf h.up i then true
      else if bitOf h.down i then false
      else if bitOf h.keep i then (lastBall (32 * p + i) t (t + 1 - h.since)).getD (bitOf h.lvl i)
      else Config.floating (32 * p + i) t

/-- What PORT.IN reads of a pin (R151). -/
def PinShot.reads (h : PinShot) (p i t : Nat) : Bool := !bitOf h.zero i && h.level p i t

/-- The state as at tick `t`. -/
def State.atTick (s : State) (t : Nat) : State := { s with tickNo := t }

/-- How the inputs of a port stood at tick `t`, of the last 24. -/
def State.shotAt (s : State) (p t : Nat) : PinShot :=
  match (s.port p).past.find? (fun h => decide (t < h.tick)) with
  | some h => h
  | none => (s.atTick t).pinShot p t

/-! ### Function switches (R157 to R160) -/

/-- The hold latches whose boundary is tick `d` take what their pins show (R157); a safe override keeps it (R168). -/
def State.fillLatches (s : State) (p d : Nat) : State :=
  (s.port p).switches.foldl (fun s c =>
    match c.2 with
    | none => s
    | some w =>
      if w.boundary = d ∧ w.latch = none then
        let v := (s.atTick d).pinView p c.1
        s.mapPort p (fun x => { x with
          switches := storeSet none x.switches c.1 (some { w with latch := some v })
          safeHeld := if w.safe && s.overridden p c.1 then storeSet {} x.safeHeld c.1 v else x.safeHeld })
      else s) s

/-- Note how the inputs of a port stood from tick `b` on and before tick `d` (R36), and the levels last seen at their pins (R152):
at those with a keeper, whoever set them, at the others where the device drove them. -/
def State.noteShot (s : State) (p b d : Nat) : State :=
  let h := { (s.atTick (d - 1)).pinShot p d with since := b }
  let known := Nat.lor h.drv (pinMask (fun i => decide (s.fldI PORT_PIN_PULL p i = 3)))
  let seen := pinMask (fun i => bitOf known i && h.level p i (d - 1))
  s.mapPort p (fun x => { x with
    past := x.past ++ [h]
    kept := Nat.lor (x.kept - Nat.land x.kept known) seen
    keptKnown := Nat.lor x.keptKnown known })

/-- Ticks at which the edge zone of a port gave one of its pins something else. -/
def State.fabTicks (s : State) (p : Nat) : List Nat :=
  ((s.zone (edgeZone p)).pins.filter (fun c => decide (c.1 / 32 = p))).flatMap (fun c => c.2.map (·.1))

/-- Something of the port is about to change, or is asked for: its past up to now is noted, tick by tick where it changed by
itself, within 3 ticks of the last change and where its edge zone gave its pins something else. -/
def State.notePast (s : State) (p : Nat) : State :=
  let w := (s.port p).stirred
  let n := s.tickNo
  let fab := (s.fabTicks p).foldl (fun l d => if w + 3 < d && decide (d < n) then storeSet 0 l d 1 else l) []
  let ds := [w + 1, w + 2, w + 3].filter (fun d => decide (d < n)) ++ storeKeys fab ++ (if w < n then [n] else [])
  let s := (ds.foldl (fun (a : Nat × State) d => (d, (a.2.fillLatches p (d - 1)).noteShot p a.1 d)) (w, s)).2
  (s.fillLatches p n).mapPort p (fun x => { x with
    stirred := n, past := x.past.filter (fun h => decide (n < h.tick + 24)) })

/-! ### Pin lock and register writes (R160, R170, R171) -/

def State.locked (s : State) (p i : Nat) : Bool := bitOf (s.fld PORT_LOCKED_MASK p) i

/-- The lowest pin of a port that satisfies a test. -/
def lowestPin (f : Nat → Bool) : Option Nat := (List.range 32).find? f

/-- The pins of a pair. -/
def State.lockedOf (s : State) (p k : Nat) : Option Nat :=
  if s.locked p (2 * k) then some (2 * k) else if s.locked p (2 * k + 1) then some (2 * k + 1) else none

/-- The frozen bits of a port register, each with the pin that freezes it (R171). -/
def State.portFrozen (s : State) (p off : Nat) : List (Nat × Nat) :=
  if 0x100 ≤ off ∧ off < 0x180 then
    let i := (off - 0x100) / 4
    if s.locked p i then (List.range 32).map (fun b => (b, i)) else []
  else if off = 0x20 then
    (List.range 32).filterMap (fun b => (s.lockedOf p (b % 16)).map (fun i => (b, i)))
  else if off = 0x1C then
    let sel (c : Nat) := lowestPin (fun i => s.locked p i && decide (s.fldI PORT_PIN_THSEL p i = c))
    (List.range 16).filterMap (fun b => (sel (b / 8 + 1)).map (fun i => (b, i)))
  else []

/-- The bits of a register's fields. -/
def fieldMask (b : Blk) (off : Nat) : Nat :=
  (fieldsAt b off).foldl (fun m fi => m + (2 ^ fi.1.width - 1) * 2 ^ fi.1.lo) 0

/-- What a register holds as a write would find it: staging copies of A fields, active values of the others. -/
def State.heldWord (s : State) (b : Blk) (n off : Nat) : Nat :=
  (fieldsAt b off).foldl (fun v fi =>
    v + 2 ^ fi.1.lo * (if fi.1.cls = .a then s.stagedI fi.1 n fi.2 else s.fldI fi.1 n fi.2)) 0

/-- Write a port register by class, frozen bits apart (R171); the record names a pin whose frozen bit the write would change. -/
def State.portClassWrite (s : State) (who p off v : Nat) : State :=
  let frozen := (s.portFrozen p off).filter (fun c => bitOf (fieldMask .port off) c.1)
  let old := s.heldWord .port p off
  let hit := frozen.filter (fun c => bitOf old c.1 != bitOf v c.1)
  let v' := hit.foldl (fun v c => if bitOf old c.1 then withBit v c.1 else withoutBit v c.1) v
  let s := s.classWrite who .port p off v' (fun _ _ => false)
  match hit with
  | [] => s
  | c :: _ => s.raise 0x030C (srcOf 5 p) [p, c.2, cfgBase .port p + off]

/-- The A fields of a pin that PFUNC stages (R234). -/
def pfuncFields : List Fld := [PORT_PIN_ANA, PORT_PIN_INEN, PORT_PIN_FUNC, PORT_PIN_MSEL, PORT_PIN_CSEL]

/-- Stage the A fields of a pin, from their places in a word (R171, R234). -/
def State.pfuncWrite (s : State) (p i v : Nat) : State :=
  if s.locked p i then s.raise 0x030C (srcOf 5 p) [p, i, cfgBase .port p + 0x100 + 4 * i]
  else
    let run := s.running .port p
    pfuncFields.foldl (fun s f => (s.writeField run p i f (bitsOf v f.lo f.width)).1) s

/-- A write of a pin's register takes effect: a CFGW of a master, or a PFUNC. -/
def State.pinWrite (s : State) (p i : Nat) (c : Option Nat × Nat) : State :=
  match c.1 with
  | some who => s.portClassWrite who p (0x100 + 4 * i) c.2
  | none => s.pfuncWrite p i c.2

/-- The hold tick of a switch is over (R157): the writes held for the pin apply (R160), and a switch edge of a pin whose sill comes
or goes counts as a level change of the sill (R159). -/
def State.finishSwitch (s : State) (p i : Nat) (w : PinSwitch) : State :=
  let s := s.mapPort p (fun x => { x with
    switches := storeSet none x.switches i (some { w with driving := true, writes := [] }) })
  let new := ((s.atTick (w.boundary + 1)).pinView p i).level
  let n := 32 * p + i
  let s := if w.sill && decide (new ≠ (w.latch.getD {}).level) then
      s.mapSill n (fun x => { x with lastChange := some (32 * (w.boundary + 1) : Nat) })
    else s
  let now := s.tickNo
  (w.writes.foldl (fun s c => s.pinWrite p i c) (s.atTick w.boundary)).atTick now

/-- Bring a port up to the present tick: its past is noted, and switches whose hold tick is over are finished; one whose input
window (R158) is over too is forgotten. -/
def State.portSettle (s : State) (p : Nat) : State :=
  let s := s.notePast p
  (s.port p).switches.foldl (fun s c =>
    match c.2 with
    | none => s
    | some w =>
      let s := if !w.driving && decide (w.boundary < s.tickNo) then s.finishSwitch p c.1 w else s
      if w.boundary + 2 ≤ s.tickNo then s.mapPort p (fun x => { x with switches := storeErase x.switches c.1 }) else s) s

/-- The level at a channel's pin now, where its buffer is on (R70). -/
def State.pinLevel (s : State) (ch : Nat) : Bool :=
  ((s.portSettle (ch / 32)).shotAt (ch / 32) s.tickNo).reads (ch / 32) (ch % 32) s.tickNo

/-- PORT.IN (R36, R151): the levels that the input buffers saw at the last edge of the register clock 16 ticks ago or more. -/
def State.portIn (s : State) (p : Nat) : Nat × State :=
  let s := s.portSettle p
  let m := s.tickNo - 16
  let e := m - (m + 8 - s.time.phase % 8) % 8
  let h := s.shotAt p e
  (pinMask (fun i => h.reads p i e), s)

/-- Settle every port with a pin that satisfies a test of FUNC, MSEL and CSEL. -/
def State.settleWhere (s : State) (f : Nat → Nat → Bool) : State :=
  ((List.range 32).filter (fun p => (List.range 32).any (fun i => f p i))).foldl (fun s p => s.portSettle p) s

/-- The guarded output of an MPLL is about to change at the pins that map it. -/
def State.guardedStir (s : State) (m : Nat) : State :=
  s.settleWhere (fun p i => bitOf (s.fldI PORT_PIN_FUNC p i) 1 && decide (s.fldI PORT_PIN_MSEL p i = m))

/-- A function switch of pin `i` with boundary tick `b` (R157); `old` is what the pin shows now. A switch under way at the pin goes
over into it, with the writes it holds. -/
def State.startSwitch (s : State) (p i b : Nat) (old : PinDrive) (sill safe : Bool) : State :=
  let put (w : PinSwitch) : State := s.mapPort p (fun x => { x with switches := storeSet none x.switches i (some w) })
  let latch (b : Nat) : Option PinDrive := if b ≤ s.tickNo then some old else none
  match storeGet none (s.port p).switches i with
  | some w =>
    if w.driving then put { boundary := b, shut := w.shut, holds := b, latch := latch b, sill := sill, safe := safe }
    else
      let b := max b w.boundary
      put { w with
        boundary := b, before := some old, latch := latch b, sill := w.sill || sill
        safe := if w.boundary < b then safe else w.safe != safe }
  | none => put { boundary := b, latch := latch b, sill := sill, safe := safe }

/-- Pin `i` is in the hold tick of a switch, where writes to its register are held (R160). -/
def State.pinHolds (s : State) (p i : Nat) : Bool :=
  match storeGet none (s.port p).switches i with
  | some w => !w.driving && decide (w.holds ≤ s.tickNo)
  | none => false

/-- Hold a write for a pin in a switch. -/
def State.holdWrite (s : State) (p i : Nat) (c : Option Nat × Nat) : State :=
  match storeGet none (s.port p).switches i with
  | some w => s.mapPort p (fun x => { x with
      switches := storeSet none x.switches i (some { w with writes := w.writes ++ [c] }) })
  | none => s

/-- A write of a pin's register lands (R160). -/
def State.pinPut (s : State) (p i : Nat) (c : Option Nat × Nat) : State :=
  let s := s.portSettle p
  if s.pinHolds p i then s.holdWrite p i c else s.pinWrite p i c

/-! ### Safe overrides (R168, R169) -/

/-- The views of the 32 pins of a port. -/
def State.portViews (s : State) (p : Nat) : List PinDrive := (List.range 32).map (fun i => s.pinView p i)

/-- The safe override of the pins of a mask is applied or ended (R168, R169): a switch at the next tick boundary. -/
def State.safeTo (s : State) (p mask : Nat) (on : Bool) : State :=
  let s := s.portSettle p
  let views := s.portViews p
  (List.range 32).foldl (fun s i =>
    if bitOf mask i && (s.overridden p i != on) then
      let m := s.fld PORT_SAFEACT_MASK p
      (s.setFld PORT_SAFEACT_MASK p (if on then withBit m i else withoutBit m i)).startSwitch p i (s.tickNo + 1)
        (views.getD i {}) false true
    else s) s

def State.safeSet (s : State) (p mask : Nat) : State := s.safeTo p mask true
def State.safeClr (s : State) (p mask : Nat) : State := s.safeTo p mask false

/-! ### A sill's pin -/

/-- Note what a change of sill `n`'s level or driver, from those of `old`, makes of its pin: the pin shows the old ones until the
change stands there (R135), and a level change is kept for R114; the last one before stood at `prior`. -/
def State.noteChange (s : State) (n : Nat) (old : Sill) (real : Int) (prior : Option Int) : State :=
  s.mapSill n (fun x => { x with
    lastChange := if x.level ≠ old.level then some real else prior
    shown := if x.level = old.level ∧ x.driver = old.driver then x.shown
      else x.shown.filter (fun h => decide (s.tickNo < h.1)) ++ [(((real + 31) / 32).toNat, old.level, old.driver)] })

/-- The pins that show sill `n`, and a switch under way there, are brought up to the present before its level changes. -/
def State.sillStir (s : State) (n : Nat) : State :=
  if 1024 ≤ n then
    s.settleWhere (fun p i => bitOf (s.fldI PORT_PIN_FUNC p i) 0 && decide (s.fldI PORT_PIN_CSEL p i = n - 1024))
  else if bitOf (s.fldI PORT_PIN_FUNC (n / 32) (n % 32)) 3 || !(s.port (n / 32)).switches.isEmpty then s.portSettle (n / 32)
  else s

/-! ### Input functions (R121, R141, R146, R154, R158) -/

/-- The input functions of a channel see an edge at tick `t` (R121, R146, R154, R158). -/
def State.captureSees (s : State) (n t : Nat) : Bool :=
  if 1024 ≤ n then true
  else
    let p := n / 32
    s.vioOk p && s.bufferOn p (n % 32) &&
      (match storeGet none (s.port p).switches (n % 32) with
      | some w => decide (t < w.shut) || decide (w.boundary + 2 ≤ t)
      | none => true)

/-- The tick that holds a real instant. -/
def tickOf (real : Int) : Nat := (real / 32).toNat

/-- A deskew field as signed steps; −32 acts as −31 (R135). -/
def deskew (x : Nat) : Int := max (-31) (signedOf 6 x)

/-! ### Lock sequences (R170) -/

/-- Staged changes of locked pins are discarded (R171). -/
def State.dropLockedStaging (s : State) (p : Nat) : State :=
  let s := [PORT_PIN_ANA, PORT_PIN_INEN, PORT_PIN_FUNC, PORT_PIN_MSEL, PORT_PIN_CSEL].foldl (fun s f =>
    (List.range 32).foldl (fun s i => if s.locked p i then s.setStagedI f p i (s.fldI f p i) else s) s) s
  let m := (List.range 16).foldl (fun m k =>
    if s.locked p (2 * k) || s.locked p (2 * k + 1) then m + 2 ^ k else m) 0
  [PORT_LVDS_TERM, PORT_LVDS_PAIR].foldl (fun s f =>
    s.setStagedI f p 0 (Nat.lor (Nat.land (s.fld f p) m) (s.stagedI f p 0 - Nat.land (s.stagedI f p 0) m))) s

/-- Drop the lock sequence of a master at a port. -/
def State.dropLock (s : State) (p master : Nat) : State :=
  s.setPort p { s.port p with locks := (s.port p).locks.filter (fun l => decide (l.master ≠ master)) }

def State.lockFail (s : State) (p master : Nat) : State := s.raise 0x030D (srcOf 5 p) [p, master]

/-- End a lock sequence whose 64 register clocks (512 ticks) are over (R170). -/
def State.expireLock (s : State) (p master : Nat) : State :=
  match (s.port p).locks.find? (fun l => decide (l.master = master)) with
  | some l => if l.start + 512 < s.tickNo then (s.dropLock p master).lockFail p master else s
  | none => s

/-- The first write of a lock sequence. -/
def State.lockBegin (s : State) (p master : Nat) : State :=
  s.setPort p { s.port p with
    locks := (s.port p).locks ++ [{ master := master, stage := 1, mask := 0, start := s.tickNo }] }

/-- The lock sequences see a write of a master to a port (R170). -/
def State.lockSees (s : State) (p master off v : Nat) : State :=
  let s := s.expireLock p master
  match (s.port p).locks.find? (fun l => decide (l.master = master)) with
  | none =>
    if off = 0x28 ∧ v = 0x7E570001 then s.lockBegin p master
    else if off = 0x28 ∨ off = 0x2C then s.lockFail p master else s
  | some l =>
    if l.stage = 1 ∧ off = 0x2C then
      (s.dropLock p master).setPort p { (s.dropLock p master).port p with
        locks := ((s.dropLock p master).port p).locks ++ [{ l with stage := 2, mask := v }] }
    else if l.stage = 2 ∧ off = 0x28 ∧ v = 0x7E570002 then
      let s := s.dropLock p master
      (s.setFld PORT_LOCKED_MASK p (Nat.lor (s.fld PORT_LOCKED_MASK p) l.mask)).dropLockedStaging p
    else
      let s := (s.dropLock p master).lockFail p master
      if off = 0x28 ∧ v = 0x7E570001 then s.lockBegin p master else s

end Sys2Proof.Machine
end

