-- ==== Sys2Proof/Machine/Supervise.lean ====
section
/-! DEFINITION. The safe state, fatal conditions and the request of a warm reset: R485, R486, R494, R495, R499. -/

namespace Sys2Proof.Machine

open Sys2Proof.F

/-- Enter the safe state (R499); `cause` as SUP.SAFE.CAUSE codes it. -/
def State.enterSafe (s : State) (cause : Nat) : State :=
  let s := (List.range 32).foldl (fun s p => s.safeSet p (2 ^ 32 - 1)) s
  let s := (List.range 12).foldl (fun s k =>
    let s := s.sillStir (1024 + k)
    let x := s.sill (1024 + k)
    (s.setSill (1024 + k) (if k = 11 then { x with level := false } else { x with driver := false })).noteChange (1024 + k) x
      (32 * (s.tickNo + 1) : Nat) x.lastChange) s
  let s := ((s.setBit SUP_SAFE_ACTIVE 0 true).setBit SUP_SAFE_FAULTN 0 true).setFld SUP_SAFE_CAUSE 0 cause
  (s.postNote 0xFF).raise 0x0C05 supSrc [cause]

/-- Request a warm reset (R485); it takes effect under R486. `cause` as SUP.RESET.CAUSE codes it. -/
def State.requestWarm (s : State) (cause : Nat) : State :=
  match s.warm with
  | some _ => s
  | none => { s with warm := some cause }

/-- What a fatal condition causes (R494): the safe state while SUP is handling, then the warm reset. -/
def State.fatal (s : State) (cause : Nat) : State :=
  (if s.bit SUP_ERRSTAT_HANDLING 0 then s.enterSafe 2 else s).requestWarm cause

end Sys2Proof.Machine
end

