-- ==== Sys2Proof/Machine/Posting.lean ====
section
/-! DEFINITION. The posting buffer (R187, R232): which of a sequencer's posted items a destination may accept now, and the items
that leave it on their own: STC, PFUNC, XLAUNCH, XSIG, OWN, SAFE and NOTE (R185, R213). -/

namespace Sys2Proof.Machine

open Sys2Proof.F

/-- The sill a TARGET names (R105): 0 to 1023, or 1024 + k for chassis sill k; none where it names no sill. -/
def sillOf (target : Half) : Option Nat :=
  let t := target.toNat
  if t / 1024 = 0 then some t else if t / 1024 = 1 ∧ t % 1024 < 12 then some t else none

/-- The lane source of a sequencer's, a gateway's, a link's, a stream's and a tracker's entries (R112, R232). -/
def laneSeq (q : Nat) : Nat := q
def laneGateway (z : Nat) : Nat := 64 + z
def laneLink (l : Nat) : Nat := 128 + l
def laneStream (r : Nat) : Nat := 1024 + r
def laneTracker (m : Nat) : Nat := 2048 + m

/-- The destination of an item for a block instance. -/
def blockDest (addr : Nat) : Nat :=
  2 ^ 32 + (match cfgDecode (addr % 2 ^ 31) with
    | some (b, n, _) => ownerKey b n
    | none => addr % 2 ^ 31)

/-- The destination of a write to data space (R187): a sequencer's memory counts as the sequencer (R197). -/
def spaceDest (addr : Nat) : Nat :=
  match placeOf addr with
  | .caldera _ => 0x40000
  | .seqI q _ => 0x30000 + q
  | .seqD q _ => 0x30000 + q
  | .seI e _ => 2 ^ 32 + cfgBase .se e
  | .seD e _ => 2 ^ 32 + cfgBase .se e
  | .pocket k _ => 2 ^ 32 + cfgBase .zone k
  | .none => 0x41000

/-- A sill's and a tracker's number as a destination. -/
def sillDest (t : Half) : Nat := 0x10000 + t.toNat
def trackerDest (m : Nat) : Nat := 0x20000 + m

/-- The destinations of a posted item, as numbers (R187); of a CANCEL, those it has not reached. -/
def Posted.dests : Posted → List Nat
  | .entry e => [sillDest e.target]
  | .amendTime t _ _ => [sillDest t]
  | .cancel t _ _ left => left.map (fun d => if d = 8 then sillDest t else trackerDest d)
  | .capt t _ => [sillDest t]
  | .posEntry m _ _ _ _ _ _ => [trackerDest m]
  | .amendPos m _ _ _ => [trackerDest m]
  | .signal t _ => [0x30000 + t]
  | .zswap _ _ _ => [0x31000]
  | .zload _ => [0x32000]
  | .srst m a => [if m = 3 then 0x33000 else blockDest a]
  | .portMask p _ _ => [2 ^ 32 + cfgBase .port p]
  | .cfgw a _ => [blockDest a]
  | .cfga a _ => [blockDest a]
  | .stc a _ _ => [spaceDest a]
  | .pfunc p _ _ _ => [2 ^ 32 + cfgBase .port p]
  | .remote dev _ => [0x50000 + dev]
  | .own a _ => [blockDest a]
  | .safe => [0x34000]
  | .note _ => [0x35000]

/-- A sill in whose lane a waiting entry of the sequencer already stands (R232). -/
def State.laneFull (s : State) (q : Nat) (target : Half) : Bool :=
  match sillOf target with
  | some i => (s.sill i).waiting.any (fun w => decide (w.1 = laneSeq q))
  | none => false

/-- An item that its destination cannot take (R232, R325): a second item for a sill in whose lane the sequencer's first one waits,
or an STC to the Caldera before it is ready. It and every later item stay. -/
def State.stuck (s : State) (q : Nat) (p : Posted) : Bool :=
  match p with
  | .entry e => s.laneFull q e.target
  | .amendTime t _ _ => s.laneFull q t
  | .capt t _ => s.laneFull q t
  | .cancel t _ _ left => left.contains 8 && s.laneFull q t
  | .stc a _ _ => !s.spaceOpen a
  | _ => false

/-- An item with destinations `ds` waits behind an earlier one: a stuck one, or one to the same destination. -/
def waitsBehind (stuck : Posted → Bool) (ds : List Nat) (before : List Posted) : Bool :=
  before.any (fun b => stuck b || b.dests.any (fun d => ds.contains d))

/-! ### Items that go by themselves -/

/-- The item leaves the buffer without a command of its own. -/
def Posted.selfGoing : Posted → Bool
  | .stc .. => true
  | .pfunc .. => true
  | .remote .. => true
  | .own .. => true
  | .safe => true
  | .note _ => true
  | _ => false

/-- The first item that can leave by itself, with what stands before it (newest first) and behind it. -/
def firstSelf (stuck : Posted → Bool) : List Posted → List Posted → Option (List Posted × Posted × List Posted)
  | _, [] => none
  | before, p :: t =>
    if p.selfGoing && !stuck p && !waitsBehind stuck p.dests before then some (before, p, t)
    else firstSelf stuck (p :: before) t

/-- A device of that number is in the tree, a link leads to it, and this device has reached P5 (R239). -/
def State.reachable (s : State) (dev : Nat) : Bool :=
  bitOf (s.fld CONST_STATUS_PHASE 0) 5 && s.const.tree.any (fun d => decide (d.num = dev)) && (s.linkTo dev).isSome

/-- OWN on the ownership table (R245): sequencer `g` becomes the owner of the instance at `addr`; values above 32 name
SUP. A FLASH instance that is handed over so carries no recorded privileges (R469). -/
def State.own (s : State) (addr g : Nat) : State :=
  match cfgDecode (addr % 2 ^ 31) with
  | none => s.raise 0x0708 supSrc [32, addr]
  | some (b, n, _) =>
    let s : State := { s with owners := storeSet 32 s.owners (ownerKey b n) (min g 32) }
    if b = .flash then s.mapFlash (fun f => { f with privs := 0 }) else s

/-- An item leaves by itself: an STC writes (R221), a PFUNC stages (R234), as a write of the pin's register that a lock sequence
sees (R170), a remote item leaves the link port or is discarded (R239), an OWN hands the instance over (R245), a SAFE enters the
safe state and a NOTE posts its note (R248). -/
def State.selfGo (s : State) (q : Nat) (p : Posted) : State :=
  match p with
  | .stc a bs c => s.spaceWriteClash (.seq q) a bs c
  | .pfunc port pin v _ =>
    if s.owns q .port port then (s.lockSees port (agent 5 q) (0x100 + 4 * pin) v).pinPut port pin (none,
      v) else s.raise 0x0707 (seqSrc q) [q, cfgBase .port port]
  | .remote dev payload =>
    if s.reachable dev then s.sendTo dev 0x07 payload else s.raise 0x070E (seqSrc q) [q, dev]
  | .own a g => s.own a g
  | .safe => s.enterSafe 1
  | .note n => s.postNote n
  | _ => s

/-- What stays in an item's place: of a PFUNC with an arm, the arm (R234), where the sequencer owns the port. -/
def State.leftOf (s : State) (q : Nat) (p : Posted) : List Posted :=
  match p with
  | .pfunc port _ _ (some t) => if s.owns q .port port then [.cfga (cfgBase .port port) t] else []
  | _ => []

/-- Every item of sequencer `q`'s buffer that can leave by itself leaves; `n` bounds them. -/
def State.drainGo (q : Nat) : Nat → State → State
  | 0, s => s
  | n + 1, s =>
    match firstSelf (s.stuck q) [] (s.seq q).post with
    | none => s
    | some (before, p, t) =>
      drainGo q n ((s.mapSeq q (fun x => { x with post := before.reverse ++ s.leftOf q p ++ t })).selfGo q p)

def State.drain (s : State) (q : Nat) : State := State.drainGo q 8 s

/-- Every sequencer's items that can leave by themselves leave. -/
def State.drainAll (s : State) : State := (List.range 33).foldl (fun s q => s.drain q) s

/-! ### Items that a command delivers -/

/-- What delivering an item found: the buffer without it; the item is not in the buffer (the outside's own); it waits. -/
inductive Pop where
  | popped (rest : List Posted)
  | absent
  | blocked
  deriving DecidableEq, Repr

/-- Find the first matching item; it waits behind an earlier item to its destination and behind a stuck item. -/
def popGo (stuck : Posted → Bool) (want : Posted → Bool) : List Posted → List Posted → Pop
  | _, [] => .absent
  | before, p :: t =>
    if want p then (if stuck p || waitsBehind stuck p.dests before then .blocked else .popped (before.reverse ++ t))
    else popGo stuck want (p :: before) t

/-- Take the item that `want` names from sequencer `q`'s posting buffer. -/
def State.popItem (s : State) (q : Nat) (want : Posted → Bool) : Pop :=
  popGo (s.stuck q) want [] (s.seq q).post

/-- Deliver an item of sequencer `q`: run `f` with the item taken from the buffer; an item that must wait does nothing,
an item that is not in the buffer is the outside's. Items that its leaving sets free leave by themselves. -/
def State.deliver (s : State) (q : Nat) (want : Posted → Bool) (f : State → State) : State :=
  match s.popItem q want with
  | .popped rest => (f (s.setSeq q { s.seq q with post := rest })).drain q
  | .absent => f s
  | .blocked => s

/-- One destination of a CANCEL takes it (R229): 0 to 7 the trackers, 8 the sill; the item leaves with its last one. The CANCEL is
the first that has not reached that destination. -/
def popCancel (stuck : Posted → Bool) (target : Half) (tag : Nat) (all : Bool) (d : Nat) : List Posted → List Posted → Pop
  | _, [] => .absent
  | before, p :: t =>
    match p with
    | .cancel g k a left =>
      if g = target ∧ k = tag ∧ a = all ∧ d ∈ left then
        if stuck p || waitsBehind stuck [if d = 8 then sillDest g else trackerDest d] before then .blocked
        else .popped (before.reverse ++ (if left = [d] then t else .cancel g k a (left.filter (· ≠ d)) :: t))
      else popCancel stuck target tag all d (p :: before) t
    | _ => popCancel stuck target tag all d (p :: before) t

/-- Deliver a CANCEL to one of its destinations, in issue order there (R187). -/
def State.deliverCancel (s : State) (q : Nat) (target : Half) (tag : Nat) (all : Bool) (d : Nat) (f : State → State) : State :=
  match popCancel (s.stuck q) target tag all d [] (s.seq q).post with
  | .popped rest => (f (s.setSeq q { s.seq q with post := rest })).drain q
  | .absent => f s
  | .blocked => s

end Sys2Proof.Machine
end

