-- ==== Sys2Proof/Machine/Sill.lean ====
section
/-! DEFINITION. Sills: R105 to R143. -/

namespace Sys2Proof.Machine

open Sys2Proof.F

/-- A sill runs (R110); EN is in force from the tick boundary after it is set (R24). -/
def State.sillRuns (s : State) (n : Nat) : Bool := s.bit SILL_CTRL_EN n && s.actBit SILL_CTRL_EN n && s.ready 15

/-- Put an entry into timestamp order, after entries of its own instant (R109). DESIGN CHOICE (log entry 129): an entry that an
AMEND, a lane item or the late policy moves onto an instant counts as arriving there then, and goes after the entries that hold
it. -/
def insertEntry (now : Stamp) (e : QEntry) : List QEntry → List QEntry
  | [] => [e]
  | x :: t => if stampDiff e.time now < stampDiff x.time now then e :: x :: t else x :: insertEntry now e t

/-- An entry is fixed: 30 ticks before its launch or less (R115, R120). -/
def QEntry.isFixed (e : QEntry) (now : Stamp) : Bool := e.fixed || decide (stampDiff e.time now < 960)

/-- Flag bits of an entry's records (R129). -/
def QEntry.flags (e : QEntry) : Nat :=
  fLate * b2n (decide (e.lateBy ≠ 0)) + fCoast * b2n e.coast + fRemote * b2n e.remote + fAmended * b2n e.amended

/-- The device number in an entry's launch record (R128). -/
def State.entryDev (s : State) (e : QEntry) : Nat := if e.remote then e.dev else s.fld CONST_ID_NUM 0

/-- Emit a record of sill `n` with the time flags. -/
def State.sillRecord (s : State) (n : Nat) (ts : Stamp) (kind flags payload : Nat) : State :=
  let (r, s) := s.evRec ts (sillSource n) kind flags payload
  s.sillEmit n r

/-- Emit a launch or pulse-done record, which LREC gates (R125). -/
def State.launchRecord (s : State) (n : Nat) (ts : Stamp) (kind flags payload : Nat) : State :=
  if s.actBit SILL_CTRL_LREC n then s.sillRecord n ts kind flags payload else s

/-- The TIME of an entry, whatever lateness has moved it since (R115, R128). -/
def QEntry.due (e : QEntry) : Stamp := e.asked.getD e.time

/-- Emit the late record of an entry, with its TIME (R128). -/
def State.lateRecord (s : State) (n : Nat) (e : QEntry) (lateness : Nat) : State :=
  s.sillRecord n e.due 0x19 (e.flags / 2 * 2) (e.tag % 2 ^ 16 + 2 ^ 16 * min lateness 65535)

/-- An entry with a new TIME by an amendment: its earlier lateness is void (R117, R119, R129). -/
def QEntry.retimed (e : QEntry) (t : Stamp) : QEntry := { e with time := t, asked := none, lateBy := 0, amended := true }

/-- An entry is late by `shift` steps: the late policy decides (R115). The entry goes on, later, or is gone. DESIGN CHOICE (log
entry 130): a lateness that is not whole ticks counts as the next whole number of them in the records (R128); an entry that is
judged late more than once raises 0x0301 and counts in LATECNT each time, as it is judged. -/
def State.judgeLate (s : State) (n : Nat) (e : QEntry) (shift : Nat) : Option QEntry × State :=
  let pol := s.fld SILL_CTRL_LATEPOL n
  let late := (shift + 31) / 32
  let s := s.raise 0x0301 (sillSrc n) [n, e.tag, min shift (2 ^ 32 - 1), pol]
  if pol = 0 then
    (some { e with time := e.time + BitVec.ofNat 64 shift, asked := some e.due, lateBy := e.lateBy + late, fixed := true },
      s.bump SILL_LATECNT_FIRED n)
  else (none, (s.bump SILL_LATECNT_DISCARDED n).lateRecord n e (e.lateBy + late))

/-- R115: judge the commit lead of an entry that enters now. -/
def State.judgeLead (s : State) (n : Nat) (e : QEntry) : Option QEntry × State :=
  if 960 ≤ stampDiff e.time s.now then (some e, s)
  else
    let late := s.now + 960 + BitVec.ofNat 64 (e.time.toNat % 32)
    s.judgeLate n e (late - e.time).toNat

/-- Put an entry into sill `n`'s queue. -/
def State.queueEntry (s : State) (n : Nat) (e : QEntry) : State :=
  s.setSill n { s.sill n with queue := insertEntry s.now e (s.sill n).queue }

/-- Judge an entry's lead and queue it. -/
def State.enterJudged (s : State) (n : Nat) (e : QEntry) : State :=
  match s.judgeLead n e with
  | (some e, s) => s.queueEntry n e
  | (none, s) => s

/-- Lane items held for an entry (R119). -/
def heldFor (e : QEntry) (l : List HeldItem) : List HeldItem :=
  l.filter (fun h => decide (e.held = some (h.tracker, h.slot)))

/-- An entry enters the queue: lane items held for it apply first, as far as its launch lies 8 ticks ahead (R119), then R115 judges
it. -/
def State.enter (s : State) (n : Nat) (e : QEntry) : State :=
  let x := s.sill n
  let mine := if stampDiff e.time s.now < 256 then [] else heldFor e x.held
  let s := s.setSill n { x with held := x.held.filter (fun h => !decide (e.held = some (h.tracker, h.slot))) }
  if mine.any (fun h => h.time.isNone) then s
  else
    match mine.getLast? with
    | some h => s.enterJudged n { e.retimed (h.time.getD e.time) with coast := h.coast }
    | none => s.enterJudged n e

/-- The pending entries of a sill (R109): those of its queue, and the SAMPLEs that wait for CONVREADY (R163). -/
def State.sillFill (s : State) (n : Nat) : Nat :=
  (s.sill n).queue.length + (if n < 1024 then ((s.port (n / 32)).early.filter (fun e => decide (e.1 = n))).length else 0)

/-- The lane of a sill: 0 to 31, or 32 for the chassis lane. -/
def laneOf (n : Nat) : Nat := if n < 1024 then n / 32 else 32

/-- The waiting entry of a sill that its lane serves next (R131): sources in turn, by their numbers from the one after that served
last, and each source in order of arrival. -/
def State.nextWaiting (s : State) (n : Nat) : Option (Nat × QEntry) :=
  let ws := (s.sill n).waiting
  let last := storeGet 0 s.laneDown (laneOf n)
  let turn (w : Nat × QEntry) : Nat := if last ≤ w.1 then w.1 - last else w.1 + 2 ^ 16
  ws.foldl (fun b w =>
    match b with
    | none => some w
    | some o => if turn w < turn o then some w else some o) none

/-- A lane lets a waiting entry of a source in. -/
def State.laneServes (s : State) (n src : Nat) : State := { s with laneDown := storeSet 0 s.laneDown (laneOf n) (src + 1) }

/-- An entry reaches a sill that does not run (R110). -/
def State.notRunning (s : State) (n : Nat) (e : QEntry) : State := s.raise 0x030A (sillSrc n) [n, e.src, e.tag]

/-- Entries that wait in the lane enter while there is room (R112), the lane's sources in turn (R131). -/
def State.admitWaiting (s : State) (n : Nat) : State :=
  (s.sill n).waiting.foldl (fun s _ =>
    match s.nextWaiting n with
    | none => s
    | some w =>
      if s.sillFill n < 16 then
        let s := (s.setSill n { s.sill n with waiting := (s.sill n).waiting.erase w }).laneServes n w.1
        if s.sillRuns n then s.enter n w.2 else s.notRunning n w.2
      else s) s

/-- An accepted entry arrives by the lane of a source (R112, R115). -/
def State.arrive (s : State) (n lane : Nat) (e : QEntry) : State :=
  if !s.sillRuns n then s.notRunning n e
  else if s.sillFill n < 16 then s.enter n e
  else
    (s.setSill n { s.sill n with waiting := (s.sill n).waiting ++ [(lane, e)] }).raiseFirst 0x0302 (sillSrc n) [n, e.src]

/-- The pending entry of a travelling one. -/
def itemToEntry (e : LaunchItem) (src : Nat) : QEntry where
  time := e.time
  action := e.action.toNat
  width := e.width.toNat
  tag := e.tag.toNat
  src := src
  dev := 0

/-- Refuse an entry for sill `n` where its action forbids it (R107, R141, R163); none where it does not. -/
def State.refuseAction (s : State) (n : Nat) (e : QEntry) : Option State :=
  if 8 ≤ e.action ∨ (e.action = 3 ∧ e.width < 2) then some (s.raise 0x0304 (sillSrc n) [n, e.src, e.tag])
  else if 1024 ≤ n then
    if (8 ≤ n - 1024 ∧ n - 1024 ≤ 10) ∨ e.action = 4 ∨ e.action = 6 then
      some (s.raise 0x0308 (sillSrc n) [n - 1024, e.action])
    else none
  else if e.action = 6 ∧ s.analogue n = false then some (s.raise 0x0309 (sillSrc n) [n, e.tag])
  else if e.action = 6 ∧ s.actBit PORT_CONV_EN (n / 32) = false then some (s.raise 0x030B (sillSrc n) [n, e.tag])
  else none

/-- Refuse an item whose TARGET names no sill (R107). The spec gives the CHASSIS block as SOURCE for chassis sill 12 or above;
DESIGN CHOICE (log entry 131): the record of a reserved TARGET class, which names no block, has the same. -/
def State.refuseTarget (s : State) (target : Half) (src tag : Nat) : State :=
  s.raise 0x0304 (srcOf 17 0) [target.toNat, src, tag]

/-- An entry of a source reaches the lane: refusal, then ownership (`own`, with what its failure does), running state,
commit lead (R107, R108, R110, R115). -/
def State.entryCame (s : State) (lane src : Nat) (e : LaunchItem) (own : Nat → Bool) (foreign : Nat → State → State) :
    State :=
  match sillOf e.target with
  | none => s.refuseTarget e.target src e.tag.toNat
  | some n =>
    match s.refuseAction n (itemToEntry e src) with
    | some s => s
    | none => if own n then s.arrive n lane (itemToEntry e src) else foreign n s

/-- A commit of tracker `m`'s slot `k` (R119). -/
def ofSlot (m k : Nat) (h : Option (Nat × Nat)) : Bool :=
  match h with
  | some x => decide (x.1 = m) && decide (x.2 % 256 = k)
  | none => false

/-- A tracker's commit enters its sill, or waits for a full queue beside the other entries of its lane (R88, R112, R120). -/
def State.commitCame (s : State) (c : Nat × QEntry) : State :=
  let s := { s with commits := s.commits.erase c }
  match s.refuseAction c.1 c.2 with
  | some s => s
  | none => s.arrive c.1 (laneTracker (c.2.src % 64)) c.2

/-- A lane of this source already holds a waiting entry at the target's sill. -/
def State.laneBusy (s : State) (lane : Nat) (target : Half) : Bool :=
  match sillOf target with
  | some n => (s.sill n).waiting.any (fun w => decide (w.1 = lane))
  | none => false

/-- The oldest entry that a zone's gateway has accepted for a target (R259: issue order). -/
def State.gwNext (s : State) (z : Nat) (target : Half) : Option (Nat × LaunchItem) :=
  s.gwEntries.find? (fun g => decide (g.1 = z) && decide (g.2.target = target))

/-- ENTRY_ARRIVAL (R107 to R119). -/
def execEntryArrival (src : EntrySource) (e : LaunchItem) (s : State) : Host.Outcome State Fault Refusal :=
  match src with
  | .seq q =>
    .next (s.deliver q.val (fun p => decide (p = .entry e)) (fun s =>
        s.entryCame (laneSeq q.val) (agent 5 q.val) e (fun n => s.owns q.val .sill n)
          (fun n s => s.raise 0x0305 (sillSrc n) [q.val, n])))
  | .tracker m k =>
    match s.commits.find? (fun c => ofSlot m.val k.val c.2.held) with
    | some c => .next (s.commitCame c)
    | none => .next s
  | .gateway z =>
    if s.laneBusy (laneGateway z.val) e.target || decide (s.gwNext z.val e.target ≠ some (z.val, e)) then .next s
    else
      let s := { s with gwEntries := s.gwEntries.erase (z.val, e) }
      .next (s.entryCame (laneGateway z.val) (agent 7 z.val) e
        (fun n => decide (s.owner .sill n = s.owner .zone z.val))
        (fun n s => (s.bump ZONE_GWREFUSED_COUNT z.val).raiseFirst 0x0402 (srcOf 10 z.val) [z.val, n]))

/-- Bring the time to the tick that holds an instant, if it lies ahead. -/
def State.reachTickOf (s : State) (t : Stamp) : State :=
  if s.time.counting && inFuture t s.now then s.passTicks ((t - s.now).toNat / 32) else s

/-- Mark the first entry that is not marked as fixed. -/
def fixFirst : List QEntry → List QEntry
  | [] => []
  | e :: t => if e.fixed then e :: fixFirst t else { e with fixed := true } :: t

/-- FIXING (R115): the next entry reaches 30 ticks before its launch. -/
def execFixing (sill : Fin 1036) (s : State) : Host.Outcome State Fault Refusal :=
  match (s.sill sill.val).queue.find? (fun e => !e.fixed) with
  | none => .next s
  | some e =>
    let s := s.reachTickOf (e.time - 960)
    .next (s.setSill sill.val { s.sill sill.val with queue := fixFirst (s.sill sill.val).queue })

/-! ### Launching (R106, R113, R114) -/

/-- The level after an action (R106). -/
def actionLevel (action : Nat) (level : Bool) : Bool :=
  if action = 0 then true else if action = 1 then false else if action = 2 ∨ action = 3 then !level else level

/-- End the active pulse at an entry's launch (R113). -/
def State.truncatePulse (s : State) (n : Nat) (t : Stamp) : State :=
  match (s.sill n).pulse with
  | none => s
  | some p => (s.setSill n { s.sill n with pulse := none }).launchRecord n t 0x18 p.flags (p.tag % 2 ^ 16 + 2 ^ 16)

/-- The payload of a launch or mark record (R128). -/
def State.launchPayload (s : State) (e : QEntry) : Nat :=
  e.tag % 2 ^ 16 + 2 ^ 16 * (s.entryDev e % 512) + 2 ^ 25 * min e.lateBy 127

/-- A RISE, FALL, TOGGLE or PULSE takes effect at its instant. -/
def State.launchLevel (s : State) (n : Nat) (e : QEntry) : State :=
  let s := s.truncatePulse n e.time
  let x := s.sill n
  let l := actionLevel e.action x.level
  let pulse := if e.action = 3 then some { restore := x.level, ends := e.time + ticks e.width, tag := e.tag, flags := e.flags }
    else none
  s.setSill n { x with level := l, pulse := pulse }

/-- A SAMPLE at its aperture instant (R107, R161 to R163). -/
def State.launchSample (s : State) (n : Nat) (e : QEntry) : State :=
  let p := n / 32
  if !s.analogue n then (s.lateRecord n e e.lateBy).raise 0x0309 (sillSrc n) [n, e.tag]
  else if !s.actBit PORT_CONV_EN p then (s.lateRecord n e e.lateBy).raise 0x030B (sillSrc n) [n, e.tag]
  else if s.act PORT_STATUS_CONVREADY p = 0 ∧ s.bit PORT_CONV_EN p = false then
    (s.lateRecord n e e.lateBy).raise 0x030B (sillSrc n) [n, e.tag]
  else if s.act PORT_STATUS_CONVREADY p = 0 then s.setPort p { s.port p with early := (s.port p).early ++ [(n, e)] }
  else
    let real := s.realOf e.time
    let short : Int := match (s.port p).lastAperture with
      | some a => 1000 - (real - a)
      | none => 0
    if 0 < short then
      match s.judgeLate n e short.toNat with
      | (some e, s) => s.queueEntry n e
      | (none, s) => s
    else
      let s := s.setPort p { s.port p with lastAperture := some real }
      s.setSill n { s.sill n with samples := (s.sill n).samples ++ [(e.time, e.tag, e.flags + s.timeFlags)] }

/-- The real instant at which a level change launched at `t` stands at the pin of sill `n` (R114, R135). -/
def State.pinTime (s : State) (n : Nat) (t : Stamp) : Int := s.realOf t + deskew (s.act SILL_DSK_LDSK n)

/-- One entry of the instant launches; `prior` is the level change at the pin before this instant (R114). -/
def State.launchEntry (s : State) (n : Nat) (prior : Option Int) (e : QEntry) : State :=
  let x := s.sill n
  let changes := decide (actionLevel e.action x.level ≠ x.level)
  let gap : Int := match prior with
    | some p => s.pinTime n e.time - p
    | none => 64
  if changes && decide (gap < 64) then
    match s.judgeLate n e (64 - gap).toNat with
    | (some e, s) => s.queueEntry n e
    | (none, s) => s
  else if e.action = 6 then s.launchSample n e
  else if e.action = 7 then s.sillRecord n e.time 0x17 e.flags (s.launchPayload e)
  else
    let s := if e.action = 4 then s.setSill n { x with driver := false }
      else if e.action = 5 then s.setSill n { x with driver := true }
      else s.launchLevel n e
    s.launchRecord n e.time (0x10 + e.action) e.flags (s.launchPayload e)

/-- The trailing edge of the active pulse (R106, R113). -/
def State.trailing (s : State) (n : Nat) : State :=
  match (s.sill n).pulse with
  | none => s
  | some p =>
    let s := s.sillStir n
    let x := s.sill n
    let s := (s.setSill n { x with level := p.restore, pulse := none }).noteChange n x (s.pinTime n p.ends) x.lastChange
    s.launchRecord n p.ends 0x18 p.flags (p.tag % 2 ^ 16)

/-- Another SAMPLE of the port takes the converter first (R162): an earlier instant, or the same one on a lower channel. -/
def State.samplesFirst (s : State) (n : Nat) (t : Stamp) : Bool :=
  (List.range 32).any (fun i =>
    let m := n / 32 * 32 + i
    decide (m ≠ n) && (s.sill m).queue.any (fun e => decide (e.action = 6) &&
      (decide (stampDiff e.time t < 0) || (decide (e.time = t) && decide (m < n)))))

/-- The entries of sill `n` whose instant is `t` launch (R109). DESIGN CHOICE (log entry 132): an entry at the instant of a
pulse's trailing edge that changes the level again comes 0 ticks after a level change, and is late by 2 (R113, R114). -/
def State.launchAt (s : State) (n : Nat) (t : Stamp) : State :=
  let s := s.sillStir n
  let s := match (s.sill n).pulse with
    | some p => if stampDiff p.ends t ≤ 0 then s.trailing n else s
    | none => s
  let x := s.sill n
  let group := x.queue.filter (fun e => decide (e.time = t))
  let s := s.setSill n { x with queue := x.queue.filter (fun e => decide (e.time ≠ t)) }
  let s := group.foldl (fun s e => s.launchEntry n x.lastChange e) s
  (s.noteChange n x (s.pinTime n t) x.lastChange).admitWaiting n

/-- LAUNCH_INSTANT (R106, R109, R113, R114, R162): the next instant of the queue launches; with a SAMPLE in it, the converter's
other SAMPLEs that come first launch before. -/
def execLaunchInstant (sill : Fin 1036) (s : State) : Host.Outcome State Fault Refusal :=
  let n := sill.val
  match (s.sill n).queue with
  | [] => .next s
  | e :: _ =>
    let sample := (s.sill n).queue.any (fun x => decide (x.time = e.time) && decide (x.action = 6))
    if !s.time.counting || (sample && s.samplesFirst n e.time) then .next s
    else .next ((s.reachTickOf e.time).launchAt n e.time)

/-- TRAILING_EDGE (R106, R113). -/
def execTrailingEdge (sill : Fin 1036) (s : State) : Host.Outcome State Fault Refusal :=
  match (s.sill sill.val).pulse with
  | none => .next s
  | some p => .next ((s.reachTickOf p.ends).trailing sill.val)

/-! ### AMEND, CANCEL and the amendment lane (R117 to R119) -/

/-- No tracker holds the entry with its window open (R117). -/
def QEntry.free (e : QEntry) : Bool := e.held.isNone || e.closed

/-- The window of a tracker's commit has closed (R90): its entry, wherever it stands, is no longer held. -/
def State.releaseEntry (s : State) (n m key : Nat) : State :=
  let f (e : QEntry) : QEntry := if e.held = some (m, key) then { e with closed := true, fixed := true } else e
  let s : State := { s with commits := s.commits.map (fun c => (c.1, f c.2)) }
  s.mapSill n (fun x => { x with queue := x.queue.map f, waiting := x.waiting.map (fun w => (w.1, f w.2)) })

/-- The first entry that matches, in launch order. -/
def removeFirst (want : QEntry → Bool) : List QEntry → List QEntry
  | [] => []
  | e :: t => if want e then t else e :: removeFirst want t

/-- A program's AMEND acts on sill `n` (R117). -/
def State.amendSill (s : State) (n tag : Nat) (t : Stamp) : State :=
  let want (e : QEntry) : Bool := decide (e.tag = tag) && e.free
  match (s.sill n).queue.find? want with
  | none => s.sillRecord n s.now 0x1B 0 (tag % 2 ^ 16)
  | some e =>
    if e.isFixed s.now then s.sillRecord n s.now 0x1B 0 (tag % 2 ^ 16)
    else
      let s := s.setSill n { s.sill n with queue := removeFirst want (s.sill n).queue }
      (s.enterJudged n (e.retimed t)).admitWaiting n

/-- Entries that a CANCEL removes (R118). -/
def cancels (now : Stamp) (tag : Nat) (all : Bool) (e : QEntry) : Bool :=
  (all || decide (e.tag = tag)) && !e.isFixed now && e.free

/-- The cancel-report record of a sill (R128). -/
def State.cancelReport (s : State) (n tag count : Nat) (all : Bool) : State :=
  s.sillRecord n s.now 0x1A 0 (tag % 2 ^ 16 + 2 ^ 16 * (count % 256) + 2 ^ 24 * b2n all)

/-- A program's CANCEL acts on sill `n` (R118). -/
def State.cancelSill (s : State) (n tag : Nat) (all : Bool) : State :=
  let x := s.sill n
  let gone := x.queue.filter (cancels s.now tag all)
  let s := s.setSill n { x with queue := x.queue.filter (fun e => !cancels s.now tag all e) }
  (s.cancelReport n tag gone.length all).admitWaiting n

/-- An item of sequencer `q` for a sill: no such sill, not the owner (R107, R108), else `f`. -/
def State.sillOp (s : State) (q : Nat) (target : Half) (tag : Nat) (f : Nat → State → State) : State :=
  match sillOf target with
  | none => s.refuseTarget target (agent 5 q) tag
  | some n => if s.owns q .sill n then f n s else s.raise 0x0305 (sillSrc n) [q, n]

/-- SILL_AMEND (R117). -/
def execSillAmend (q : Fin 33) (target : Half) (tag : Half) (t : Stamp) (s : State) : Host.Outcome State Fault Refusal :=
  .next (s.deliver q.val (fun p => decide (p = .amendTime target tag.toNat t)) (fun s =>
    s.sillOp q.val target tag.toNat (fun n s => s.amendSill n tag.toNat t)))

/-- SILL_CANCEL (R118). -/
def execSillCancel (q : Fin 33) (target : Half) (tag : Half) (all : Bool) (s : State) :
    Host.Outcome State Fault Refusal :=
  .next (s.deliverCancel q.val target tag.toNat all 8 (fun s =>
    s.sillOp q.val target tag.toNat (fun n s => s.cancelSill n tag.toNat all)))

/-- Write a field of class L of a sill, in force from the next tick boundary where the sill runs (R24). -/
def State.sillPut (s : State) (f : Fld) (n v : Nat) : State :=
  (if s.running .sill n then s.keepPrior f n 0 else s).setFld f n v

/-- CAPT_ARRIVAL (R230): CEDGE := e, and CEN says whether e is not 0. -/
def execCaptArrival (q : Fin 33) (target : Half) (e : Fin 4) (s : State) : Host.Outcome State Fault Refusal :=
  .next (s.deliver q.val (fun p => decide (p = .capt target e.val)) (fun s =>
    s.sillOp q.val target 0 (fun n s => (s.sillPut SILL_CTRL_CEDGE n e.val).sillPut SILL_CTRL_CEN n (b2n (decide (e.val ≠ 0))))))

/-- Take the first lane item of a tracker's slot, an amendment or a cancellation. -/
def State.takeLane (s : State) (m k : Nat) (amend : Bool) : Option ((Nat × HeldItem) × State) :=
  (s.lane.find? (fun i => ofSlot m k (some (i.2.tracker, i.2.slot)) && decide (i.2.time.isSome = amend))).map
    (fun i => (i, { s with lane := s.lane.erase i }))

/-- A lane item reaches its sill (R119): the entry takes it until 8 ticks before its launch; the sill holds it for an
entry that has not entered; otherwise nothing. -/
def State.laneCame (s : State) (n : Nat) (h : HeldItem) : State :=
  let want (e : QEntry) : Bool := decide (e.held = some (h.tracker, h.slot))
  let x := s.sill n
  match x.queue.find? want with
  | none =>
    if s.commits.any (fun c => decide (c.1 = n) && want c.2) || x.waiting.any (fun w => want w.2) then
      s.setSill n { x with held := x.held ++ [h] }
    else s
  | some e =>
    if stampDiff e.time s.now < 256 then s
    else
      let s := s.setSill n { x with queue := removeFirst want x.queue }
      match h.time with
      | none => s.admitWaiting n
      | some t =>
        let e := { e.retimed t with coast := h.coast }
        let short := 256 - stampDiff t s.now
        if 0 < short then
          match s.judgeLate n e short.toNat with
          | (some e, s) => s.queueEntry n e
          | (none, s) => s.admitWaiting n
        else s.queueEntry n e

/-- LANE_AMENDMENT (R89, R119). -/
def execLaneAmendment (n : Fin 8) (slot : Fin 256) (s : State) : Host.Outcome State Fault Refusal :=
  match s.takeLane n.val slot.val true with
  | some (i, s) => .next (s.laneCame i.1 i.2)
  | none => .next s

/-- LANE_CANCELLATION (R84, R119). -/
def execLaneCancellation (n : Fin 8) (slot : Fin 256) (s : State) : Host.Outcome State Fault Refusal :=
  match s.takeLane n.val slot.val false with
  | some (i, s) => .next (s.laneCame i.1 i.2)
  | none => .next s

/-! ### Capture and records (R121 to R133) -/

/-- CEDGE selects the edge (R121). -/
def edgeSelected (cedge : Nat) (rise : Bool) : Bool := bitOf cedge (if rise then 0 else 1)

/-- An edge at the line of CSILL_11 is the sill's own (R141): its level, driven, has changed to it; in the safe state the line stays
low (R499). -/
def State.ownEdge (s : State) (n : Nat) (rise : Bool) (real : Int) : Bool :=
  let x := s.sill n
  x.driver && !(rise && s.bit SUP_SAFE_ACTIVE 0) && (x.level == rise) && (match x.lastChange with
    | some c => decide (c ≤ real)
    | none => false)

/-- CAPTURE (R121 to R123): an edge at the ball, timestamped `t` before deskew. -/
def execCapture (sill : Fin 1036) (rise : Bool) (t : Stamp) (s : State) : Host.Outcome State Fault Refusal :=
  let n := sill.val
  let s := s.reachTickOf t
  let real := s.realOf t
  if !(s.sillRuns n && s.actBit SILL_CTRL_CEN n && s.time.counting && s.captureSees n (tickOf real)) then .next s
  else if n = 1035 ∧ s.ownEdge n rise real = false then .next s
  else
    let x := s.sill n
    let blind := match x.lastEdge with
      | some l => decide (l ≤ real) && decide (real - l < 64)
      | none => false
    if blind then .next ((s.bump SILL_LOSTCNT_DEAD n).raiseFirst 0x0306 (sillSrc n) [n])
    else if !edgeSelected (s.act SILL_CTRL_CEDGE n) rise then .next s
    else
      let ts := t + BitVec.ofInt 64 (deskew (s.act SILL_DSK_CDSK n))
      let s := s.setSill n { x with lastEdge := some real, captTs := ts }
      let m := s.act SILL_CTRL_POSMT n
      if s.actBit SILL_CTRL_POSEN n then
        let coast := s.mtCoasts m
        let (p, s) := s.posNow m
        .next (s.sillRecord n ts (if rise then 1 else 2) (fCoast * b2n coast) (word p))
      else .next (s.sillRecord n ts (if rise then 1 else 2) 0 0)

/-- The sills of a lane. -/
def laneSills (lane : Nat) : List Nat :=
  if lane < 32 then (List.range 32).map (32 * lane + ·) else (List.range 12).map (1024 + ·)

/-- The ring of a sill's records is full for them (R334). -/
def State.recordWaits (s : State) (n : Nat) : Bool :=
  let r := s.act SILL_RING_CRING n
  s.ringEn r && s.mayProduce (agent 1 (laneOf n)) r && decide (s.ringRoom r = 0)

/-- The sill that a lane serves next (R131): round-robin among those with records that their rings can take. -/
def State.laneNext (s : State) (lane : Nat) : Option Nat :=
  let all := laneSills lane
  let last := storeGet 0 s.laneLast lane
  (all.filter (fun n => decide (last < n + 1)) ++ all.filter (fun n => decide (n + 1 ≤ last))).find? (fun n =>
    !(s.sill n).fifo.isEmpty && !s.recordWaits n)

/-- RECORD_TO_RING (R123, R131, R132, R334): the lane takes the oldest record of a sill in its turn, when it can pass it on. -/
def execRecordToRing (sill : Fin 1036) (s : State) : Host.Outcome State Fault Refusal :=
  let n := sill.val
  match (s.sill n).fifo with
  | [] => .next s
  | r :: rest =>
    if !s.ready 4 || !(s.recordWaits n || decide (s.laneNext (laneOf n) = some n)) then .next s
    else
      match s.ringOffer (agent 1 (laneOf n)) (s.act SILL_RING_CRING n) r.item with
      | (s, .waits) => .next s
      | (s, _) => .next { (s.mapSill n (fun x => { x with fifo := rest })) with
          laneLast := storeSet 0 s.laneLast (laneOf n) (n + 1) }

/-- The launch entry that 16 bytes spell (R105). -/
def itemEntry (x : BitVec 128) : LaunchItem where
  time := x.extractLsb' 0 64
  target := x.extractLsb' 64 16
  action := x.extractLsb' 80 4
  width := x.extractLsb' 96 16
  tag := x.extractLsb' 112 16

/-- A sill takes entries from a ring (R133). -/
def State.takesStream (s : State) (n r : Nat) : Bool :=
  s.actBit SILL_RING_LREN n && decide (s.act SILL_RING_LRING n = r)

/-- STREAM_ENTRY (R133, R328): the lane reads the next entry of a ring and delivers it. An entry of the ring that still
waits for a full queue holds it back. -/
def execStreamEntry (lane : Fin 33) (ring : Fin 1024) (ecc : Ecc) (s : State) : Host.Outcome State Fault Refusal :=
  let l := lane.val
  let r := ring.val
  let lsrc := if l < 32 then srcOf 5 l else srcOf 17 0
  if !((laneSills l).any (fun n => s.takesStream n r)) || !s.ringEn r || decide (s.ringFill r = 0) || !s.readOpen r 0 then
    .next s
  else if (laneSills l).any (fun n => (s.sill n).waiting.any (fun w => decide (w.1 = laneStream r))) then .next s
  else if !s.mayConsume (agent 1 l) r then .next (s.ringNotMine (agent 1 l) r)
  else
    let a := s.ringAddr r (s.fld RING_RPTR_OFF r)
    let bad := s.flaws.any (fun f => !f.flash && f.bad && decide (f.addr = a))
    let (x, s) := (s.eccRead (agent 1 l) a 16).ringTake (agent 1 l) r
    let s := s.eccSeen ecc (agent 1 l) a
    let e := itemEntry x
    if ecc = .uncorrected || bad then .next s
    else
      match sillOf e.target with
      | none => .next (s.raise 0x0307 lsrc [r, e.target.toNat])
      | some n =>
        if laneOf n = l ∧ s.takesStream n r = true then
          match s.refuseAction n (itemToEntry e (agent 1 l)) with
          | some s => .next s
          | none => .next (s.arrive n (laneStream r) (itemToEntry e (agent 1 l)))
        else .next (s.raise 0x0307 lsrc [r, e.target.toNat])

/-- CONVERSION_DONE (R7, R48, R161): the oldest granted aperture of the sill has its code; HOLDOVER and LOCAL are those of the
aperture. -/
def execConversionDone (sill : Fin 1036) (code : BitVec 12) (s : State) : Host.Outcome State Fault Refusal :=
  let n := sill.val
  match (s.sill n).samples with
  | [] => .next s
  | a :: rest =>
    let s := s.setSill n { s.sill n with samples := rest }
    let (r, s) := s.evRecOf a.1 (3 * 1024 + n) 0x20 a.2.2 (16 * code.toNat + 2 ^ 16 * (a.2.1 % 2 ^ 16))
    .next (s.sillEmit n r)

/-! ### What writes to SILL registers do (R110, R143) -/

/-- Clear the counters of a sill (R143). -/
def State.clearSillCounters (s : State) (n : Nat) : State :=
  (((s.setFld SILL_LATECNT_FIRED n 0).setFld SILL_LATECNT_DISCARDED n 0).setFld SILL_LOSTCNT_DEAD n 0).setFld
    SILL_LOSTCNT_LOST n 0

/-- EN sets: level and driver load; EN clears: entries that are not fixed are cancelled (R110). -/
def State.sillEnChanged (s : State) (n : Nat) (was : Bool) : State :=
  let en := s.bit SILL_CTRL_EN n
  if en && !was then
    let s := s.sillStir n
    let x := s.sill n
    ((s.setSill n { x with level := s.bit SILL_CTRL_ILVL n, driver := s.bit SILL_CTRL_IDRV n }).noteChange n x
      (32 * (s.tickNo + 1) : Nat) x.lastChange).clearSillCounters n
  else if was && !en then
    let x := s.sill n
    let gone := x.queue.filter (fun e => !e.isFixed s.now)
    let s := s.setSill n { x with queue := x.queue.filter (fun e => e.isFixed s.now) }
    (s.cancelReport n 0 gone.length true).admitWaiting n
  else s

/-- What a write to a sill's registers does beyond its fields. -/
def State.sillWrote (s : State) (n off v : Nat) (was : Bool) : State :=
  if off = 0 then s.sillEnChanged n was
  else if off = 0x2C then
    let s := if bitOf v 1 then s.clearSillCounters n else s
    if bitOf v 0 then s.cancelSill n 0 true else s
  else s

/-- SILL.STAT (R143). -/
def State.sillStat (s : State) (n : Nat) : Nat :=
  let x := s.sill n
  2 ^ 18 * b2n x.pulse.isSome + 2 ^ 17 * b2n x.driver + 2 ^ 16 * b2n x.level + 2 ^ 8 * x.fifo.length + s.sillFill n

/-- SILL.NEXTTAG of the next entry (R143). -/
def State.sillNextTag (s : State) (n : Nat) : Nat :=
  match (s.sill n).queue with
  | [] => 0
  | e :: _ => 2 ^ 31 + 2 ^ 30 * b2n (e.isFixed s.now) + 2 ^ 29 * b2n (!e.free) + 2 ^ 16 * (e.action % 16) +
      e.tag % 2 ^ 16

/-- TIME of the next entry, 0 with none. -/
def State.sillNextTime (s : State) (n : Nat) : Stamp :=
  match (s.sill n).queue with
  | [] => 0
  | e :: _ => e.time

/-- A read of CAPT_LO snapshots the last capture timestamp (R143). -/
def State.snapCapt (s : State) (n : Nat) : State :=
  s.setSill n { s.sill n with captSnap := (s.sill n).captTs.toNat / 2 ^ 32 }

/-- A read of NEXT_LO snapshots NEXT_HI and NEXTTAG (R143). -/
def State.snapNext (s : State) (n : Nat) : State :=
  s.setSill n { s.sill n with nextSnapHi := (s.sillNextTime n).toNat / 2 ^ 32, nextSnapTag := s.sillNextTag n }

/-- CAPT_LO (R143). -/
def execCaptLo (_q : Fin 33) (sill : Fin 1036) (s : State) : Host.Outcome State Fault Refusal :=
  .next (s.snapCapt sill.val)

/-- NEXT_LO (R143). -/
def execNextLo (_q : Fin 33) (sill : Fin 1036) (s : State) : Host.Outcome State Fault Refusal :=
  .next (s.snapNext sill.val)

end Sys2Proof.Machine
end

