-- ==== Sys2Proof/Machine/Port.lean ====
section
/-! DEFINITION. Pins, ports and attention lines: R145 to R175. -/

namespace Sys2Proof.Machine

open Sys2Proof.F

/-! ### Pin lock (R170, R171) -/

/-- LOCK_TIMEOUT (R170): the 64 register clocks of a master's sequence end. -/
def execLockTimeout (q : Fin 33) (port : Fin 32) (s : State) : Host.Outcome State Fault Refusal :=
  let m := agent 5 q.val
  match (s.port port.val).locks.find? (fun l => decide (l.master = m)) with
  | none => .next s
  | some l => .next (((s.reachTick (l.start + 512)).dropLock port.val m).lockFail port.val m)

/-! ### Switches (R156 to R160, R169) -/

/-- HOLD_TICK_END (R157, R160): the new functions drive. -/
def execHoldTickEnd (port : Fin 32) (pin : Fin 32) (s : State) : Host.Outcome State Fault Refusal :=
  match storeGet none (s.port port.val).switches pin.val with
  | none => .next s
  | some w => if w.driving then .next s else .next ((s.reachTick (w.boundary + 1)).portSettle port.val)

/-- CAPTURE_RESUME (R158): the input functions of the pin take edges again, two ticks after the boundary. -/
def execCaptureResume (port : Fin 32) (pin : Fin 32) (s : State) : Host.Outcome State Fault Refusal :=
  match storeGet none (s.port port.val).switches pin.val with
  | none => .next s
  | some w => .next ((s.reachTick (w.boundary + 2)).portSettle port.val)

/-- The set-up of a pin that a function switch changes. -/
def State.pinSetup (s : State) (p i : Nat) : List Nat :=
  [s.fldI PORT_PIN_FUNC p i, s.fldI PORT_PIN_MSEL p i, s.fldI PORT_PIN_CSEL p i, s.fldI PORT_PIN_INEN p i,
   s.fldI PORT_PIN_ANA p i, b2n (s.paired p i), b2n (bitOf (s.fld PORT_LVDS_TERM p) (i / 2))]

/-- The pairs that an arm would join and the port's VIO refuses (R154). -/
def State.pairsRefused (s : State) (p : Nat) : List Nat :=
  let v := s.fld PORT_STATUS_VIOCODE p
  if v = 3 ∨ v = 4 then []
  else (List.range 16).filter (fun k => bitOf (s.stagedI PORT_LVDS_PAIR p 0) k && !bitOf (s.fld PORT_LVDS_PAIR p) k)

/-- An arm has changed a pin's set-up, or, of the odd pin of a pair, that of the even pin, which drives the pair (R154, R157). -/
def State.setupChanged (s old : State) (p i : Nat) : Bool :=
  decide (s.pinSetup p i ≠ old.pinSetup p i) ||
    (s.paired p i && decide (i % 2 = 1) && decide (s.pinSetup p (i - 1) ≠ old.pinSetup p (i - 1)))

/-- The arm of a port (R154, R156, R157), with boundary now. -/
def State.portArm (s : State) (p : Nat) : State :=
  let s := s.portSettle p
  let views := s.portViews p
  let old := s
  let bad := s.pairsRefused p
  let s := s.armCopy .port p (fun f _ => decide (f = PORT_LVDS_PAIR))
  let pairs := bad.foldl withoutBit (s.stagedI PORT_LVDS_PAIR p 0)
  let s := s.setFld PORT_LVDS_PAIR p pairs
  let s := bad.foldl (fun s k => s.raise 0x030E (srcOf 5 p) [p, k, s.fld PORT_STATUS_VIOCODE p]) s
  (List.range 32).foldl (fun s i =>
    if !s.setupChanged old p i then s
    else
      let sill := bitOf (s.fldI PORT_PIN_FUNC p i) 3 != bitOf (old.fldI PORT_PIN_FUNC p i) 3
      s.startSwitch p i s.tickNo (views.getD i {}) sill false) s

/-- The personality of zone `k` goes or comes at tick boundary `b`: its FFAB pins keep what it gave them until the hold tick is over
(R173, R269, R300). Asked before the zone changes. -/
def State.fabricSwitch (s : State) (k b : Nat) : State :=
  (((List.range 32).filter (fun p => decide (edgeZone p = k) &&
      (List.range 32).any (fun i => bitOf (s.fldI PORT_PIN_FUNC p i) 2))).foldl (fun s p =>
    let s := s.portSettle p
    let x := s.port p
    let gives (i : Nat) : Option (Bool × Bool) := s.fabGives p i
    let now : FabHold :=
      { boundary := b, known := pinMask (fun i => (gives i).isSome), out := pinMask (fun i => ((gives i).map (·.1)).getD false)
        ran := decide (s.fld ZONE_STATUS_STATE k = 1), en := pinMask (fun i => ((gives i).map (·.2)).getD false) }
    let h := match x.fabHold with
      | some h => if s.tickNo ≤ h.boundary then { h with boundary := b } else now
      | none => now
    s.setPort p { x with fabHold := some h, fabKnown := 0 }) s).mapZone k (fun z => { z with pins := [] })

/-- REFLEX_EDGE (R139, R148): an edge passes from an input pin to an output pin of the port through its edge zone. -/
def execReflexEdge (port : Fin 32) (pinIn pinOut : Fin 32) (levelIn levelOut : Bool) (s : State) :
    Host.Outcome State Fault Refusal :=
  let p := port.val
  let i := pinOut.val
  let _ := levelIn
  if decide (s.fld ZONE_STATUS_STATE (edgeZone p) = 1) && bitOf (s.fldI PORT_PIN_FUNC p i) 2 &&
      s.captureSees (32 * p + pinIn.val) s.tickNo then
    .next ((s.portSettle p).mapPort p (fun x => { x with
      fabKnown := withBit x.fabKnown i
      fabOut := if levelOut then withBit x.fabOut i else withoutBit x.fabOut i }))
  else .next s

/-! ### Static levels, converter, VIO -/

/-- A static write (R150): 0 set, 1 clear, 2 invert; it shows at the pins from the next tick boundary (R24). -/
def State.staticWrite (s : State) (p fn mask : Nat) : State :=
  let s := s.portSettle p
  let o := s.fld PORT_OUT_LEVEL p
  (if s.running .port p then s.keepPrior PORT_OUT_LEVEL p 0 else s).setFld PORT_OUT_LEVEL p
    (if fn = 0 then Nat.lor o mask else if fn = 1 then o - Nat.land o mask else Nat.xor o mask)

/-- A SAMPLE whose aperture finds the converter off (R163): late record and 0x030B, whatever the late policy. -/
def State.sampleDead (s : State) (n : Nat) (e : QEntry) : State :=
  (s.lateRecord n e e.lateBy).raise 0x030B (sillSrc n) [n, e.tag]

/-- PORT.CONV.EN has been written (R163). Clear, it stops the converter, which serves the rest of the tick as it stood (R24). -/
def State.convWrote (s : State) (p : Nat) : State :=
  if s.bit PORT_CONV_EN p then s
  else
    let es := (s.port p).early
    let s := ((s.setPort p { s.port p with early := [] }).keepPrior PORT_STATUS_CONVREADY p 0).setBit PORT_STATUS_CONVREADY p false
    es.foldl (fun s e => (s.sampleDead e.1 e.2).admitWaiting e.1) s

/-- CONVREADY (R163): the converter is ready; a SAMPLE that waited moves to the first instant from now with its step within
the tick, and is late by that amount. -/
def execConvready (port : Fin 32) (s : State) : Host.Outcome State Fault Refusal :=
  let p := port.val
  if !s.bit PORT_CONV_EN p || s.bit PORT_STATUS_CONVREADY p then .next s
  else
    let es := (s.port p).early
    let s := (s.setPort p { s.port p with early := [] }).setBit PORT_STATUS_CONVREADY p true
    .next (es.foldl (fun s e =>
      let t := s.now + BitVec.ofNat 64 (e.2.time.toNat % 32)
      match s.judgeLate e.1 e.2 (t - e.2.time).toNat with
      | (some x, s) => s.queueEntry e.1 x
      | (none, s) => s.admitWaiting e.1) s)

/-- VIOCODE_CHANGE (R145, R146). -/
def execViocodeChange (port : Fin 32) (code : Fin 7) (s : State) : Host.Outcome State Fault Refusal :=
  let p := port.val
  let old := s.fld PORT_STATUS_VIOCODE p
  if old = code.val then .next s
  else .next (((s.portSettle p).setFld PORT_STATUS_VIOCODE p code.val).raise 0x030F (srcOf 5 p) [p, old, code.val])

/-- A write to a port's register lands (R150, R160, R163, R168 to R171). `who` is the master. -/
def State.portWrite (s : State) (who p off v : Nat) : State :=
  let s := s.lockSees p who off v
  if off = 4 then s.staticWrite p 0 v
  else if off = 8 then s.staticWrite p 1 v
  else if off = 0xC then s.staticWrite p 2 v
  else if off = 0x34 then s.safeSet p v
  else if off = 0x38 then s.safeClr p v
  else if 0x100 ≤ off ∧ off < 0x180 then s.pinPut p ((off - 0x100) / 4) (some who, v)
  else
    let s := (s.portSettle p).portClassWrite who p off v
    if off = 0x24 then s.convWrote p else s

/-! ### Attention lines (R164 to R167) -/

/-- The targets that routing fields, read so, name. -/
def targetsOf (get : Fld → Nat) : List AtnTarget :=
  ((List.range 32).filter (bitOf (get ATN_ZONE_LO_MASK))).map AtnTarget.zone ++
  ((List.range 32).filter (bitOf (get ATN_ZONE_HI_MASK))).map (fun k => AtnTarget.zone (32 + k)) ++
  ((List.range 32).filter (bitOf (get ATN_SEQ_MASK))).map AtnTarget.seq ++
  (if get ATN_ROUTE_SUP = 1 then [AtnTarget.seq 32] else []) ++
  ((List.range 16).filter (bitOf (get ATN_ROUTE_SE))).map AtnTarget.engine

/-- The targets that a line's routing, as it is in force, names (R24, R167). -/
def State.atnTargets (s : State) (n : Nat) : List AtnTarget := targetsOf (fun f => s.act f n)

/-- SENSE as it acts: 5 to 7 as 0 (R164). -/
def State.sense (s : State) (n : Nat) : Nat :=
  let v := s.fld ATN_CTRL_SENSE n
  if 5 ≤ v then 0 else v

/-- The channel a line watches (R164). -/
def State.atnChannel (s : State) (n : Nat) : Nat := 32 * s.fld ATN_CTRL_PORT n + n

/-- The level that a line senses holds, and the line sees it (R164). -/
def State.levelHolds (s : State) (n : Nat) : Bool :=
  ((decide (s.sense n = 3) && (s.atn n).level) || (decide (s.sense n = 4) && !(s.atn n).level)) &&
    s.captureSees (s.atnChannel n) s.tickNo

/-- Send an event to targets that hold none (R165, R166). -/
def State.atnSend (s : State) (n : Nat) (ts : List AtnTarget) : State :=
  let x := s.atn n
  let new := ts.filter (fun t => !x.pending.contains t)
  s.setAtn n { x with pending := x.pending ++ new, flying := x.flying ++ new }

/-- Forget a line's event at targets: their latches clear with it (R167, R175). -/
def State.atnForget (s : State) (n : Nat) (gone : List AtnTarget) : State :=
  let s := gone.foldl (fun s a =>
    match a with
    | .zone k => s.setFld ZONE_ATNPEND_PEND k (withoutBit (s.fld ZONE_ATNPEND_PEND k) n)
    | .engine e => s.setFld SE_ATNPEND_PEND e (withoutBit (s.fld SE_ATNPEND_PEND e) n)
    | .seq q => (s.vectorsOn q 1 n).foldl (fun s k =>
        s.setFld SEQ_WPEND_PEND q (withoutBit (s.fld SEQ_WPEND_PEND q) k)) s) s
  let x := s.atn n
  s.setAtn n { x with
    again := x.again.filter (fun a => !gone.contains a.1)
    pending := x.pending.filter (fun a => !gone.contains a)
    flying := x.flying.filter (fun a => !gone.contains a) }

/-- What has come due at a line (R166, R167): at the first instant of its sensing a level that holds raises an event; at the first
tick after an acknowledgement a level that still holds raises the target's event again; an event pending at a target that the
routing in force does not name, or while EN is clear, is lost. -/
def State.atnSettle (s : State) (n : Nat) : State :=
  let x := s.atn n
  let live := s.actBit ATN_CTRL_EN n && s.levelHolds n
  let ts := if s.actBit ATN_CTRL_EN n then s.atnTargets n else []
  let first := if x.due && decide (x.since ≤ s.tickNo) then ts else []
  let again := (x.again.filter (fun a => decide (a.2 ≤ s.tickNo) && ts.contains a.1)).map Prod.fst
  let s := s.setAtn n { x with
    due := x.due && !decide (x.since ≤ s.tickNo), again := x.again.filter (fun a => decide (s.tickNo < a.2)) }
  let s := if live then s.atnSend n (first ++ again) else s
  s.atnForget n ((s.atn n).pending.filter (fun a => !ts.contains a))

/-- ATN_EVENT (R164, R166, R167): an edge at the line's pin, timestamped `t` before deskew. -/
def execAtnEvent (line : Fin 32) (rise : Bool) (t : Stamp) (s : State) : Host.Outcome State Fault Refusal :=
  let n := line.val
  let c := s.atnChannel n
  let s := s.reachTickOf t
  let real := s.realOf t
  if !(s.actBit ATN_CTRL_EN n && s.captureSees c (tickOf real) && s.time.counting) then .next s
  else
    let s := s.atnSettle n
    let x := s.atn n
    let sense := s.sense n
    if sense = 3 ∨ sense = 4 then
      let s := s.setAtn n { x with level := rise }
      .next (if s.levelHolds n && decide ((32 * x.since : Nat) ≤ real) then s.atnSend n (s.atnTargets n) else s)
    else
      let blind := match x.last with
        | some l => decide (l ≤ real) && decide (real - l < 64)
        | none => false
      if blind then .next (s.setAtn n { x with level := rise })
      else
        let s := s.setAtn n { x with level := rise, last := some real }
        let wanted := decide (sense = 2) || decide ((sense = 0) = (rise = true))
        if !wanted || decide (real < (32 * x.since : Nat)) then .next s
        else
          let ts := t + BitVec.ofInt 64 (deskew (s.act SILL_DSK_CDSK c))
          let s := s.setAtn n { s.atn n with ts := ts }
          let tg := s.atnTargets n
          let s := if tg.any (fun a => (s.atn n).pending.contains a) then
              (s.bump ATN_STAT_MISSED n).raiseFirst 0x0310 (srcOf 4 n) [n]
            else s
          .next (s.atnSend n tg)

/-- A target acknowledges a line's event (R166): under level sensing it is raised again at the next tick if the level still holds.
-/
def State.atnAck (s : State) (n : Nat) (a : AtnTarget) : State :=
  let x := s.atn n
  if x.pending.contains a then
    let s := s.setAtn n { x with pending := x.pending.filter (· ≠ a), flying := x.flying.filter (· ≠ a) }
    if s.actBit ATN_CTRL_EN n && s.levelHolds n then
      s.setAtn n { s.atn n with again := (s.atn n).again ++ [(a, s.tickNo + 1)] }
    else s
  else s

/-- A wake vector's pending bit clears (R194): its source is acknowledged. -/
def State.clearVector (s : State) (q k : Nat) : State :=
  if bitOf (s.fld SEQ_WPEND_PEND q) k then
    let s := s.setFld SEQ_WPEND_PEND q (withoutBit (s.fld SEQ_WPEND_PEND q) k)
    if s.fldI SEQ_WVEC_SRC q k = 1 then s.atnAck (s.fldI SEQ_WVEC_INDEX q k) (.seq q) else s
  else s

/-- The target of an operand. -/
def atnTargetOf (d : AtnDest) : AtnTarget :=
  match d with
  | .zone k => .zone k.val
  | .seq q => .seq q.val
  | .engine e => .engine e.val

/-- An engine's interrupt sources that are enabled pend (R504's second case); the source is the attention latch. -/
def State.enginePend (s : State) (e n : Nat) : State :=
  (s.setFld SE_ATNPEND_PEND e (withBit (s.fld SE_ATNPEND_PEND e) n)).irqCheck e

/-- ATN_DELIVERY (R165, R194, R261, R365): the event reaches a target. -/
def execAtnDelivery (line : Fin 32) (target : AtnDest) (s : State) : Host.Outcome State Fault Refusal :=
  let n := line.val
  let a := atnTargetOf target
  let s := if (s.atn n).due then s.reachTick (s.atn n).since else s
  let s := (match (s.atn n).again.find? (fun (r : AtnTarget × Nat) => decide (r.1 = a)) with
    | some r => s.reachTick r.2
    | none => s).atnSettle n
  let x := s.atn n
  if !x.flying.contains a then .next s
  else
    let s := s.setAtn n { x with flying := x.flying.filter (· ≠ a) }
    match a with
    | .zone k => .next ((s.setFld ZONE_ATNPEND_PEND k (withBit (s.fld ZONE_ATNPEND_PEND k) n)).surveyCause k .attention)
    | .engine e => .next (s.enginePend e n)
    | .seq q => if (s.vectorsOn q 1 n).isEmpty then .next (s.atnAck n a) else .next (s.pendVectors q 1 n)

/-- Sensing starts or restarts (R167): pending events clear, and no event comes for 2 ticks; under level sensing a level that holds
then raises one. -/
def State.atnRestart (s : State) (n : Nat) : State :=
  let s := s.atnForget n (s.atn n).pending
  s.setAtn n { s.atn n with since := s.tickNo + 2, due := true, again := [], level := s.pinLevel (s.atnChannel n) }

/-- What a write to a line's registers does beyond its fields; `was` is EN before it. EN takes effect at once when it sets, since
a line whose EN is clear does not run (R23, R175), and from the next tick boundary when it clears (R24). A target taken out of the
routing loses its pending event as the write lands. -/
def State.atnWrote (s : State) (n off : Nat) (was : Bool) : State :=
  let s := s.atnSettle n
  if off = 0 then
    let en := s.bit ATN_CTRL_EN n
    if en && !was then (s.setFld ATN_STAT_MISSED n 0).atnRestart n
    else if was && !en then s.atnForget n (s.atn n).pending
    else s
  else s.atnForget n ((s.atn n).pending.filter (fun a => !(targetsOf (fun f => s.fld f n)).contains a))

/-- The arm of a line (R167). -/
def State.atnArm (s : State) (n : Nat) : State :=
  let p := s.fld ATN_CTRL_PORT n
  let v := s.fld ATN_CTRL_SENSE n
  let s := s.armCopy .atn n (fun _ _ => false)
  if s.fld ATN_CTRL_PORT n = p ∧ s.fld ATN_CTRL_SENSE n = v then s else s.atnRestart n

/-- ATN.STAT.ACTIVE (R175). -/
def State.atnActive (s : State) (n : Nat) : Bool :=
  !(s.atn n).pending.isEmpty || (s.bit ATN_CTRL_EN n && s.levelHolds n)

/-- A read of ATN.TS_LO snapshots the timestamp (R164). -/
def State.snapAtn (s : State) (n : Nat) : State := s.setAtn n { s.atn n with snap := (s.atn n).ts.toNat / 2 ^ 32 }

/-- TS_LO (R164). -/
def execTsLo (_q : Fin 33) (line : Fin 32) (s : State) : Host.Outcome State Fault Refusal := .next (s.snapAtn line.val)

/-! ### The PPS channel (R53) -/

/-- PPS_EDGE (R53, R54): the edge that TIME.PPSCFG.EDGE selects, at the pin of channel CH, whose sill timestamps it `t`; an edge
that the sill's input does not see is none (DEDUCED, log entry 123). -/
def execPpsEdge (t : Stamp) (s : State) : Host.Outcome State Fault Refusal :=
  if !s.actBit TIME_PPSCFG_EN 0 || s.constOwn || !s.time.counting ||
      !s.captureSees (s.act TIME_PPSCFG_CH 0) (tickOf (s.realOf t)) then .next s
  else
    let e := ppsError t (s.act TIME_PPSOFF_OFFTICK 0)
    let old := s.time.ppsErr
    let seen := s.time.ppsSeen
    let s := s.setTime { s.time with ppsErr := e, ppsSeen := true, ppsTick := s.tickNo }
    if e.natAbs ≤ s.act TIME_PPSCFG_STEPLIM 0 * 40000 ∧ e.natAbs < 2 ^ 31 then
      .next (s.setTime { s.time with
        slewRem := -e, slewAcc := 0, trim := if seen then s.time.trim - (e - old) else s.time.trim })
    else if s.actBit TIME_PPSCFG_PPSSTEP 0 then .next (s.applyStep (BitVec.ofInt 64 (-e)))
    else .next (s.raise 0x0108 timeSrc (two (BitVec.ofInt 64 e)))

end Sys2Proof.Machine
end

