-- ==== Sys2Proof/Machine/Fabric.lean ====
section
/-! DEFINITION. What is inside a personality (R250 to R258, R262 to R267): handshake stages and their tokens, carry chains, pocket RAMs,
multipliers, the tally block, inter-zone channels, island clocks, islands and their boundary synchronisers. What a plane's routing
bytes set up is opaque (R276, log entry 111); cell masks are the bytes that R276 names. -/

namespace Sys2Proof.Machine

open Sys2Proof.F

/-! ### Plane pairs (R298) -/

/-- The active pair is B. -/
def State.activeB (s : State) (k : Nat) : Bool := s.bit ZONE_STATUS_ACTPLANE k

def Zone.plane (z : Zone) (b : Bool) : Plane := if b then z.b else z.a

def Zone.setPlane (z : Zone) (b : Bool) (p : Plane) : Zone := if b then { z with b := p } else { z with a := p }

def State.plane (s : State) (k : Nat) (shadow : Bool) : Plane := (s.zone k).plane (s.activeB k != shadow)

def State.mapPlane (s : State) (k : Nat) (shadow : Bool) (f : Plane → Plane) : State :=
  s.mapZone k (fun z => z.setPlane (s.activeB k != shadow) (f (z.plane (s.activeB k != shadow))))

/-- The mask of a cell (R276): 8 bytes of its tile's frame. -/
def Plane.cellMask (p : Plane) (n : Nat) : Nat :=
  leNat ((List.range 8).map (fun i => storeGet 0 p.data (512 * (n / 16) + 8 * (n % 16) + i)))

/-- The stage that a plane's routing sets up. -/
def Plane.stage (p : Plane) (n : Nat) : Option StageSetup :=
  Config.stage (p.data.filter (fun c => decide (128 ≤ c.1 % 512))) n

/-! ### Cells (R250, R254) -/

/-- Bits as a number, the first one lowest. -/
def bitsNum : List Bool → Nat
  | [] => 0
  | b :: t => b2n b + 2 * bitsNum t

/-- The results of a cell: one function of 6 inputs, or two of 5 that share them, the second in bit 1 (log entry 111). -/
def cellOut (mask : Nat) (two : Bool) (bits : List Bool) : Nat :=
  if two then b2n (bitOf mask (bitsNum (bits.take 5))) + 2 * b2n (bitOf mask (32 + bitsNum (bits.take 5)))
  else b2n (bitOf mask (bitsNum (bits.take 6)))

/-- The inputs of a cell, from the values of its stage's inputs and the carry that reaches it. -/
def cellBits (c : CellSetup) (vals : List Nat) (cin : Bool) : List Bool :=
  c.pins.map (fun p => match p with
    | .bit i b => bitOf (vals.getD i 0) b
    | .carry => cin)

/-- The carry segment runs from cell `p` into cell `c` (R254): through the 16 cells of a tile, and from the last of them into the
tile below; `n` cells of the chain, 256 at most, lie up to `p`. -/
def carryRuns (p n c : Nat) : Bool :=
  decide (n < 256) && (if p % 16 < 15 then decide (c = p + 1) else decide (c % 16 = 0) &&
    decide (Config.tileBelow (p / 16) = some (c / 16)))

/-- The value of a stage's latch from its cells, two bits each, the carry passing from one to the next as the carry segments run
(R254); `prev` is the cell before, how many cells of its chain lie up to it, and the carry that it passes on. -/
def chainOut (mask : Nat → Nat) (vals : List Nat) : List CellSetup → Option (Nat × Nat × Bool) → Nat
  | [], _ => 0
  | c :: t, prev =>
    let (n, cin) := match prev with
      | some (p, n, carry) => if carryRuns p n c.cell then (n + 1, carry) else (1, false)
      | none => (1, false)
    let bs := cellBits c vals cin
    let m := mask c.cell
    cellOut m c.two bs + 4 * chainOut mask vals t (some (c.cell, n, Config.carry m (bitsNum bs) cin))

/-! ### Stages and tokens (R252, R254, R301) -/

def Zone.stage (z : Zone) (n : Nat) : Stage := storeGet {} z.stages n

def State.mapStage (s : State) (k n : Nat) (f : Stage → Stage) : State :=
  s.mapZone k (fun z => { z with stages := storeSet {} z.stages n (f (z.stage n)) })

/-- The stage that the active personality of a zone sets up; none while the zone does not run (R23, R268, R316). -/
def State.stageSetup (s : State) (k n : Nat) : Option StageSetup :=
  if s.fld ZONE_STATUS_STATE k = 1 && !s.asleep then (s.plane k false).stage n else none

/-- What a stage's latch holds: its reset value while nothing has entered it (R269). -/
def State.latch (s : State) (k n : Nat) (c : StageSetup) : Nat := ((s.zone k).stage n).value.getD c.init

/-- The neighbour of a zone on a side of the 8 × 8 grid (R254, R257): 0 north, 1 east, 2 south, 3 west. -/
def neighbour (k side : Nat) : Option Nat :=
  match side with
  | 0 => if 8 ≤ k then some (k - 8) else none
  | 1 => if k % 8 < 7 then some (k + 1) else none
  | 2 => if k + 8 < 64 then some (k + 8) else none
  | _ => if 0 < k % 8 then some (k - 1) else none

/-- A token that waits in a stage for a consumer. -/
def Stage.offers (x : Stage) (n : Nat) : Bool := x.full && !x.taken.contains n

/-- What stage `n` of zone `k` finds at an input: a token's value, the level of a pin that the zone serves, or nothing. A neighbour
that does not run offers nothing (R254). -/
def State.offered (s : State) (k n : Nat) (r : StageRef) : Option Nat :=
  match r with
  | .here j => (s.stageSetup k j).bind (fun c => if ((s.zone k).stage j).offers n then some (s.latch k j c) else none)
  | .beyond side j => (neighbour k side).bind (fun z => (s.stageSetup z j).bind (fun c =>
      if ((s.zone z).stage j).full && c.outs.isEmpty then some (s.latch z j c) else none))
  | .pin p i => if edgeZone p = k then some (b2n (s.pinLevel (32 * p + i))) else none

/-- A consumer takes a token: the stage is empty once every consumer has (R252). -/
def Stage.give (x : Stage) (outs : List Nat) (n : Nat) : Stage :=
  let t := n :: x.taken
  if outs.all (fun o => t.contains o) then { x with full := false, taken := [] } else { x with taken := t }

/-- Stage `n` of zone `k` acknowledges an input. -/
def State.acknowledge (s : State) (k n : Nat) (r : StageRef) : State :=
  match r with
  | .here j => s.mapStage k j (fun x => x.give (((s.stageSetup k j).map (·.outs)).getD []) n)
  | .beyond side j =>
    match neighbour k side with
    | some z => s.mapStage z j (fun x => { x with full := false, taken := [] })
    | none => s
  | .pin _ _ => s

/-- A token enters a stage. -/
def State.enterStage (s : State) (k n v : Nat) : State :=
  s.mapStage k n (fun x => { x with full := true, value := some v, taken := [] })

/-! ### Pocket RAMs (R255, R256) -/

/-- Where a word of a pocket RAM lies in a form: slot, first bit, width. -/
def ramPlace (i form w : Nat) : Nat × Nat × Nat :=
  match form with
  | 1 => (512 * i + w % 1024 / 2, 18 * (w % 2), 18)
  | 2 => (512 * i + w % 2048 / 4, 9 * (w % 4), 9)
  | _ => (512 * i + w % 512, 0, 36)

/-- The word that an access reads. -/
def ramRead (m : Store Nat) (i form : Nat) (a : RamAccess) : Nat :=
  let (slot, lo, n) := ramPlace i form a.word
  bitsOf (storeGet 0 m slot) lo n

/-- The RAM after an access. -/
def ramWrite (m : Store Nat) (i form : Nat) (a : RamAccess) : Store Nat :=
  match a.data with
  | none => m
  | some d =>
    let (slot, lo, n) := ramPlace i form a.word
    let old := storeGet 0 m slot
    storeSet 0 m slot (old - bitsOf old lo n * 2 ^ lo + d % 2 ^ n * 2 ^ lo)

/-- The accesses of one stage cycle, port 0 first (R256): the write of port 0 stands over that of port 1, and a read returns new
data. -/
def ramCycle (m : Store Nat) (i : Nat) (l : List (Nat × RamAccess)) : Store Nat × List Nat :=
  let m := l.foldr (fun a m => ramWrite m i a.1 a.2) m
  (m, l.map (fun a => ramRead m i a.1 a.2))

/-- The stage of a port of a pocket RAM. -/
def ramStage (i p : Nat) : Nat := 4096 + 2 * i + p

/-- The access that a port's stage can make now: it is empty and its input offers a token. -/
def State.ramReady (s : State) (k i p : Nat) : Option (StageRef × Nat × RamAccess) :=
  (s.stageSetup k (ramStage i p)).bind (fun c =>
    if ((s.zone k).stage (ramStage i p)).full then none
    else c.ins.head?.bind (fun r => (s.offered k (ramStage i p) r).bind (fun v =>
      (Config.ramAccess v).map (fun a => (r, c.form, a)))))

/-- One stage cycle of pocket RAM `i` for the ports of a list. -/
def State.ramGo (s : State) (k i : Nat) (ports : List Nat) : State :=
  let l := ports.filterMap (fun p => (s.ramReady k i p).map (fun a => (p, a)))
  let (m, outs) := ramCycle (s.zone k).pocket i (l.map (·.2.2))
  let s := l.foldl (fun s a => s.acknowledge k (ramStage i a.1) a.2.1) (s.mapZone k (fun z => { z with pocket := m }))
  (l.zip outs).foldl (fun s a => s.enterStage k (ramStage i a.1.1) a.2) s

/-! ### Multipliers and the tally block (R255) -/

/-- An operand of 18 bits. -/
def operand18 (signed : Bool) (v : Nat) : Int := if signed then signedOf 18 (v % 2 ^ 18) else ((v % 2 ^ 18 : Nat) : Int)

/-- A sum that the accumulator's 48 bits hold. -/
def fits48 (signed : Bool) (x : Int) : Bool :=
  if signed then decide (-(2 ^ 47 : Int) ≤ x) && decide (x < 2 ^ 47) else decide (0 ≤ x) && decide (x < 2 ^ 48)

/-- A product enters the stage: 36 bits, or with accumulation the 48 bits of the sum; a sum beyond them is a free value. -/
def State.multiply (s : State) (k n : Nat) (c : StageSetup) (a b : Nat) : State :=
  let p := operand18 c.signed a * operand18 c.signed b
  if !c.accumulate then s.enterStage k n (wrapOf 36 p)
  else
    let old := ((s.zone k).stage n).held.getD c.init
    let x := (if c.signed then signedOf 48 old else (old : Int)) + p
    let (v, s) := if fits48 c.signed x then (wrapOf 48 x, s) else (let (f, s) := s.freeNat; (f % 2 ^ 48, s))
    (s.mapStage k n (fun y => { y with held := some v })).enterStage k n v

/-- A CRC register of `w` bits takes one data bit (R255): the remainder of the division by a polynomial, its highest power
outside. -/
def crcBit (w poly : Nat) (crc : Nat) (d : Bool) : Nat :=
  let x := 2 * crc % 2 ^ w
  if bitOf crc (w - 1) != d then Nat.xor x (poly % 2 ^ w) else x

/-- A CRC register takes 32 data bits. -/
def crcWord (w poly crc : Nat) (d : BitVec 32) : Nat :=
  ((List.range 32).map (fun i => d.getLsbD (if Config.crcHighFirst then 31 - i else i))).foldl (crcBit w poly) crc

/-- What the tally block shows: counter, CRC, equal, below. -/
def Tally.shows (t : Tally) : Nat :=
  t.count + 2 ^ 48 * t.crc + 2 ^ 80 * b2n (decide (t.count = t.target)) + 2 ^ 81 * b2n (decide (t.count < t.target))

/-- The tally block takes a token; a count beyond its 48 bits is a free value. -/
def State.tallyGo (s : State) (k n : Nat) (c : StageSetup) (op : TallyOp) : State :=
  let t := (s.zone k).tally
  let (t, s) : Tally × State := match op with
    | .up => if t.count + 1 < 2 ^ 48 then ({ t with count := t.count + 1 }, s)
        else (let (f, s) := s.freeNat; ({ t with count := f % 2 ^ 48 }, s))
    | .down => if 0 < t.count then ({ t with count := t.count - 1 }, s)
        else (let (f, s) := s.freeNat; ({ t with count := f % 2 ^ 48 }, s))
    | .load v => ({ t with target := v.toNat }, s)
    | .crc d => ({ t with crc := crcWord (min 32 c.width) c.poly t.crc d % 2 ^ min 32 c.width }, s)
  (s.mapZone k (fun z => { z with tally := t })).enterStage k n t.shows

/-! ### Firing (R250, R252) -/

/-- What a stage of zone `k` computes from its inputs, entered into it. -/
def State.compute (s : State) (k n : Nat) (c : StageSetup) (vals : List Nat) : State :=
  if n < 4096 then s.enterStage k n (chainOut (s.plane k false).cellMask vals c.cells none)
  else if n = 4104 ∨ n = 4105 then s.multiply k n c (vals.getD 0 0) (vals.getD 1 0)
  else if n = 4106 then
    match Config.tallyOp (vals.getD 0 0) with
    | some op => s.tallyGo k n c op
    | none => s.enterStage k n (s.zone k).tally.shows
  else s.enterStage k n (vals.getD 0 0)

/-- What the routing bytes of a zone's active plane give a pin of a port that the zone serves (R257). -/
def State.fabPin (s : State) (k p i : Nat) : Option FabPin :=
  if edgeZone p = k then Config.fabPin ((s.plane k false).data.filter (fun c => decide (128 ≤ c.1 % 512))) p i else none

/-- The pins of a zone's ports that its personality drives. -/
def State.fabPins (s : State) (k : Nat) : List (Nat × Nat × FabPin) :=
  ((List.range 32).filter (fun p => decide (edgeZone p = k))).flatMap (fun p =>
    (List.range 32).filterMap (fun i => (s.fabPin k p i).map (fun f => (p, i, f))))

/-- A pin takes the token of a stage that gives it its level or enable and has no other consumer (R148, R252). -/
def State.pinTakes (s : State) (k n : Nat) (c : StageSetup) : State :=
  if c.outs.isEmpty && (s.fabPins k).any (fun f => decide (f.2.2.stage = n) || decide (f.2.2.enable.map (·.1) = some n)) then
    s.mapStage k n (fun x => { x with full := false, taken := [] })
  else s

/-- A bit of a stage's latch. -/
def State.latchBit (s : State) (k n b : Nat) : Bool := bitOf (((s.stageSetup k n).map (s.latch k n)).getD 0) b

/-- The pins that a zone's personality drives show what its stages hold now (R148, R257); what they showed in the last 24 ticks is
kept. -/
def State.fabShow (s : State) (k : Nat) : State :=
  (s.fabPins k).foldl (fun s f =>
    let l := s.latchBit k f.2.2.stage f.2.2.bit
    let e := match f.2.2.enable with
      | some (n, b) => s.latchBit k n b
      | none => true
    let c := 32 * f.1 + f.2.1
    let old := storeGet [] (s.zone k).pins c
    if (old.head?.map (·.2)) = some (l, e) then s
    else
      let recent := old.filter (fun h => decide (s.tickNo < h.1 + 24))
      let base := (old.filter (fun h => !decide (s.tickNo < h.1 + 24))).take 1
      s.mapZone k (fun z => { z with pins := storeSet [] z.pins c ((s.tickNo, l, e) :: recent ++ base) })) s

/-- A self-timed stage completes, if it is empty and every input offers a token (R252): it takes them and holds the result. A stage
of clocked-register mode, or one that hands an island's values out, moves with its clock. `both` has the two ports of a pocket RAM
share the stage cycle. -/
def State.fire (s : State) (k n : Nat) (both : Bool) : State :=
  if 4096 ≤ n ∧ n < 4104 then s.ramGo k ((n - 4096) / 2) (if both then [0, 1] else [n % 2])
  else
    match s.stageSetup k n with
    | none => s
    | some c =>
      if ((s.zone k).stage n).full || (c.net.isSome && (decide (n < 4107) || c.out)) then s
      else
        match c.ins.mapM (s.offered k n) with
        | none => s
        | some vals => ((c.ins.foldl (fun s r => s.acknowledge k n r) s).compute k n c vals).pinTakes k n c

/-! ### Island clocks (R262, R263, R265, R267) -/

/-- The fields of an island clock network. -/
def iclkFields (i : Nat) : Fld × Fld × Fld :=
  if i = 0 then (ZONE_ICLK_0_SRC, ZONE_ICLK_0_MSEL, ZONE_ICLK_0_DIV) else (ZONE_ICLK_1_SRC, ZONE_ICLK_1_MSEL, ZONE_ICLK_1_DIV)

/-- The minimum period of a network, in 100 ps. -/
def State.iclkMin (s : State) (k i : Nat) : Nat := if i = 0 then s.fld ZONE_IMIN_MIN0 k else s.fld ZONE_IMIN_MIN1 k

/-- A run is under way at tick `t`. -/
def ClockRun.at (r : ClockRun) (t : Nat) : Bool :=
  (match r.start with
  | some a => decide (a ≤ t)
  | none => false) &&
  (match r.stop with
  | some e => decide (t < e)
  | none => true)

/-- The source of a run gives a clock now (R65, R66, R262, R267): of an MPLL whose EN has cleared, until its next falling edge. -/
def State.sourceRuns (s : State) (r : ClockRun) : Bool :=
  match r.src with
  | 1 => s.time.counting
  | 2 => (s.bit MPLL_CTRL_EN r.msel || decide (s.tickNo < (s.mpll r.msel).lowAt)) && s.bit MPLL_CTRL_GOUT r.msel &&
      decide (s.fld MPLL_GUARD_TGUARD r.msel ≠ 0)
  | _ => false

/-- The runs of a network. -/
def IslandClock.runs (c : IslandClock) : List ClockRun := c.old.toList ++ c.run.toList

/-- ICLKnRUN (R267, R316): the network's clock runs. -/
def State.iclkRuns (s : State) (k i : Nat) : Bool :=
  decide (s.fld ZONE_STATUS_STATE k ≠ 3) && ((s.zone k).clock i).runs.any (fun r => r.at s.tickNo && s.sourceRuns r)

/-- A divided clock is high (R263): for DIV ÷ 2 ticks, rounded down, from each rising edge on. -/
def ClockRun.high (r : ClockRun) (t : Nat) : Bool :=
  r.at t && decide ((t - r.start.getD 0) % r.div < r.div / 2)

/-- The level of an island clock network; none where a guarded MPLL gives it. -/
def State.iclkLevel (s : State) (k i : Nat) : Option Bool :=
  if !s.iclkRuns k i then some false
  else
    match ((s.zone k).clock i).runs.find? (fun r => r.at s.tickNo) with
    | some r => if r.src = 1 then some (r.high s.tickNo) else none
    | none => some false

/-- Rising edges of a divided clock after tick `a`, up to tick `b`. -/
def ClockRun.rises (r : ClockRun) (a b : Nat) : Nat :=
  match r.start with
  | none => 0
  | some t0 =>
    let upTo (t : Nat) : Nat := if t0 ≤ t then (t - t0) / r.div + 1 else 0
    let b := match r.stop with
      | some e => min b (e - 1)
      | none => b
    upTo b - upTo a

/-- The tick of the first falling edge of a run after tick `t`, where the time clock gives it. -/
def ClockRun.fallAfter (r : ClockRun) (t : Nat) : Option Nat :=
  match r.start with
  | none => none
  | some t0 =>
    let h := r.div / 2
    if t < t0 + h then some (t0 + h) else some (t0 + h + ((t - t0 - h) / r.div + 1) * r.div)

/-- The old run of a network ends (R265, step 1): at its next falling edge, or at once where it gives no edge. Where a guarded MPLL
gives the edges, the tick is a free value. -/
def State.stopRun (s : State) (r : ClockRun) : Option ClockRun × Nat × State :=
  if !s.sourceRuns r then (none, s.tickNo, s)
  else if r.src = 2 then
    let (f, s) := s.freeNat
    (some { r with stop := some (s.tickNo + f) }, s.tickNo + f, s)
  else
    match r.start, r.fallAfter s.tickNo with
    | some t0, some e => if t0 ≤ s.tickNo then (some { r with stop := some e }, e, s) else (none, s.tickNo, s)
    | _, _ => (none, s.tickNo, s)

/-- A network starts from a source (R265): from a tick on that lies at least half the minimum period after the stop, at the next
rising edge. How much longer it waits is a free value. -/
def State.startRun (s : State) (k i src msel div stop : Nat) : Option ClockRun × State :=
  if src ≠ 1 ∧ src ≠ 2 then (none, s)
  else
    let (f, s) := s.freeNat
    let t := max stop s.tickNo + (s.iclkMin k i + 15) / 16 + f
    if src = 2 then (some { src := 2, msel := msel, div := div, start := some t }, s)
    else (some { src := 1, msel := msel, div := div, start := if s.time.counting then some (s.riseFrom div t) else none }, s)

/-- A change of a network's source takes effect (R265). A change while an earlier one is under way goes on from it. -/
def State.iclkChange (s : State) (k i src msel div : Nat) : State :=
  let c := (s.zone k).clock i
  let oldRun := c.old.filter (fun r => r.at s.tickNo)
  let begun := c.run.filter (fun r => r.at s.tickNo)
  match begun, oldRun with
  | some r, _ =>
    let (old, stop, s) := s.stopRun r
    let (run, s) := s.startRun k i src msel div stop
    s.mapClock k i (fun _ => { old := old, run := run })
  | none, old =>
    let stop := (c.old.bind (·.stop)).getD s.tickNo
    let (run, s) := s.startRun k i src msel div stop
    s.mapClock k i (fun _ => { old := old, run := run })

/-! ### Islands (R250, R266, R267) -/

/-- What an island's cell finds at an input: an island register, or what a boundary synchroniser shows. -/
def State.islandValue (s : State) (k : Nat) (r : StageRef) : Nat :=
  match r with
  | .here j =>
    match s.stageSetup k j with
    | none => 0
    | some c => if 4107 ≤ j then ((s.zone k).stage j).held.getD c.init else s.latch k j c
  | .beyond _ _ => 0
  | .pin p i => if edgeZone p = k then b2n (s.pinLevel (32 * p + i)) else 0

/-- The cells of an island and its boundary synchronisers, by what crosses: 0 cells, 1 into the island, 2 out of it. -/
def State.islandStages (s : State) (k i sort : Nat) : List (Nat × StageSetup) :=
  (List.range 8192).filterMap (fun n => (s.stageSetup k n).bind (fun c =>
    if c.net.map (·.val) = some i ∧ sort = (if n < 4107 then 0 else if c.out then 2 else 1) then some (n, c) else none))

/-- A synchroniser passes its token on to the island, or takes a value out of it, at a rising edge; at which of the edges within
the bound of R266 is a free value. -/
def State.synchronise (s : State) (k n : Nat) (v : Option Nat) : State :=
  let (f, s) := s.freeNat
  if f % 2 = 0 then s
  else
    match v with
    | some v => if ((s.zone k).stage n).full then s else s.enterStage k n v
    | none => s.mapStage k n (fun x => if x.full then { x with full := false, taken := [], held := x.value } else x)

/-- A rising edge of an island clock (R250, R266): every register of the island takes its cells' result, all from the values
before the edge; then the boundary synchronisers cross. -/
def State.islandEdge (s : State) (k i : Nat) : State :=
  let cells := s.islandStages k i 0
  let next := cells.map (fun c => (c.1, chainOut (s.plane k false).cellMask (c.2.ins.map (s.islandValue k)) c.2.cells none))
  let outs := (s.islandStages k i 2).map (fun c => (c.1, some (s.islandValue k (c.2.ins.headD (.here 0)))))
  let ins := (s.islandStages k i 1).map (fun c => (c.1, (none : Option Nat)))
  let s := next.foldl (fun s v => s.mapStage k v.1 (fun x => { x with value := some v.2 })) s
  (ins ++ outs).foldl (fun s v => s.synchronise k v.1 v.2) s

/-- Do something `n` times. -/
def State.times (f : State → State) : Nat → State → State
  | 0, s => s
  | n + 1, s => State.times f n (f s)

/-- Rising edges that a guarded MPLL gives a run in the ticks from `a` up to `b` (R64): a free number of them, each at least
TGUARD after the one before it; after EN has cleared at most one more, before the falling edge at which the output stops (R66). -/
def State.guardedEdges (s : State) (r : ClockRun) (a b : Nat) : Nat × ClockRun × State :=
  let x := s.mpll r.msel
  let on := s.bit MPLL_CTRL_EN r.msel
  let g := s.fld MPLL_GUARD_TGUARD r.msel
  let a := if on then a else max a x.cleared
  let b := if on then b else min b x.lowAt
  let lo := max (8 * a) ((r.last.map (· + g)).getD 0)
  let done := !on && (match r.last with
    | some l => decide (8 * x.cleared ≤ l)
    | none => false)
  if 8 * b ≤ lo ∨ g = 0 ∨ s.bit MPLL_CTRL_GOUT r.msel = false ∨ done = true then (0, r, s)
  else
    let most := (8 * b - 1 - lo) / g + 1
    let (f, s) := s.freeNat
    let n := f % ((if on then most else 1) + 1)
    if n = 0 then (0, r, s)
    else
      let first := lo + (n - 1) * g
      let (f, s) := s.freeNat
      (n, { r with last := some (first + f % (8 * b - first)) }, s)

/-- Rising edges of a run of a network since the last ones were run, as far as the run reaches into that time (R262, R265). -/
def State.runEdges (s : State) (k : Nat) (r : ClockRun) : Nat × ClockRun × State :=
  let from_ := (s.zone k).clocked
  if r.src = 1 then (r.rises from_ s.tickNo, r, s)
  else
    match r.start with
    | none => (0, r, s)
    | some t => s.guardedEdges r (max from_ t) (match r.stop with
        | some e => min e s.tickNo
        | none => s.tickNo)

/-- Rising edges of a network since the last ones were run; while a survey has the zone its clocks stand still (R316). -/
def State.newEdges (s : State) (k i : Nat) : Nat × State :=
  if s.fld ZONE_STATUS_STATE k = 3 then (0, s)
  else
    let c := (s.zone k).clock i
    let (a, old, s) := match c.old with
      | some r => (let (a, r, s) := s.runEdges k r; (a, some r, s))
      | none => (0, none, s)
    let (b, run, s) := match c.run with
      | some r => (let (b, r, s) := s.runEdges k r; (b, some r, s))
      | none => (0, none, s)
    (a + b, s.mapClock k i (fun _ => { old := old, run := run }))

/-- The islands of a zone are brought up to the present. -/
def State.islandSettle (s : State) (k : Nat) : State :=
  let s := [0, 1].foldl (fun s i =>
    let (n, s) := s.newEdges k i
    State.times (fun s => s.islandEdge k i) n s) s
  s.mapZone k (fun z => { z with clocked := s.tickNo })

/-- Every zone's islands are brought up to the present. -/
def State.islandsSettle (s : State) : State := s.zones.foldl (fun s c => s.islandSettle c.1) s

/-! ### The fabric's own moves -/

/-- A zone in RUN moves: its islands' edges come, and stages complete, as many of them and in an order that nothing fixes (R252; log
entry 112). -/
def State.zoneMoves (s : State) (k : Nat) : State :=
  if s.fld ZONE_STATUS_STATE k ≠ 1 || s.asleep then s
  else
    let s := s.islandSettle k
    let (n, s) := s.freeNat
    (State.times (fun s =>
      let (f, s) := s.freeNat
      s.fire k (f / 2) (decide (f % 2 = 1))) n s).fabShow k

/-- The zones move on. -/
def State.fabricMoves (s : State) : State := s.zones.foldl (fun s c => s.zoneMoves c.1) s

/-- What a reset or a swap does inside a zone (R269, R299): every stage is empty, every latch and island register at its reset
value, the tally block clear. -/
def State.emptyStages (s : State) (k : Nat) : State :=
  s.mapZone k (fun z => { z with stages := [], tally := {}, clocked := s.tickNo })

end Sys2Proof.Machine
end

