-- ==== Sys2Proof/Machine/Image.lean ====
section
/-! DEFINITION. Images and their eight checks: R273 to R281. An image is read through a function from image offsets to
bytes. -/

namespace Sys2Proof.Machine

/-- `n` bytes of an image from an offset. -/
def imgBytes (rd : Nat → Byte) (a n : Nat) : List Byte := (List.range n).map (fun i => rd (a + i))

/-- A little-endian field of an image. -/
def imgNum (rd : Nat → Byte) (a n : Nat) : Nat := leNat (imgBytes rd a n)

def imgMask (rd : Nat → Byte) : Nat := imgNum rd 16 8

/-- The zones of a mask, ascending. -/
def maskZones (m : Nat) : List Nat := (List.range 64).filter (bitOf m)

/-- Frames of an image with a zone mask (R273). -/
def imgFrames (m : Nat) : Nat := 276 * (maskZones m).length

/-- Length of an image in bytes (R278). -/
def imgLength (m : Nat) : Nat := 256 + 528 * imgFrames m + 64

/-- Offset of frame record `i` (R274, R275). -/
def frameAt (i : Nat) : Nat := 256 + 528 * i

/-- What a use of an image requires (R280): its number in R280's list, whether KIND must be full, the zones permitted,
the bytes from the header to the end of the source, and the digest that the selector records, if the use compares it. -/
structure ImgUse where
  use : Nat
  full : Bool := false
  perm : Nat
  size : Nat
  digest : Option (List Byte) := none

/-- A failed check: step of R279, record code, detail. -/
structure ImgFail where
  step : Nat
  code : Nat
  detail : List Nat
  deriving DecidableEq, Repr

/-- The first byte offset of the header that breaks step 2 (R279). -/
def imgForm (rd : Nat → Byte) (full : Bool) : Option Nat :=
  let kind := imgNum rd 6 2
  if imgNum rd 0 4 ≠ 0x53544C31 then some 0
  else if imgNum rd 4 2 ≠ 1 then some 4
  else if kind ≠ 1 ∧ kind ≠ 2 then some 6
  else if full = true ∧ kind ≠ 1 then some 6
  else if imgMask rd = 0 then some 16
  else if 2 ≤ imgNum rd 24 4 then some 24
  else (List.range 188).findSome? (fun i => if rd (64 + i) = 0 then none else some (64 + i))

/-- Steps 1 to 4 (R279, R280); none when they pass. -/
def imgHead (rd : Nat → Byte) (u : ImgUse) (addr : Nat) : Option ImgFail :=
  if crc32c (imgBytes rd 0 252) ≠ imgNum rd 252 4 then some ⟨1, 0x0501, [u.use, addr]⟩
  else
    match imgForm rd u.full with
    | some off => some ⟨2, 0x0502, [u.use, 2 ^ 31 + off]⟩
    | none =>
      if imgNum rd 8 4 ≠ 0x51024B01 then some ⟨3, 0x0503, [u.use, imgNum rd 8 4]⟩
      else
        let bad := imgMask rd - Nat.land (imgMask rd) u.perm
        if bad ≠ 0 then some ⟨4, 0x0504, [u.use, bad % 2 ^ 32, bad / 2 ^ 32]⟩ else none

/-- FKIND and INDEX that R275 expects at a place within a zone's 276 frames. -/
def frameKind (j : Nat) : Nat × Nat := if j < 2 then (2, j) else if j < 258 then (0, j - 2) else (1, j - 258)

/-- ROUTESUM over the FCRC fields of a zone's tile frames (R277); `i` is the zone's first frame. -/
def routesum (rd : Nat → Byte) (i : Nat) : Nat :=
  crc32c ((List.range 256).flatMap (fun t => imgBytes rd (frameAt (i + 2 + t) + 520) 4))

/-- Steps 5 and 6 on frame record `i`, or step 7 where the record lies beyond the source (R279). -/
def imgFrame (rd : Nat → Byte) (size m i : Nat) : Option ImgFail :=
  let a := frameAt i
  let z := (maskZones m).getD (i / 276) 0
  let j := i % 276
  let addr := imgNum rd a 8
  if size < a + 528 then some ⟨7, 0x0508, [i]⟩
  else if !bitOf m (rd a).toNat || decide (64 ≤ (rd a).toNat) then some ⟨5, 0x0505, [imgNum rd (a + 4) 4, (rd a).toNat]⟩
  else if (rd a).toNat ≠ z ∨ (rd (a + 1)).toNat ≠ (frameKind j).1 ∨ imgNum rd (a + 2) 2 ≠ (frameKind j).2 ∨
      imgNum rd (a + 4) 4 ≠ i then
    some ⟨5, 0x0506, [imgNum rd (a + 4) 4, addr % 2 ^ 32, addr / 2 ^ 32]⟩
  else if crc32c (imgBytes rd a 520) ≠ imgNum rd (a + 520) 4 then some ⟨6, 0x0507, [i, z, 1]⟩
  else if j = 257 ∧ routesum rd (i - 257) ≠ imgNum rd (frameAt (i - 257) + 12) 4 then some ⟨6, 0x0507, [i, z, 2]⟩
  else if j = 0 ∧ imgNum rd (a + 8) 4 = 0 then some ⟨6, 0x0507, [i, z, 3]⟩
  else none

/-- Step 7 (R278, R279). -/
def imgTail (rd : Nat → Byte) (size m : Nat) : Bool :=
  let a := 256 + 528 * imgFrames m
  decide (imgNum rd 12 4 = imgFrames m) && decide (a + 64 ≤ size) && decide (imgNum rd a 4 = 0x53544C54) &&
    decide (imgNum rd (a + 4) 4 = imgFrames m) && decide (imgNum rd (a + 8) 8 = imgLength m) &&
    (imgBytes rd (a + 16) 44).all (· == 0) && decide (crc32c (imgBytes rd a 60) = imgNum rd (a + 60) 4)

/-- SHA-256 of the body. -/
def imgDigest (rd : Nat → Byte) (m : Nat) : List Byte := sha256 (imgBytes rd 256 (528 * imgFrames m))

/-- Steps 7 and 8: with a recorded digest, the header's DIGEST is compared with it (R288); otherwise it is computed. -/
def imgEnd (rd : Nat → Byte) (u : ImgUse) : Option ImgFail :=
  let m := imgMask rd
  if !imgTail rd u.size m then some ⟨7, 0x0508, [imgFrames m]⟩
  else if (match u.digest with
      | some d => d
      | none => imgDigest rd m) ≠ imgBytes rd 32 32 then some ⟨8, 0x0509, [u.use]⟩
  else none

/-- All eight checks in order (R279): the first failure. -/
def imgCheck (rd : Nat → Byte) (u : ImgUse) (addr : Nat) : Option ImgFail :=
  match imgHead rd u addr with
  | some f => some f
  | none =>
    match (List.range (imgFrames (imgMask rd))).findSome? (imgFrame rd u.size (imgMask rd)) with
    | some f => some f
    | none => imgEnd rd u

/-- The payload of frame record `i`. -/
def framePayload (rd : Nat → Byte) (i : Nat) : List Byte := imgBytes rd (frameAt i + 8) 512

end Sys2Proof.Machine
end

