-- ==== Sys2Proof/Machine/Flash.lean ====
section
/-! DEFINITION. The flash array, the journal, the selector and the OTP row: R386 to R410. -/

namespace Sys2Proof.Machine

open Sys2Proof.F

/-! ### The array (R386, R387, R399) -/

/-- Global block `b` is undefined (FLASH.UNDEF). -/
def State.undef (s : State) (b : Nat) : Bool := bitOf (s.fldI FLASH_UNDEF_MAP 0 (b / 32)) (b % 32)

def State.setUndef (s : State) (b : Nat) (x : Bool) : State :=
  let v := s.fldI FLASH_UNDEF_MAP 0 (b / 32)
  s.setFldI FLASH_UNDEF_MAP 0 (b / 32) (if x then withBit v (b % 32) else withoutBit v (b % 32))

/-- Page `p` (of the whole array) holds no definite data. -/
def State.pageWild (s : State) (p : Nat) : Bool := s.flash.wild.contains p || s.undef (p / 256)

/-- The byte at a flash address: of a page of undefined content, a free value. -/
def State.flashByte (s : State) (a : Nat) : Byte :=
  if s.pageWild (a / 512) then (Config.freeWord (s.free + a)).setWidth 8 else storeGet 0xFF s.flash.mem a

/-- The free values that a reading of the array may have used are used up. -/
def State.flashRead (s : State) : State := { s with free := s.free + 2 ^ 25 }

/-- Count what the ECC of a reading found (R388): `corr` units corrected, `uncorr` not, the first of them at `first`. -/
def State.eccCount (s : State) (corr uncorr first reader : Nat) : State :=
  let s := s.setFld FLASH_ECC_CORR 0 (satAdd 16 (s.fld FLASH_ECC_CORR 0) corr)
  if uncorr = 0 then s
  else (s.setFld FLASH_ECC_UNCORR 0 (satAdd 16 (s.fld FLASH_ECC_UNCORR 0) uncorr)).raise 0x0902 (srcOf 13 0) [first, reader]

/-- What the ECC finds in a reading of `n` bytes from `a` on (R388): units corrected, units not, the address of the first of
those. -/
def State.eccFound (s : State) (a n : Nat) : Nat × Nat × Nat :=
  let l := s.flaws.filter (fun x => x.flash && decide (a < x.addr + 8) && decide (x.addr < a + n))
  let bad := l.filter (fun x => x.bad)
  ((l.filter (fun x => !x.bad)).length, bad.length, bad.foldl (fun m x => min m x.addr) (a + n))

/-- The supervisor has read pieces of the array, each an address and a length (R388): what the ECC found counts, and the free
values that the reading may have used are used up. -/
def State.arrayRead (s : State) (l : List (Nat × Nat)) : State :=
  l.foldl (fun s p => s.eccCount (s.eccFound p.1 p.2).1 (s.eccFound p.1 p.2).2.1 (s.eccFound p.1 p.2).2.2 (agent 5 32)) s.flashRead

/-- Bytes of the array. -/
def State.flashBytes (s : State) (a n : Nat) : List Byte := (List.range n).map (fun i => s.flashByte (a + i))

/-- Write bytes into the array, where an unlisted byte is 0xFF. -/
def flashPut (m : Store Byte) (a : Nat) : List Byte → Store Byte
  | [] => m
  | b :: t => flashPut (storeSet 0xFF m a b) (a + 1) t

/-- Units of the flash are written anew: those that `gone` names hold no error. -/
def State.mend (s : State) (gone : Nat → Bool) : State := { s with flaws := s.flaws.filter (fun x => !(x.flash && gone x.addr)) }

/-- Erase global block `b`. -/
def State.eraseBlock (s : State) (b : Nat) : State :=
  (s.mend (fun a => decide (a / 131072 = b))).mapFlash (fun f => { f with
    mem := f.mem.filter (fun c => decide (c.1 / 131072 ≠ b))
    wild := f.wild.filter (fun p => decide (p / 256 ≠ b))
    pages := storeErase f.pages b
    params := if b = 7 ∨ b = 15 then f.params.filter (fun c => decide (c.1 / 16 ≠ b / 8)) else f.params })

/-- Program page `p` (R387): out of turn it holds undefined data, and so may the earlier pages of its block. -/
def State.programPage (s : State) (p : Nat) (d : List Byte) : State :=
  let b := p / 256
  let next := storeGet 0 s.flash.pages b
  if next ≤ p % 256 then
    (s.mend (fun a => decide (a / 512 = p))).mapFlash (fun f =>
      { f with mem := flashPut f.mem (512 * p) d, pages := storeSet 0 f.pages b (p % 256 + 1) })
  else
    s.mapFlash (fun f => { f with
      wild := f.wild.filter (fun x => decide (x / 256 ≠ b)) ++
        ((List.range (max next (p % 256 + 1))).map (fun i => 256 * b + i)) })

/-- Program pages from `p` on. -/
def State.programPages (s : State) (p : Nat) (d : List Byte) : Nat → State
  | 0 => s
  | n + 1 => (s.programPage p (d.take 512)).programPages (p + 1) (d.drop 512) n

/-- Bytes of the Caldera as the supervisor reads them: a group that is OFF reads 0 (R340). -/
def State.calderaImage (s : State) (addr : Nat) : Nat → Byte := fun a =>
  if s.group (groupOf (addr + a)) = 2 then 0 else storeGet 0 s.caldera (addr + a)

/-! ### Banks (R393, R396, R412) -/

def State.bank (s : State) (b : Nat) : FlashBank := storeGet {} s.flash.banks b

/-- An erase of global block `b` runs or is suspended. -/
def State.eraseOpen (s : State) (b : Nat) : Bool :=
  let k := s.bank (b / 64)
  (decide (k.op = 3) && decide (k.block = b % 64)) || (match k.held with
    | some h => decide (h.block = b % 64)
    | none => false)

/-- The supervisor can program a page of bank 3 now, where the journal and the selector lie (R393): nothing runs there, or its own
work, which gives way. -/
def State.pageOpen (s : State) : Bool := decide ((s.bank 3).op = 0) || (s.bank 3).own

/-- A journal record can be written now; a rollover erases in bank 3, which a suspended erase holds up (R397). -/
def State.journalOpen (s : State) : Bool := s.pageOpen && (decide (s.flash.jpage < 256) || (s.bank 3).held.isNone)

/-- The next selector record can be written now; page 0 of a block is preceded by its erase (R403). -/
def State.selOpen (s : State) : Bool :=
  s.pageOpen && (decide ((s.fld FLASH_SELSEQ_SEQ 0 + 1) / 2 % 256 ≠ 0) || (s.bank 3).held.isNone)

/-- The whole array is being erased before the level becomes 0 (R411). -/
def State.wiping (s : State) : Bool := s.flash.jobs.any (fun j => match j.fin with
  | .wipe _ => true
  | _ => false)

/-! ### The selector (R402, R403) -/

/-- A selector record. `wear` is the 384 bytes of its wear counters, `undefMap` the 256-bit map. -/
structure Selector where
  seq : Nat
  actboot : Nat
  flags : Nat
  primary : Nat
  alternate : Nat
  pdigest : List Byte
  adigest : List Byte
  jepoch : Nat
  wear : List Byte
  undefMap : Nat
  deriving DecidableEq, Repr

/-- `n` bytes of a list from `a`. -/
def piece (l : List Byte) (a n : Nat) : List Byte := (l.drop a).take n

/-- A little-endian number in a list. -/
def pieceNum (l : List Byte) (a n : Nat) : Nat := leNat (piece l a n)

/-- The record that a page spells. -/
def selParse (l : List Byte) : Selector where
  seq := pieceNum l 4 4
  actboot := pieceNum l 8 1
  flags := pieceNum l 9 1
  primary := pieceNum l 12 2
  alternate := pieceNum l 14 2
  pdigest := piece l 16 32
  adigest := piece l 48 32
  jepoch := pieceNum l 80 4
  wear := piece l 84 384
  undefMap := pieceNum l 468 32

/-- The page that a record fills. -/
def selBytes (x : Selector) : List Byte :=
  let l := leBytes 4 0x53454C52 ++ leBytes 4 x.seq ++ leBytes 1 x.actboot ++ leBytes 1 x.flags ++ leBytes 2 0 ++
    leBytes 2 x.primary ++ leBytes 2 x.alternate ++ x.pdigest ++ x.adigest ++ leBytes 4 x.jepoch ++ x.wear ++
    leBytes 32 x.undefMap ++ leBytes 8 0
  l ++ leBytes 4 (crc32c l)

/-- A page holds a valid selector record. -/
def selOk (l : List Byte) : Bool := decide (pieceNum l 0 4 = 0x53454C52) && decide (crc32c (l.take 508) = pieceNum l 508 4)

/-- A page of the array; pages of undefined content read differently twice and give nothing (R401). -/
def State.pageOf (s : State) (p : Nat) : List Byte := if s.pageWild p then [] else s.flashBytes (512 * p) 512

/-- The page of the selector record with the highest SEQ (R403). -/
def State.selFind (s : State) : Option Nat :=
  (((List.range 512).map (fun i => 192 * 256 + i)).filter (fun p => selOk (s.pageOf p))).foldl (fun best p =>
    match best with
    | none => some p
    | some b => if (selParse (s.pageOf b)).seq < (selParse (s.pageOf p)).seq then some p else some b) none

/-- The record in force; none under a recovery loader that found none. -/
def State.selector (s : State) : Option Selector :=
  if s.flash.sel = 0 then none else some (selParse (s.pageOf s.flash.sel))

/-- Write the next selector record (R403): it is in force from its completion. -/
def State.selWrite (s : State) (x : Selector) : State :=
  let seq := x.seq + 1
  let b := 192 + seq % 2
  let p := seq / 2 % 256
  let s := if p = 0 then s.eraseBlock b else s
  let s := (s.programPage (256 * b + p) (selBytes { x with seq := seq })).mapFlash (fun f => { f with sel := 256 * b + p })
  (s.setFld FLASH_SELSEQ_SEQ 0 seq).setFld FLASH_STATUS_ACTBOOT 0 x.actboot

/-! ### The journal (R398) -/

/-- The wear count of a zone's plane as ZONE.WEAR_A or WEAR_B shows it. -/
def State.wearOf (s : State) (z : Nat) (planeB : Bool) : Nat :=
  if planeB then s.fld ZONE_WEAR_B_COUNT z else s.fld ZONE_WEAR_A_COUNT z

/-- The wear map brought up to date, 24 bits a counter. -/
def State.wearMap (s : State) : List Byte :=
  (List.range 64).flatMap (fun z => leBytes 3 (s.wearOf z false) ++ leBytes 3 (s.wearOf z true))

/-- The undefined map brought up to date: with it go the blocks whose ERASE_INTENT the rollover takes from the journal (R398,
R399). -/
def State.undefMap (s : State) : Nat :=
  (List.range 256).foldl (fun m b => if s.undef b || s.eraseOpen b then m + 2 ^ b else m) 0

/-- Steps 2 and 3 of a rollover: the journal is erased and the next record has JERASE clear. -/
def State.rollEnd (s : State) (x : Selector) : State :=
  let s := s.eraseBlock 194
  let s := s.mapFlash (fun f => { f with jpage := 0, jepoch := x.jepoch })
  (s.selWrite { x with flags := withoutBit x.flags 1 }).setBit FLASH_STATUS_JERASE 0 false

/-- A journal rollover (R398); without a selector record in force, or while the whole array is being erased (R411), the journal is
only erased. -/
def State.rollover (s : State) : State :=
  match (if s.wiping then none else s.selector) with
  | none => (s.eraseBlock 194).mapFlash (fun f => { f with jpage := 0 })
  | some x =>
    let x := { x with jepoch := x.jepoch + 1, wear := s.wearMap, undefMap := s.undefMap, flags := withBit x.flags 1 }
    ((s.selWrite x).setBit FLASH_STATUS_JERASE 0 true).rollEnd { x with seq := x.seq + 1 }

/-- The page of a journal record (R398). -/
def journalPage (kind epoch : Nat) (payload : List Byte) : List Byte :=
  let l := leBytes 4 0x4A524E4C ++ leBytes 1 kind ++ leBytes 3 0 ++ leBytes 4 epoch ++ payload ++
    List.replicate (496 - payload.length) 0
  l ++ leBytes 4 (crc32c l)

/-- Write a journal record, after a rollover where it would need page 256. DESIGN CHOICE (log entry 136): its page program, as a
selector record's, is over with the command that needs it. -/
def State.journalPut (s : State) (kind : Nat) (payload : List Byte) : State :=
  let s := if s.flash.jpage = 256 then s.rollover else s
  let s := s.programPage (194 * 256 + s.flash.jpage) (journalPage kind s.flash.jepoch payload)
  s.mapFlash (fun f => { f with jpage := f.jpage + 1 })

/-- A journal record is written, or waits for bank 3. -/
def State.journal (s : State) (kind : Nat) (payload : List Byte) : State :=
  if s.journalOpen then s.journalPut kind payload
  else s.mapFlash (fun f => { f with jwait := f.jwait ++ [(kind, payload)] })

/-- Bank 3 has become free: the journal records that waited are written. -/
def State.journalFlush (s : State) : State :=
  if s.journalOpen then
    s.flash.jwait.foldl (fun s r => s.journalPut r.1 r.2) (s.mapFlash (fun f => { f with jwait := [] }))
  else s

/-- ERASE_INTENT; `issuer` 0 is the queue, 1 the supervisor (log entry 47). -/
def State.eraseIntent (s : State) (b issuer : Nat) : State := s.journal 1 (leBytes 4 b ++ leBytes 4 issuer)

/-- ERASE_DONE. -/
def State.eraseDone (s : State) (b : Nat) : State := s.journal 2 (leBytes 4 b)

/-- A journal page holds a record that counts. -/
def State.journalRec (s : State) (i : Nat) : Option (List Byte) :=
  let l := s.pageOf (194 * 256 + i)
  if pieceNum l 0 4 = 0x4A524E4C ∧ crc32c (l.take 508) = pieceNum l 508 4 ∧ pieceNum l 8 4 = s.flash.jepoch then some l
  else none

/-- Count one more write of each of at most 16 planes, in one journal record and then in their registers (R308). -/
def State.wearRecord (s : State) (l : List (Nat × Bool)) : State :=
  let s := s.journal 3 (leBytes 4 l.length ++ l.map (fun p => BitVec.ofNat 8 (p.1 + 128 * b2n p.2)))
  l.foldl (fun s p =>
    let n := s.wearOf p.1 p.2 + 1
    let s := if p.2 then s.setFld ZONE_WEAR_B_COUNT p.1 n else s.setFld ZONE_WEAR_A_COUNT p.1 n
    if n = 90000 then s.raise 0x0430 (srcOf 10 p.1) [p.1, b2n p.2]
    else if 100000 < n then s.raise 0x0431 (srcOf 10 p.1) [p.1, b2n p.2, n] else s) s

/-- A wear commit can be made now (R308): the journal takes records, and no warm reset is pending (R486). -/
def State.wearOpen (s : State) : Bool := s.journalOpen && s.warm.isNone

/-- Count one more write of each plane, committed before the first frame (R308); planes are (zone, B). -/
def State.wearCommit (s : State) (planes : List (Nat × Bool)) : State :=
  (List.range ((planes.length + 15) / 16)).foldl (fun s i => s.wearRecord ((planes.drop (16 * i)).take 16)) s

/-! ### The OTP row and the protection level (R407, R410) -/

def State.otpByte (s : State) (a : Nat) : Byte := storeGet 0 s.flash.otp a

def State.otpWord (s : State) (a : Nat) : Nat := leNat ((List.range 4).map (fun i => s.otpByte (a + i)))

def State.setOtpWord (s : State) (a v : Nat) : State :=
  s.mapFlash (fun f => { f with otp := writeBytes f.otp a (leBytes 4 v) })

/-- A fuse word counts as blown with 16 bits or more set. -/
def State.blown (s : State) (a : Nat) : Bool :=
  decide (16 ≤ ((List.range 32).filter (bitOf (s.otpWord a))).length)

def State.blownCount (s : State) (a : Nat) : Nat := ((List.range 8).filter (fun k => s.blown (a + 4 * k))).length

/-- The protection level (R410). -/
def State.plevel (s : State) : Nat :=
  if s.blown 0x100 then 2 else if s.blownCount 0xE0 < s.blownCount 0xC0 then 1 else 0

/-! ### The test access port (R530) -/

/-- The level of TRST_N: an open ball is pulled down. -/
def State.trst (s : State) : Bool := s.tap.trst.getD false

/-- The port is held in Test-Logic-Reset: TRST_N is low, or the protection level is 2 (R410). -/
def State.tapHeld (s : State) : Bool := !s.trst || decide (s.plevel = 2)

/-- The controller stands in Test-Logic-Reset. -/
def State.tapReset (s : State) : Bool := s.tapHeld || !s.tap.left

/-- TDO is high-impedance at protection level 2, whatever TCK and TMS do. -/
def State.tdoOff (s : State) : Bool := decide (s.plevel = 2)

/-- The device identification register: version 0xB, part number 0x1024, the manufacturer, and the 1 that the standard puts
in bit 0. -/
def tapId : BitVec 32 := (0xB : BitVec 4) ++ (0x1024 : BitVec 16) ++ Config.tapMaker ++ (1 : BitVec 1)

/-- A held controller goes to Test-Logic-Reset and stays there. -/
def State.tapSettle (s : State) : State := if s.tapHeld then { s with tap := { s.tap with left := false } } else s

/-- The bank status word (R396); of a suspended erase with nothing else running it names the erase. -/
def State.bankWord (s : State) (b : Nat) : Nat :=
  let k := storeGet {} s.flash.banks b
  let last := 0xB5A7 * 2 ^ 48
  match k.op, k.held with
  | 0, none => last
  | 0, some h => 3 + 2 ^ 8 + 2 ^ 9 * b2n h.own + 2 ^ 16 * h.block + 2 ^ 32 * min h.resumes 65535 + last
  | 2, h => 2 + 2 ^ 8 * b2n h.isSome + 2 ^ 9 * b2n k.own + 2 ^ 16 * k.block + 2 ^ 24 * k.page +
    2 ^ 32 * min (h.elim 0 (fun h => h.resumes)) 65535 + last
  | _, _ => 3 + 2 ^ 9 * b2n k.own + 2 ^ 16 * k.block + 2 ^ 32 * min k.resumes 65535 + last

end Sys2Proof.Machine
end

