-- ==== Sys2Proof/Machine/Flags.lean ====
section
/-! DEFINITION. The flag computations of Ursen: R214 to R219. -/

namespace Sys2Proof.Machine

/-- Z and N of a result, C and V as they stand. -/
def Flags.zn {w : Nat} (f : Flags) (r : BitVec w) : Flags := { f with z := decide (r = 0), n := r.msb }

/-- Flags of an addition (R216, R218): C the carry out, V the signed overflow. -/
def addFlags {w : Nat} (a b : BitVec w) : Flags :=
  let r := a + b
  { z := decide (r = 0), n := r.msb, c := decide (2 ^ w ≤ a.toNat + b.toNat), v := (a.msb == b.msb) && (r.msb != a.msb) }

/-- Flags of a subtraction (R214): C when no borrow occurs. -/
def subFlags {w : Nat} (a b : BitVec w) : Flags :=
  let r := a - b
  { z := decide (r = 0), n := r.msb, c := decide (b.toNat ≤ a.toNat), v := (a.msb != b.msb) && (r.msb != a.msb) }

/-- Flags of a shift: C is the last bit shifted out, unchanged for a count of 0 (R216). -/
def shiftFlags (f : Flags) (r : BitVec 32) (count : Nat) (out : Bool) : Flags :=
  { (f.zn r) with c := if count = 0 then f.c else out }

/-- BR conditions (R215); 15 is reserved. -/
def condHolds (f : Flags) (cond : Nat) : Bool :=
  match cond with
  | 0 => true
  | 1 => f.z
  | 2 => !f.z
  | 3 => f.n
  | 4 => !f.n
  | 5 => f.c
  | 6 => !f.c
  | 7 => f.v
  | 8 => !f.v
  | 9 => f.c && !f.z
  | 10 => !f.c || f.z
  | 11 => f.n == f.v
  | 12 => f.n != f.v
  | 13 => !f.z && (f.n == f.v)
  | _ => f.z || (f.n != f.v)

end Sys2Proof.Machine
end

