-- ==== Sys2Proof/Machine/Operands.lean ====
section
/-! DEFINITION. Operand forms of Ursen: R211, R212, R216, R218, R220, R225. -/

namespace Sys2Proof.Machine

/-- Operand b of the arithmetic (R216). -/
def Seq.operand (x : Seq) (b : UrsenOperand) : Word :=
  match b with
  | .reg r => x.greg r.val
  | .imm12 i => i.signExtend 32
  | .imm32 i => i

/-- Bytes of an instruction with this operand (R209). -/
def operandLen (b : UrsenOperand) : Nat :=
  match b with
  | .imm32 _ => 8
  | _ => 4

/-- Second operand of TADD (R218). -/
def Seq.stampOperand (x : Seq) (b : StampOperand) : Stamp :=
  match b with
  | .stamp t => x.treg t.val
  | .reg g => (x.greg g.val).signExtend 64
  | .imm32 i => i.signExtend 64

def stampLen (b : StampOperand) : Nat :=
  match b with
  | .imm32 _ => 8
  | _ => 4

/-- Second operand of TCMP (R218). -/
def Seq.tcmpOperand (x : Seq) (b : TcmpOperand) : Stamp :=
  match b with
  | .stamp t => x.treg t.val
  | .imm32 i => i.signExtend 64

def tcmpLen (b : TcmpOperand) : Nat :=
  match b with
  | .imm32 _ => 8
  | _ => 4

/-- Address of a MEM instruction (R220), computed in 32 bits. -/
def Seq.memAddr (x : Seq) (gb : Fin 32) (off : Half) : Nat := (x.greg gb.val + off.signExtend 32).toNat

/-- Address of an EXT instruction, modulo 2^32 (R221, R235). -/
def Seq.extAddr (x : Seq) (ga : Fin 32) (imm : Word) : Nat := (x.greg ga.val + imm).toNat

/-- A target of a branch, jump or call (R211): modulo 0x1_0000, bits [1:0] ignored. -/
def targetOf (base : Nat) (off : Half) : BitVec 16 := BitVec.ofInt 16 (((base : Int) + 4 * off.toInt) / 4 * 4)

/-- TARGET of a channel instruction (R105, R225): class 1 with `ch` set. -/
def Seq.target (x : Seq) (chassis : Bool) (gc : Fin 32) : Half :=
  BitVec.ofNat 16 ((x.greg gc.val).toNat % 1024 + 1024 * b2n chassis)

/-- WIDTH of a channel instruction. -/
def Seq.widthOf (x : Seq) (gv : Fin 32) : Half := (x.greg gv.val).extractLsb' 16 16

/-- TAG of a channel instruction. -/
def Seq.tagOf (x : Seq) (gv : Fin 32) : Half := (x.greg gv.val).extractLsb' 0 16

end Sys2Proof.Machine
end

