-- ==== Sys2Proof/Machine/Ring.lean ====
section
/-! DEFINITION. Ring descriptors, ring accesses and retention groups: R329 to R343. -/

namespace Sys2Proof.Machine

open Sys2Proof.F

/-- Size of the Caldera in items (R322). -/
def calderaItems : Nat := 0x300000

/-- Length of the lap that R is in (R339). -/
def State.readEnd (s : State) (r : Nat) : Nat := if s.tail r then storeGet 0 s.ringOld r else s.ringLen r

/-- Why a ring may not be enabled (R329, R330): the field and its value, in the record's order; none if it may. -/
def State.ringBad (s : State) (r : Nat) : Option (Fld × Nat) :=
  let base := s.fld RING_BASE_BASE r
  let len := s.ringLen r
  let p := s.fld RING_CTRL_PROD r
  let c := s.fld RING_CTRL_CONS r
  let idx (a : Nat) : Bool :=
    let i := a % 64
    match a / 64 with
    | 0 => decide (i = 0)
    | 1 => decide (i ≤ 32)
    | 2 => decide (i = 0)
    | 3 => decide (i ≤ 7)
    | 4 => decide (i ≤ 7)
    | 5 => decide (i ≤ 32)
    | 6 => decide (i ≤ 15)
    | 7 => true
    | 8 => decide (i ≤ 3)
    | 9 => decide (i = 0)
    | _ => false
  if calderaItems ≤ base then some (RING_BASE_BASE, base * 16)
  else if len = 0 ∨ calderaItems < base + len then some (RING_LEN_LEN, len * 16)
  else if len + b2n (s.tail r) ≤ s.fld RING_WPTR_OFF r then some (RING_WPTR_OFF, s.fld RING_WPTR_OFF r * 16)
  else if s.readEnd r ≤ s.fld RING_RPTR_OFF r then some (RING_RPTR_OFF, s.fld RING_RPTR_OFF r * 16)
  else if !idx p then some (RING_CTRL_PROD, p)
  else if !idx c || decide (c / 64 = 2) || decide (c / 64 = 3) then some (RING_CTRL_CONS, c)
  else none

/-- End every RWAIT on a ring with GONE (R191, R337). -/
def State.ringGone (s : State) (r : Nat) : State :=
  (List.range 33).foldl (fun s q =>
    match (s.seq q).wait with
    | some w => match w.what with
      | .ring p => if s.fldI SEQ_STREAM_RING q p = r ∧ s.fldI SEQ_STREAM_EN q p = 1 then
          s.setSeq q { s.seq q with wait := some { w with gone := true } } else s
      | _ => s
    | none => s) s

/-- RING.CTRL has been written (R329, R337); `was` is EN before it. -/
def State.ringEnWrote (s : State) (r : Nat) (was : Bool) : State :=
  let en := s.ringEn r
  if en && !was then
    match s.ringBad r with
    | some (f, v) => (s.setBit RING_CTRL_EN r false).raise 0x0607 (srcOf 12 r) [r, fldItem f 0, v]
    | none => s.setFld RING_STAT_FULLCNT r 0
  else if was && !en then
    { s with ringWaits := s.ringWaits.filter (fun w => decide (w.1 ≠ r)) }.ringGone r
  else s

/-- A write to a pointer (R336); `side` is the agent of the pointer's side. Its OFF lies below the active length, whichever lap it
names. A software agent that turns the LAP of WPTR or RPTR passes the end of that pointer's lap (R338, R339; log entry 117). -/
def State.pointerWrite (s : State) (r : Nat) (lap off : Fld) (side v : Nat) : State :=
  let o := bitsOf v 4 22
  let reads := decide (off = RING_RPTR_OFF)
  let turns := decide (bitsOf v 31 1 ≠ s.fld lap r)
  let takes := !reads && turns && s.ringEn r && s.bit RING_NEWLEN_PENDING r && !s.tail r
  if (s.ringEn r && !decide (side / 64 = 9)) || decide (s.ringLen r ≤ o) then
    s.raise 0x0605 (srcOf 12 r) [r, b2n reads]
  else
    let leaves := reads && turns && s.tail r
    let s := if takes then s.lenTakes r else s
    let s := (s.setFld lap r (bitsOf v 31 1)).setFld off r o
    if leaves then s.tailEnds r else s

/-- A software agent has moved its pointer: the watermark check follows the advance (R333, R335). -/
def State.pointerMoved (s : State) (r fill room : Nat) : State :=
  let items := s.fld RING_WM_ITEMS r
  let s :=
    if s.ringEn r = true ∧ items ≠ 0 ∧ ((s.fld RING_WM_DIR r = 0 ∧ fill < items ∧ items ≤ s.ringFill r) ∨
        (s.fld RING_WM_DIR r = 1 ∧ room < items ∧ items ≤ s.ringRoom r)) then s.watermark r else s
  s.ringRoomed r

/-- A write to NEWLEN (R338): staged while the ring runs, at once otherwise. DESIGN CHOICE (log entry 138): R343 shows bits [3:0]
as reserved, where R10 has a write ignored, and R338 refuses a NEWLEN that is no multiple of 16: a value with one of those bits
set is refused. -/
def State.newlenWrite (s : State) (r v : Nat) : State :=
  let l := bitsOf v 4 22
  if l = 0 ∨ v % 16 ≠ 0 ∨ calderaItems < s.fld RING_BASE_BASE r + l then
    s.raise 0x0607 (srcOf 12 r) [r, fldItem RING_NEWLEN_NEWLEN 0, bitsOf v 0 26]
  else
    let s := s.setFld RING_NEWLEN_NEWLEN r l
    if s.ringEn r then s.setBit RING_NEWLEN_PENDING r true
    else (s.setFld RING_LEN_LEN r l).setBit RING_NEWLEN_PENDING r false

/-- A write to a descriptor's register lands. -/
def State.ringWrite (s : State) (who r off v : Nat) : State :=
  if off = 0xC then s.newlenWrite r v
  else if off = 0x10 ∨ off = 0x14 then
    let fill := s.ringFill r
    let room := s.ringRoom r
    let s := if off = 0x10 then s.pointerWrite r RING_WPTR_LAP RING_WPTR_OFF (s.fld RING_CTRL_PROD r) v
      else s.pointerWrite r RING_RPTR_LAP RING_RPTR_OFF (s.fld RING_CTRL_CONS r) v
    s.pointerMoved r fill room
  else
    let was := s.ringEn r
    let s := s.classWrite who .ring r off v (fun _ _ => false)
    if off = 0 then s.ringEnWrote r was else s

/-- RING.STAT (R332, R343): full and empty by the pointers alone. -/
def State.ringStat (s : State) (r : Nat) : Nat :=
  let same := decide (s.fld RING_WPTR_OFF r = s.fld RING_RPTR_OFF r)
  let lap := decide (s.fld RING_WPTR_LAP r = s.fld RING_RPTR_LAP r)
  2 ^ 31 * b2n (same && !lap) + 2 ^ 30 * b2n (same && lap) +
    2 ^ 29 * s.fld RING_STAT_TAIL r + s.fld RING_STAT_FULLCNT r

/-! ### Retention groups (R340) -/

/-- The contents of a group are lost. -/
def State.loseGroup (s : State) (g : Nat) : State :=
  { s with
    caldera := s.caldera.filter (fun c => decide (groupOf c.1 ≠ g))
    flaws := s.flaws.filter (fun x => x.flash || decide (groupOf x.addr ≠ g)) }

/-- Set a group to a state of PWR: 1 RETAIN, 2 OFF, else ON. What a group that goes from OFF to RETAIN holds is not
stated: 0 (log entry 117). -/
def State.groupTo (s : State) (g x : Nat) : State :=
  if x = 1 then s.setGroup g 1
  else if x = 2 then (s.loseGroup g).setGroup g 2
  else if s.group g = 2 then s.setGroup g 3
  else if s.group g = 1 then s.setGroup g 0
  else s

/-- CALDERA.PWR has been written. -/
def State.pwrWrote (s : State) : State :=
  (List.range 8).foldl (fun s g => s.groupTo g (bitsOf (s.fld CALDERA_PWR_G 0) (2 * g) 2)) s

/-- A write to a CALDERA register lands. -/
def State.calderaRegWrite (s : State) (who off v : Nat) : State :=
  let s := s.classWrite who .caldera 0 off v (fun _ _ => false)
  if off = 4 then s.pwrWrote else s

/-! ### Meanings -/

/-- What waited for the Caldera goes on (R325, R340): tracker and link records, and posted stores. -/
def State.calderaGoesOn (s : State) : State := ((List.range 8).foldl (fun s n => s.mtFlush n) s).constFlush.drainAll

/-- RING_WRITE (R333, R334): a producer offers an item. Before the Caldera is ready every access waits (R325). -/
def execRingWrite (agent : BitVec 10) (ring : Fin 1024) (item : BitVec 128) (s : State) :
    Host.Outcome State Fault Refusal :=
  if s.ready 4 then .next (s.ringOffer agent.toNat ring.val item).1 else .next s

/-- RING_READ (R331, R333, R328): a consumer reads an item. -/
def execRingRead (agent : BitVec 10) (ring : Fin 1024) (ecc : Ecc) (s : State) : Host.Outcome State Fault Refusal :=
  let r := ring.val
  let ag := agent.toNat
  if !s.ready 4 then .next s
  else if !s.ringEn r then .next (s.ringOff ag r)
  else if !s.mayConsume ag r then .next (s.ringNotMine ag r)
  else if s.ringFill r = 0 || !s.readOpen r 0 then .next s
  else
    let a := s.ringAddr r (s.fld RING_RPTR_OFF r)
    .next ((s.ringTake ag r).2.eccSeen ecc ag a)

/-- WATERMARK_EVENT (R194, R335): the event reaches a sequencer. -/
def execWatermarkEvent (q : Fin 33) (ring : Fin 1024) (s : State) : Host.Outcome State Fault Refusal :=
  if s.watermarks.contains (q.val, ring.val) then
    .next ({ s with watermarks := s.watermarks.erase (q.val, ring.val) }.pendVectors q.val 2 ring.val)
  else .next s

/-- GROUP_WAKE (R340): an access wakes a retained group. -/
def execGroupWake (group : Fin 8) (s : State) : Host.Outcome State Fault Refusal := .next (s.wakeGroup group.val)

/-- GROUP_CLEARED (R340): a group commanded ON from OFF has been cleared to 0. -/
def execGroupCleared (group : Fin 8) (s : State) : Host.Outcome State Fault Refusal :=
  if s.group group.val = 3 then .next (s.setGroup group.val 0).calderaGoesOn else .next s

/-- CALDERA_CLEARED (R341, R482): the clearing after power-on completes and bit 4 sets. -/
def execCalderaCleared (s : State) : Host.Outcome State Fault Refusal :=
  if s.ready 4 then .next s else .next (s.setReady 4 true).calderaGoesOn

end Sys2Proof.Machine
end

