-- ==== Sys2Proof/Machine/Mpll.lean ====
section
/-! DEFINITION. The multiplying loops: R57 to R67. -/

namespace Sys2Proof.Machine

open Sys2Proof.F

/-- The target frequency N × f_ref in Hz (R57). -/
def State.mpllTarget (s : State) (n : Nat) : Nat := s.fld MPLL_DIV_N n * s.fld MPLL_FREF_FREF n

/-- N × f_ref lies in the range of R57. -/
def targetOk (f : Nat) : Bool := decide (12207 ≤ f) && decide (f < 3200000000)

/-- The divider exponent k, 0 to 17, that brings the oscillator to 1.6 GHz or above (R57). -/
def pickK (f : Nat) : Nat :=
  match (List.range 18).find? (fun k => decide (1600000000 ≤ f * 2 ^ k)) with
  | some k => k
  | none => 17

/-- The oscillator frequency of a loop in Hz (R57). -/
def State.mpllOsc (s : State) (n : Nat) : Nat := s.mpllTarget n * 2 ^ pickK (s.mpllTarget n)

/-- Distance of band-table entry `i` from an oscillator frequency, where the entry is valid and within ±0.5 % (R58). -/
def State.bandNear (s : State) (n osc i : Nat) : Option Nat :=
  let d := ((s.actI MPLL_BAND_KEY n i : Int) * 100000 - osc).natAbs
  if s.actI MPLL_BAND_VALID n i = 1 ∧ d * 200 ≤ osc then some d else none

/-- The qualifying entry with the nearest key, the lowest-numbered among equals (R58). -/
def State.bandPick (s : State) (n osc : Nat) : Option Nat :=
  ((List.range 16).foldl (fun (best : Option (Nat × Nat)) i =>
    match s.bandNear n osc i, best with
    | some d, none => some (d, i)
    | some d, some (d', i') => if d < d' then some (d, i) else some (d', i')
    | none, b => b) none).map Prod.snd

/-- Mark a band-table entry as used most recently (R59). -/
def markUsed (used : List Nat) (i : Nat) : List Nat := used.filter (· ≠ i) ++ [i]

/-- The entry used least recently: one that was never used first, else the head of the order of use (R59). -/
def leastUsed (used : List Nat) : Nat :=
  match (List.range 16).find? (fun i => !used.contains i) with
  | some i => i
  | none => used.headD 0 % 16

/-- Begin R58: measure f_ref. LOCKED clears and HOPPING sets. -/
def State.mpllStart (s : State) (n : Nat) : State :=
  let s := s.notePos n s.now
  ((((s.setMpll n { s.mpll n with phase := .measuring, good := 0, bad := 0 }).setBit MPLL_STATUS_LOCKED n false).setBit
    MPLL_STATUS_HOPPING n true).setBit MPLL_STATUS_SEARCHING n false).setBit MPLL_STATUS_HELD n false

/-- Begin a band search (R58). -/
def State.mpllSearch (s : State) (n : Nat) : State :=
  let s := s.notePos n s.now
  (((s.setMpll n { s.mpll n with phase := .searching, forceSearch := false }).setBit MPLL_STATUS_LOCKED n false).setBit
    MPLL_STATUS_HOPPING n false).setBit MPLL_STATUS_SEARCHING n true

/-- W of R63 and R67: 2^WEXP, where values below 6 act as 6 and above 12 as 12. -/
def State.lockW (s : State) (n : Nat) : Nat := 2 ^ max 6 (min 12 (s.act MPLL_LOCKDET_WEXP n))

/-- TOL as it acts (R67): 0 as 1. -/
def State.lockTol (s : State) (n : Nat) : Nat := max 1 (s.act MPLL_LOCKDET_TOL n)

/-- A window of lock detection begins, with W and TOL as they are in force now (R24, R63). -/
def State.windowBegins (s : State) (n : Nat) : State :=
  s.setMpll n { s.mpll n with win := s.lockW n, tol := s.lockTol n }

/-- Begin lock detection (R58, R63). -/
def State.mpllDetect (s : State) (n : Nat) : State :=
  ((((s.setMpll n { s.mpll n with phase := .detecting, good := 0, bad := 0 }).windowBegins n).setBit MPLL_STATUS_HOPPING n
    false).setBit MPLL_STATUS_SEARCHING n false).setBit MPLL_STATUS_HELD n false

/-- Take new values of N, M and REFSRC (R58). -/
def State.mpllValues (s : State) (n : Nat) (c : Nat × Nat × Nat) : State :=
  let s := s.notePos n s.now
  ((s.setFld MPLL_DIV_N n c.1).setFld MPLL_DIV_M n c.2.1).setFld MPLL_CTRL_REFSRC n c.2.2

/-- The running hop or search ends in the held state: a held change takes effect, and R58 runs when the state is left (R60, R66). -/
def State.heldChange (s : State) (n : Nat) : State :=
  match (s.mpll n).change with
  | some c => (s.mpllValues n c).setMpll n { s.mpll n with change := none, restart := true }
  | none => s

/-- Enter the held state, whose cause the caller has noted; LOCKED clears (R66). A loop that is off is not held. -/
def State.mpllHold (s : State) (n : Nat) : State :=
  if s.bit MPLL_CTRL_EN n then
    let s := s.notePos n s.now
    ((((((s.setMpll n { s.mpll n with phase := .holding, good := 0, bad := 0 }).setBit MPLL_STATUS_LOCKED n false).setBit
      MPLL_STATUS_HELD n true).setBit MPLL_STATUS_HOPPING n false).setBit MPLL_STATUS_SEARCHING n false)).heldChange n
  else s

/-- A tracker places its loop in the held state, without a record (R66, R95). -/
def State.mpllTrackerHold (s : State) (n : Nat) : State :=
  (s.setMpll n { s.mpll n with byTracker := true }).mpllHold n

/-- The coast of a loop's tracker has ended (R66). -/
def State.mpllTrackerFree (s : State) (n : Nat) : State := s.setMpll n { s.mpll n with byTracker := false }

/-- A value of N, M or REFSRC that is not accepted (R60). -/
def mpllBad (f : Fld) (x : Nat) : Bool :=
  if f = MPLL_DIV_N then decide (x = 0) || decide (4096 < x)
  else if f = MPLL_DIV_M then decide (x = 0)
  else if f = MPLL_CTRL_REFSRC then decide (6 ≤ x)
  else false

/-- The 0x0112 records of a value not accepted (R60). -/
def State.mpllRefuse (s : State) (n : Nat) (f : Fld) : State := s.raise 0x0112 (srcOf 2 n) [n, fldItem f 0]

/-- Take new values of N, M and REFSRC and start with them (R58); a held loop stays held and starts when it is left (R66). -/
def State.mpllTake (s : State) (n : Nat) (c : Nat × Nat × Nat) : State :=
  let s := s.mpllValues n c
  if s.bit MPLL_CTRL_EN n then
    let s := s.setMpll n { s.mpll n with change := none }
    if (s.mpll n).phase = .holding then s.setMpll n { s.mpll n with restart := true } else s.mpllStart n
  else s

/-- A hop or a search ends: a held change starts, otherwise lock detection does (R60). -/
def State.mpllSettle (s : State) (n : Nat) : State :=
  match (s.mpll n).change with
  | some c => s.mpllTake n c
  | none => s.mpllDetect n

/-- The arm of a loop (R25, R58, R60). An arm back to the values in force drops a change that is held: the latest arm leaves
nothing to change. -/
def State.mpllArm (s : State) (n : Nat) : State :=
  let c := (s.stagedI MPLL_DIV_N n 0, s.stagedI MPLL_DIV_M n 0, s.stagedI MPLL_CTRL_REFSRC n 0)
  let bad := [(MPLL_DIV_N, c.1), (MPLL_DIV_M, c.2.1), (MPLL_CTRL_REFSRC, c.2.2)].filter (fun p => mpllBad p.1 p.2)
  let s := s.setFld MPLL_REFCH_CH n (s.stagedI MPLL_REFCH_CH n 0)
  if bad.isEmpty then
    if c.1 = s.fld MPLL_DIV_N n ∧ c.2.1 = s.fld MPLL_DIV_M n ∧ c.2.2 = s.fld MPLL_CTRL_REFSRC n then
      s.setMpll n { s.mpll n with change := none }
    else
      let x := s.mpll n
      if x.phase = .hopping ∨ x.phase = .searching then s.setMpll n { x with change := some c } else s.mpllTake n c
  else bad.foldl (fun s p => s.mpllRefuse n p.1) s

/-- SEARCH is written while EN is set (R58). A held loop stays held and searches when it is left (R66); a measuring loop
searches when it has measured; a loop whose target lies outside the range measures anew before it searches, since it does
not lock (R57). DESIGN CHOICE (log entry 102): a hop that runs is broken off, and a loop in lock detection, locked or not,
searches at once with the f_ref measured last, MPLL.FREF, and measures none anew. -/
def State.mpllForce (s : State) (n : Nat) : State :=
  let x := s.mpll n
  match x.phase with
  | .measuring => s.setMpll n { x with forceSearch := true }
  | .holding => s.setMpll n { x with forceSearch := true, restart := true }
  | .outOfRange => (s.setMpll n { x with forceSearch := true }).mpllStart n
  | _ => s.mpllSearch n

/-- What a write to a loop's registers does beyond its fields; `was` is MPLL.CTRL.EN, `held` HOLD before it. When EN clears, the
next falling edge of the guarded outputs, at which they stop low (R66), comes after a free number of ticks. -/
def State.mpllWrote (s : State) (n off v : Nat) (was held : Bool) : State :=
  if off = 0 then
    let en := s.bit MPLL_CTRL_EN n
    let hold := s.bit MPLL_CTRL_HOLD n
    let s := if en && !was then ((s.setFld MPLL_SWALLOW_COUNT n 0).setMpll n { s.mpll n with swallowing := false }).mpllStart n
      else if was && !en then
        let (f, s) := s.freeNat
        ((((s.setMpll n { s.mpll n with
          cleared := s.tickNo, lowAt := s.tickNo + f
          phase := .off, byTracker := false, byLoss := false, forceSearch := false, restart := false,
            change := none }).setBit MPLL_STATUS_LOCKED n false).setBit MPLL_STATUS_HELD n false).setBit
          MPLL_STATUS_HOPPING n false).setBit MPLL_STATUS_SEARCHING n false
      else s
    let s := s.setMpll n { s.mpll n with byProgram := hold }
    let s := if hold && en && !(held && was) then s.mpllHold n else s
    if bitOf v 31 && en then s.mpllForce n else s
  else if off = 4 ∧ was = false then
    [(MPLL_DIV_N, bitsOf v 16 13), (MPLL_DIV_M, bitsOf v 0 12)].foldl
      (fun s p => if mpllBad p.1 p.2 then s.mpllRefuse n p.1 else s) s
  else s

/-! ### Meanings -/

/-- MEASURE_DONE (R57, R58): f_ref is measured; hop to a qualifying entry, search, or 0x0111, which carries N × f_ref modulo
2^32 (log entry 103). -/
def execMeasureDone (n : Fin 8) (fref : Word) (s : State) : Host.Outcome State Fault Refusal :=
  let n := n.val
  if (s.mpll n).phase ≠ .measuring then .next s
  else
    let s := s.setFld MPLL_FREF_FREF n fref.toNat
    let f := s.mpllTarget n
    if targetOk f then
      let s := (s.setBit MPLL_STATUS_REFOK n true).setFld MPLL_STATUS_K n (pickK f)
      match s.bandPick n (s.mpllOsc n), (s.mpll n).forceSearch with
      | some i, false =>
        .next ((s.setMpll n { s.mpll n with phase := .hopping, used := markUsed (s.mpll n).used i }).setFld
          MPLL_STATUS_BAND n (s.actI MPLL_BAND_BAND n i))
      | _, _ => .next (s.mpllSearch n)
    else
      let s := (s.setBit MPLL_STATUS_REFOK n false).setBit MPLL_STATUS_HOPPING n false
      .next ((s.setMpll n { s.mpll n with phase := .outOfRange }).raise 0x0111 (srcOf 2 n) [n, f % 2 ^ 32])

/-- HOP_DONE (R58, R60). -/
def execHopDone (n : Fin 8) (s : State) : Host.Outcome State Fault Refusal :=
  if (s.mpll n.val).phase = .hopping then .next (s.mpllSettle n.val) else .next s

/-- SEARCH_DONE (R59, R60): the band found goes into the band table. DESIGN CHOICE (log entry 124): its KEY, in units of 100 kHz,
is the target oscillator frequency rounded down. -/
def execSearchDone (n : Fin 8) (band : Fin 64) (s : State) : Host.Outcome State Fault Refusal :=
  let n := n.val
  if (s.mpll n).phase ≠ .searching then .next s
  else
    let osc := s.mpllOsc n
    let i := match s.bandPick n osc with
      | some i => i
      | none => match (List.range 16).find? (fun i => decide (s.actI MPLL_BAND_VALID n i = 0)) with
        | some i => i
        | none => leastUsed (s.mpll n).used
    let s := ((s.setFldI MPLL_BAND_VALID n i 1).setFldI MPLL_BAND_BAND n i band.val).setFldI MPLL_BAND_KEY n i (osc / 100000)
    let s := (s.setFld MPLL_STATUS_BAND n band.val).setMpll n { s.mpll n with used := markUsed (s.mpll n).used i }
    .next ((s.setBit MPLL_STATUS_SEARCHING n false).mpllSettle n)

/-- A window closes with these counts (R63): after W reference edges, or when the feedback count reaches 2 × W. -/
def windowCloses (w refCount fbCount : Nat) : Bool :=
  (decide (refCount = w) && decide (fbCount ≤ 2 * w)) || (decide (fbCount = 2 * w) && decide (refCount ≤ w))

/-- LOCK_WINDOW (R63, R66): a window closes with the two counts given. -/
def execLockWindow (n : Fin 8) (refCount fbCount : Nat) (s : State) : Host.Outcome State Fault Refusal :=
  let n := n.val
  let x := s.mpll n
  if x.phase ≠ .detecting ∨ windowCloses x.win refCount fbCount = false then .next s
  else if ((refCount : Int) - fbCount).natAbs ≤ x.tol then
    let s := (s.setMpll n { x with good := x.good + 1, bad := 0 }).windowBegins n
    .next (if max 1 (s.act MPLL_LOCKDET_LOCKCNT n) ≤ x.good + 1 then (s.notePos n s.now).setBit MPLL_STATUS_LOCKED n true else s)
  else
    let s := (s.setMpll n { x with good := 0, bad := x.bad + 1 }).windowBegins n
    if 2 ≤ x.bad + 1 ∧ s.bit MPLL_STATUS_LOCKED n = true then
      .next (((s.setMpll n { s.mpll n with byLoss := true }).mpllHold n).raise 0x0110 (srcOf 2 n)
        [n, s.fld MPLL_STATUS_BAND n, s.fld MPLL_FREF_FREF n])
    else .next s

/-- REBAND (R62): the neighbouring band, or the far end of the range with another k; LOCKED stays. -/
def execReband (n : Fin 8) (up : Bool) (s : State) : Host.Outcome State Fault Refusal :=
  let n := n.val
  if (s.mpll n).phase ≠ .detecting then .next s
  else
    let b := s.fld MPLL_STATUS_BAND n
    let k := s.fld MPLL_STATUS_K n
    if up then
      if b < 63 then .next (s.setFld MPLL_STATUS_BAND n (b + 1))
      else if 0 < k then .next ((s.setFld MPLL_STATUS_BAND n 0).setFld MPLL_STATUS_K n (k - 1)) else .next s
    else
      if 0 < b then .next (s.setFld MPLL_STATUS_BAND n (b - 1))
      else if k < 17 then .next ((s.setFld MPLL_STATUS_BAND n 63).setFld MPLL_STATUS_K n (k + 1)) else .next s

/-- RATE_GUARD_SWALLOW (R64): an edge is swallowed; 0x0113 when swallowing starts after a stretch without it. -/
def execRateGuardSwallow (n : Fin 8) (starts : Bool) (s : State) : Host.Outcome State Fault Refusal :=
  let n := n.val
  if s.bit MPLL_CTRL_EN n && decide (s.act MPLL_GUARD_TGUARD n ≠ 0) then
    let s := s.bump MPLL_SWALLOW_COUNT n
    let first := starts || !(s.mpll n).swallowing
    let s := s.setMpll n { s.mpll n with swallowing := true }
    .next (if first then s.raise 0x0113 (srcOf 2 n) [n, s.act MPLL_GUARD_TGUARD n] else s)
  else .next s

/-- HELD_EXIT (R66): the causes have ended and the reference is in range again; `covers` says that the held band still
covers the target; after an armed change or a SEARCH, R58 runs in any case. -/
def execHeldExit (n : Fin 8) (covers : Bool) (s : State) : Host.Outcome State Fault Refusal :=
  let n := n.val
  let x := s.mpll n
  if s.bit MPLL_STATUS_HELD n && !x.byProgram && !x.byTracker then
    let s := s.setMpll n { x with byLoss := false, restart := false }
    .next (if covers && !x.restart then s.mpllDetect n else s.mpllStart n)
  else .next s

end Sys2Proof.Machine
end

