-- ==== Sys2Proof/Machine/Tracker.lean ====
section
/-! DEFINITION. Trackers: R69 to R103. Velocity and acceleration are exact rationals in counts per step and counts per
step² (R78 asks for more precision than the published formats hold; log entry 20). -/

namespace Sys2Proof.Machine

open Sys2Proof.F

def mtSrc (n : Nat) : Nat := srcOf 3 n

/-! ### Parameters as they act (R103) -/

def avgOf (x : Nat) : Nat := 2 ^ min x 6
def State.vWin (s : State) (n : Nat) : Nat := avgOf (s.act MT_EST_VAVG n)
def State.aWin (s : State) (n : Nat) : Nat := avgOf (s.act MT_EST_AAVG n)
/-- The horizon H in steps. -/
def State.horizon (s : State) (n : Nat) : Nat := 40000 * max 1 (min 256 (s.act MT_HORIZON_H n))
/-- DROPK as it acts: 0 as 64, 1 as 2. -/
def State.dropK (s : State) (n : Nat) : Nat :=
  let k := s.act MT_DROP_DROPK n
  if k = 0 then 64 else max 2 k
/-- POLICY as it acts: 3 as HOLD. -/
def State.policy (s : State) (n : Nat) : Nat :=
  let p := s.act MT_CTRL_POLICY n
  if p = 3 then 0 else p

/-! ### The model (R86, R95, R96) -/

/-- Position in counts. -/
def counts (p : Int) : Rat := (p : Rat) / 65536

/-- Displacement after `t` steps under speed `v` and acceleration `a` along the motion. -/
def travel (v a t : Rat) : Rat := v * t + a * t * t / 2

/-- The displacement `d` is exceeded, or the medium has stopped, after `t` steps. -/
def beyond (v a d t : Rat) : Bool := decide (d < travel v a t) || (decide (a < 0) && decide (v ≤ -a * t))

/-- The largest whole number of steps below `hi` after which `d` is not exceeded, by bisection. -/
def bisect (v a d : Rat) : Nat → Nat → Nat → Nat
  | 0, lo, _ => lo
  | k + 1, lo, hi =>
    let mid := (lo + hi) / 2
    if hi ≤ lo + 1 then lo else if beyond v a d mid then bisect v a d k lo mid else bisect v a d k mid hi

/-- Steps until the model has moved by `d > 0` at speed `v > 0`, rounded to the nearest step; a tie goes to the step that is
even once `base` is added (R86). None if the medium stops first. -/
def stepsTo (v a d : Rat) (base : Nat) : Option Nat :=
  if decide (a < 0) && decide (v * v ≤ -2 * a * d) then none
  else
    let hi := (2 * d / v).ceil.toNat + 1
    if 2 ^ 63 ≤ hi then none
    else
      let m := bisect v a d 64 0 hi
      let half : Rat := (m : Rat) + 1 / 2
      if travel v a half = d ∧ ¬ (a < 0 ∧ v < -a * half) then some (if (base + m) % 2 = 0 then m else m + 1)
      else if beyond v a d half then some m else some (m + 1)

/-- The crossing that the model predicts for a slot (R86, R82). -/
def Tracker.predict (x : Tracker) (c : Slot) : Option Stamp :=
  if x.v = 0 then none
  else
    let fwd : Bool := decide (0 < x.v)
    let sg : Rat := if fwd then 1 else -1
    let ahead (p : Rat) : Bool := decide (0 < (counts c.x - p) * sg)
    let d := (counts c.x - x.mPos) * sg
    let dirOk := decide (c.dir = 2) || decide ((c.dir = 0) = (fwd = true))
    let fresh := match c.seen with
      | some p => ahead (counts p)
      | none => true
    if dirOk && fresh && decide (0 < d) then
      (stepsTo (x.v * sg) (x.a * sg) d (x.mBase.toNat % 2)).map (fun k => x.mBase + BitVec.ofNat 64 k)
    else none

/-- The tracker predicts and commits (R80): TRACK, COAST, ACQ on a model, OVERLIMIT under CONTINUE. -/
def State.predicts (s : State) (n : Nat) : Bool :=
  let x := s.mt n
  match x.st with
  | .track | .coast => true
  | .acq => x.model
  | .overlimit => decide (s.policy n = 1)
  | _ => false

/-- Commits and amendments carry COAST outside TRACK (R90). -/
def Tracker.outside (x : Tracker) : Bool := decide (x.st ≠ .track)

/-! ### Records (R102) -/

/-- Put a tracker record into the tracker's buffer of 16, which R123 governs as a capture FIFO (R334). -/
def State.mtRecord (s : State) (n : Nat) (ts : Stamp) (kind payload : Nat) : State :=
  if !s.actBit MT_CTRL_RECEN n then s
  else
    let (r, s) := s.evRec ts (2 * 1024 + n) kind (fCoast * b2n (s.mtCoasts n)) payload
    let s := s.mtFlush n
    let x := s.mt n
    if 16 ≤ x.buf.length then
      (s.setMt n { x with lost := x.lost + 1 }).raiseFirst 0x0609 (mtSrc n) [s.act MT_RING_RING n, n, x.lost + 1]
    else
      let r := if x.lost = 0 then r else
        { r with flags := r.flags + 32, payload := r.payload % 2 ^ 16 + 2 ^ 16 * min x.lost 65535 }
      (s.setMt n { x with buf := x.buf ++ [r], lost := 0 }).mtFlush n

/-- A slot event: tag and slot number. -/
def State.mtSlotRecord (s : State) (n k : Nat) (ts : Stamp) (kind tag : Nat) : State :=
  s.mtRecord n ts kind (tag % 2 ^ 16 + 2 ^ 16 * (k % 256))

/-- A position event: the low 32 bits of the position. -/
def State.mtPosRecord (s : State) (n : Nat) (ts : Stamp) (kind : Nat) (p : Int) : State := s.mtRecord n ts kind (word p)

/-! ### Slots (R81 to R92) -/

def State.slot (s : State) (n k : Nat) : Slot := (s.mt n).slot k
def State.setSlot (s : State) (n k : Nat) (c : Slot) : State := s.setMt n ((s.mt n).setSlot k c)

/-- Free a slot: STATE reads 0, every other field keeps its value (R103). -/
def State.freeSlot (s : State) (n k : Nat) : State := s.setSlot n k { s.slot n k with state := 0, pred := none, seen := none }

/-- The slots that are not free, lowest first. -/
def State.liveSlots (s : State) (n : Nat) : List Nat :=
  storeKeys ((s.mt n).slots.filter (fun c => decide (c.2.state ≠ 0)))

/-- Send an item down the amendment lane for a committed slot (R89). -/
def State.laneSend (s : State) (n k : Nat) (t : Option Stamp) : State :=
  let c := s.slot n k
  { s with lane := s.lane ++ [(c.ch, { tracker := n, slot := k + 256 * c.gen, time := t, coast := (s.mt n).outside })] }

/-- The amendment window of a committed slot is open at an instant: launch lies more than 24 ns ahead (R89, R90). -/
def windowOpen (c : Slot) (at_ : Stamp) : Bool := decide (960 < stampDiff c.time at_)

/-- Commit a slot for time `t` (R87, R92). -/
def State.commitSlot (s : State) (n k : Nat) (t : Stamp) : State :=
  let c := s.slot n k
  let out := (s.mt n).outside
  let key := k + 256 * (c.gen + 1)
  let e : QEntry :=
    { time := t, action := c.action, width := c.width, tag := c.tag, src := agent 3 n, dev := 0, held := some (n, key)
      coast := out }
  let s := s.setSlot n k { c with
    state := 2, time := t, pred := some t, coast := out, amended := false, gen := c.gen + 1, born := s.tickNo + 1 }
  { s with commits := s.commits ++ [(c.ch, e)] }

/-- Window close (R90): the entry is fixed, the slot is freed; its fixed time stays watched (R91). -/
def State.closeSlot (s : State) (n k : Nat) : State :=
  let c := s.slot n k
  let s := if s.actBit MT_CTRL_XREC n then s.mtSlotRecord n k (c.time - 960) 0x30 c.tag else s
  let s := (s.freeSlot n k).releaseEntry c.ch n (k + 256 * c.gen)
  s.setMt n { s.mt n with watch := (s.mt n).watch ++ [{ slot := k, tag := c.tag, x := c.x, dir := c.dir, time := c.time }] }

/-- Close every window whose close is past at `at_`; a commit of this very tick is still open to the program operations of the
tick (R85). -/
def State.closeDue (s : State) (n : Nat) (at_ : Stamp) : State :=
  (s.liveSlots n).foldl (fun s k =>
    let c := s.slot n k
    if c.state = 2 ∧ c.born ≠ s.tickNo + 1 ∧ windowOpen c at_ = false then s.closeSlot n k else s) s

/-- The entry of a committed slot is withdrawn: in the tick of its commit it never leaves (R85: a CANCEL beats a commit); later it
is cancelled through the lane. -/
def State.withdraw (s : State) (n k : Nat) : State :=
  let c := s.slot n k
  let mine (d : Nat × QEntry) : Bool := decide (d.2.held = some (n, k + 256 * c.gen))
  if c.born = s.tickNo + 1 ∧ s.commits.any mine = true then { s with commits := s.commits.filter (fun d => !mine d) }
  else s.laneSend n k none

/-- A committed slot with an open window returns to armed, its entry withdrawn (R91, R99, R100). -/
def State.rearmSlot (s : State) (n k : Nat) : State :=
  (s.withdraw n k).setSlot n k { s.slot n k with state := 1, pred := none }

/-- Commits of this very tick are taken back: an edge, a jump or a program operation of the tick comes before them (R85), and they
are judged anew after it. -/
def State.uncommit (s : State) (n : Nat) : State :=
  (s.liveSlots n).foldl (fun s k =>
    let c := s.slot n k
    if c.state = 2 ∧ c.born = s.tickNo + 1 ∧ s.commits.any (fun d => decide (d.2.held = some (n, k + 256 * c.gen))) = true then
      s.rearmSlot n k
    else s) s

/-- Amend a committed slot to time `t` (R89). -/
def State.amendSlot (s : State) (n k : Nat) (t : Stamp) : State :=
  let c := s.slot n k
  (s.laneSend n k (some t)).setSlot n k { c with time := t, pred := some t, amended := true, coast := (s.mt n).outside }

/-- Take a new prediction for one slot (R86, R87, R89, R91); `commit` says that the instant is one at which a slot commits (R87). A
committed entry whose time has come stands without a prediction. -/
def State.takePrediction (s : State) (n k : Nat) (commit : Bool) (p : Option Stamp) : State :=
  let c := s.slot n k
  match c.state, p with
  | 1, some t =>
    if commit = true ∧ stampDiff t s.now ≤ (s.horizon n : Nat) then s.commitSlot n k t else s.setSlot n k { c with pred := some t }
  | 1, none => s.setSlot n k { c with pred := none }
  | 2, some t => if s.act MT_HORIZON_AMENDTOL n < (stampDiff t c.time).natAbs then s.amendSlot n k t else s
  | 2, none => if 0 < stampDiff c.time s.now then s.rearmSlot n k else s
  | _, _ => s

/-- Judge the fixed entries after window close (R91): amend-failed once for each that a prediction would move. -/
def State.judgeWatch (s : State) (n : Nat) : State :=
  let x := s.mt n
  let live := x.watch.filter (fun w => decide (0 < stampDiff w.time s.now))
  let miss (w : Watch) : Bool := match x.predict { x := w.x, dir := w.dir } with
    | some t => decide (s.act MT_HORIZON_AMENDTOL n < (stampDiff t w.time).natAbs)
    | none => true
  let s := s.setMt n { x with watch := live.filter (fun w => !miss w) }
  (live.filter miss).foldl (fun s w => s.mtSlotRecord n w.slot s.now 0x1B w.tag) s

/-- Re-predict every armed and committed slot (R86), where the tracker predicts. -/
def State.repredict (s : State) (n : Nat) (commit : Bool) : State :=
  if s.predicts n then
    ((s.liveSlots n).foldl (fun s k => s.takePrediction n k commit ((s.mt n).predict (s.slot n k))) s).judgeWatch n
  else
    (s.liveSlots n).foldl (fun s k => s.setSlot n k { s.slot n k with pred := none }) s

/-- Cancel committed entries with an open window and re-arm their slots; armed predictions lapse (R99, R100). -/
def State.rearmAll (s : State) (n : Nat) : State :=
  (s.liveSlots n).foldl (fun s k =>
    let c := s.slot n k
    if c.state = 2 then s.rearmSlot n k else s.setSlot n k { c with pred := none }) s

/-- Report every watched entry as amend-failed (R91, R99). -/
def State.failWatch (s : State) (n : Nat) : State :=
  let x := s.mt n
  let live := x.watch.filter (fun w => decide (0 < stampDiff w.time s.now))
  live.foldl (fun s w => s.mtSlotRecord n w.slot s.now 0x1B w.tag) (s.setMt n { x with watch := [] })

/-- Cancel one slot: freed, its open committed entry cancelled through the lane, with a cancel-report (R84, R98, R101). -/
def State.cancelSlot (s : State) (n k : Nat) : State :=
  let c := s.slot n k
  let s := if c.state = 2 then s.withdraw n k else s
  (s.freeSlot n k).mtSlotRecord n k s.now 0x1A c.tag

/-- Cancel every armed slot and every committed one whose window is open; the number cancelled (R98, R101). -/
def State.cancelAllSlots (s : State) (n : Nat) : State × Nat :=
  let s := s.closeDue n s.now
  let ks := s.liveSlots n
  (ks.foldl (fun s k => s.cancelSlot n k) s, ks.length)

/-! ### Jumps (R83) -/

/-- Change the WAITPs on tracker `n` (R191). -/
def State.mapWaitp (s : State) (n : Nat) (f : Waiting → Waiting) : State :=
  (List.range 33).foldl (fun s q =>
    match (s.seq q).wait with
    | some w => match w.what with
      | .pos m _ _ _ _ => if m = n then s.setSeq q { s.seq q with wait := some (f w) } else s
      | _ => s
    | none => s) s

/-- A position wait goes on from the jumped position (R191). -/
def rebaseWait (p : Int) (w : Waiting) : Waiting :=
  match w.what with
  | .pos m x d _ met => { w with what := .pos m x d p met }
  | _ => w

/-- The position jumps to raw value `p` at instant `t`: the model's frame moves so that it holds there. -/
def State.jump (s : State) (n : Nat) (p : Int) (t : Stamp) : State :=
  let s := ((s.closeDue n s.now).uncommit n).notePos n t
  let x := s.mt n
  let s := s.setMt n { x with
    pos := p, base := t, jumped := true
    mPos := counts p - coastBy x.v x.a (stampDiff t x.mBase)
    slots := x.slots.map (fun c => (c.1, { c.2 with seen := if c.2.state = 0 then none else some p })) }
  (s.mapWaitp n (rebaseWait p)).repredict n true

/-! ### Edges (R70 to R77) -/

/-- Levels of A and B after an edge, and the count it makes: +1 FWD, −1 REV, none (R70). -/
def decodeEdge (mode : Nat) (inv : Bool) (a b : Bool) (e : PendEdge) : Bool × Bool × Option Int :=
  let sgn (fwd : Bool) : Option Int := some (if fwd != inv then 1 else -1)
  if e.line = 0 then
    let c := if a = e.rise then none
      else match mode with
        | 0 => sgn (if e.rise then !b else b)
        | 1 => if e.rise then sgn b else none
        | 2 => if e.rise then sgn true else none
        | _ => if e.rise then sgn false else none
    (e.rise, b, c)
  else (a, e.rise, if b = e.rise then none else if mode = 0 then sgn (if e.rise then a else !a) else none)

/-- The referred velocity of the newest edge `e` over the edges before it, with the acceleration `a` in force (R76). -/
def velocityOf (win : Nat) (a : Rat) (t : Stamp) (n : Int) (hist : List TEdge) : Rat :=
  match (hist.take win).getLast? with
  | none => 0
  | some o =>
    let dt : Rat := (stampDiff t o.t : Int)
    if dt = 0 then 0 else ((n - o.n : Int) : Rat) / dt + a * dt / 2

/-- The acceleration at the newest edge: the change of referred velocity over the window (R77); edges that have a
velocity are those after the first of the run. -/
def accelOf (win : Nat) (v : Rat) (t : Stamp) (hist : List TEdge) : Rat :=
  match (hist.dropLast.take win).getLast? with
  | none => 0
  | some o =>
    let dt : Rat := (stampDiff t o.t : Int)
    if dt = 0 then 0 else (v - o.v) / dt

/-- |â| exceeds MT.AMAX, an unsigned 16.16 value in counts per ms² (R94); AMAX 0 turns the check off. -/
def State.overEnvelope (s : State) (n : Nat) (a : Rat) : Bool :=
  let m := s.act MT_AMAX_AMAX n
  decide (m ≠ 0) && decide ((m : Rat) < |a| * 65536 * 1600000000000000)

/-- â in the format of R77, as a word. -/
def accWord (a : Rat) : Nat := word (truncRat (a * 65536 * 1600000000000000))

/-- v in the format of R6, as a word: 16.16 counts per µs. -/
def velWord (v : Rat) : Nat := word (truncRat (v * 65536 * 40000))

/-- T_exp in steps after the newest edge; none if the model stops before the next count (R95, R100). DESIGN CHOICE (log entry
126): it is rounded to a whole step, as R86 rounds a crossing, before DROPK multiplies it. -/
def Tracker.texp (x : Tracker) : Option Nat :=
  if x.v = 0 then none else stepsTo |x.v| (if 0 < x.v then x.a else -x.a) 1 (x.mBase.toNat % 2)

/-- Dropout deadline and predicted stop from the model (R95, R100). -/
def State.setDeadlines (s : State) (n : Nat) : State :=
  let x := s.mt n
  if x.st = .track ∨ (x.st = .acq ∧ x.model = true) then
    match x.texp with
    | some t => s.setMt n { x with dropAt := some (x.mBase + BitVec.ofNat 64 (s.dropK n * t)), stopAt := none }
    | none => s.setMt n { x with
        dropAt := none
        stopAt := (stopAfter x.v x.a).map (fun z => x.mBase + BitVec.ofInt 64 z.ceil) }
  else s.setMt n { x with dropAt := none, stopAt := none }

/-- SUP.READY bit 13 (R482): every enabled tracker has entered TRACK since its EN was set. -/
def State.syncReady13 (s : State) : State :=
  let on := (List.range 8).filter (fun n => s.bit MT_CTRL_EN n)
  s.setReady 13 (!on.isEmpty && on.all (fun n => (s.mt n).ready))

/-- Enter a state, as MT.STATUS.STATE reports it (R80). -/
def State.mtGo (s : State) (n : Nat) (st : MtState) : State := s.setMt n { s.mt n with st := st }

/-- The tracker applies its fault policy at COAST_LIMIT (R98). -/
def State.coastLimit (s : State) (n : Nat) : State :=
  let p := s.policy n
  let s := s.mtGo n .overlimit
  let s := s.setMt n { s.mt n with limitAt := none, limited := s.tickNo + 1 }
  let (s, k) := if p = 1 then (s, 0) else s.cancelAllSlots n
  let s := s.raise 0x0207 (mtSrc n) [n, p, k]
  let s := if p = 1 then s else s.repredict n false
  if p = 2 then (List.range 32).foldl (fun s i => s.safeSet i (s.actI MT_SAFESET_MASK n i)) s else s

/-- Enter COAST (R95, R94), with the tracker's loop held; a LIMIT of 0 applies the policy at once (R98). `from_` is where
COAST_LIMIT counts from. -/
def State.enterCoast (s : State) (n : Nat) (from_ : Stamp) (texp : Nat) (breach : Bool) : State :=
  let (p, s) := s.posNow n
  let s := s.raise 0x0205 (mtSrc n) ([n, texp / 32] ++ two (BitVec.ofInt 64 p))
  let lim := s.act MT_COAST_LIMIT n
  let s := s.notePos n s.now
  let s := s.setMt n { s.mt n with
    st := .coast, model := true, dropAt := none, stopAt := none, breachCoast := breach
    limitAt := some (from_ + BitVec.ofNat 64 (40000 * lim)) }
  let s := s.mpllTrackerHold n
  let s := s.mtPosRecord n s.now 0x33 p
  if lim = 0 then s.coastLimit n else s

/-- The model's position and velocity at an instant (R96). -/
def Tracker.modelAt (x : Tracker) (t : Stamp) : Rat × Rat :=
  let dt : Rat := (stampDiff t x.mBase : Int)
  let stopped := match stopAfter x.v x.a with
    | some z => decide (z ≤ dt)
    | none => false
  (x.mPos + coastBy x.v x.a dt, if stopped then 0 else x.v + x.a * dt)

/-- A coast ends at the count edge at `t` (R94, R97): ACQ, on the coasted model unless OVERLIMIT held or made safe. DESIGN CHOICE
(log entry 127): the difference of the 0x0206 record is the counted position less the coasted one. -/
def State.endCoast (s : State) (n : Nat) (t : Stamp) : State :=
  let x := s.mt n
  let keep := decide (x.st = .coast) || decide (s.policy n = 1)
  let (mp, mv) := x.modelAt t
  let diff : Rat := (x.pos : Rat) - 65536 * mp
  let s := if 65536 < |diff| then s.raise 0x0206 (mtSrc n) ([n] ++ two (BitVec.ofInt 64 (truncRat diff))) else s
  let s := s.setMt n { x with
    st := .acq, model := keep, breachCoast := false, limitAt := none
    v := if keep then mv else 0
    a := if keep ∧ mv ≠ 0 then x.a else 0
    mBase := t, mPos := counts x.pos, stale := true, sameDir := 1, hist := [{ t := t, n := x.n, v := 0 }] }
  (s.mpllTrackerFree n).mtPosRecord n t 0x34 x.pos

/-- A count edge at which the tracker has no â lies within the envelope (R77, R94). -/
def State.breachClear (s : State) (n : Nat) : State :=
  (s.setMt n { s.mt n with breachRun := 0 }).setBit MT_STATUS_BREACH n false

/-- A reversal (R99): ACQ in the new direction without a model; open committed entries are cancelled, fixed ones reported. -/
def State.reverse (s : State) (n : Nat) (t : Stamp) : State :=
  let s := s.mtPosRecord n t 0x31 (s.mt n).pos
  let x := s.mt n
  let s := s.setMt n { x with
    st := .acq, model := false, breachCoast := false, limitAt := none, v := 0, a := 0, stale := true, sameDir := 1
    mBase := t, mPos := counts x.pos, hist := [{ t := t, n := x.n, v := 0 }] }
  ((s.mpllTrackerFree n).rearmAll n).failWatch n

/-- The glitch span of a line in steps (R72). -/
def State.glitchSpan (s : State) (n line : Nat) : Nat :=
  32 * (if line = 2 then s.act MT_FILT_IGLITCH n else s.act MT_FILT_GLITCH n)

/-- The instant at which the edge at `t` that moved the position from `old` to `new` carried it through `x`, linear from the
previous count edge at `at_` (R92); none held, `t`. -/
def crossingTime (old new x : Int) (at_ : Option Stamp) (t : Stamp) : Stamp :=
  match at_ with
  | some t0 =>
    let r : Rat := ((x - old : Int) : Rat) / ((new - old : Int) : Rat) * ((stampDiff t t0 : Int) : Rat)
    let m := r.floor
    let twice : Rat := 2 * (r - m)
    let up : Bool := decide (1 < twice) || (decide (twice = 1) && decide ((t0.toNat + m) % 2 ≠ 0))
    t0 + BitVec.ofInt 64 (m + if up then 1 else 0)
  | none => t

/-- Slots that the edge carries the position through: an armed one commits at once (R82, R92), the entry of a committed one whose
window is open is amended to the crossing (R89, R92; log entry 95). `old` is the position before the edge, `at_` the interpolation
base: the previous count edge's instant, none where the tracker holds none. X lies between the two counted positions; for a slot
armed since the last edge, X is also ahead of the position read as it was armed, which may be a coasted one (R82). A slot armed in
this very tick does not count the crossing (R85). -/
def State.crossArmed (s : State) (n : Nat) (old : Int) (at_ : Option Stamp) (t : Stamp) : State :=
  let new := (s.mt n).pos
  (s.liveSlots n).foldl (fun s k =>
    let c := s.slot n k
    let p := c.seen.getD old
    let fwd := decide (p < c.x) && decide (old < c.x) && decide (c.x ≤ new)
    let rev := decide (c.x < p) && decide (c.x < old) && decide (new ≤ c.x)
    let late := decide (c.armedAt = s.tickNo + 1)
    let s := s.setSlot n k { c with seen := if late then some new else none }
    if late = false ∧ ((fwd = true ∧ c.dir ≠ 1) ∨ (rev = true ∧ c.dir ≠ 0)) then
      let hit := crossingTime old new c.x at_ t
      if c.state = 1 then s.commitSlot n k hit else s.amendSlot n k hit
    else s) s

/-- TRACK is entered after 2^VAVG + 1 count edges in one direction (R80). -/
def State.checkTrack (s : State) (n : Nat) : State :=
  let x := s.mt n
  if x.st = .acq ∧ s.vWin n + 1 ≤ x.sameDir then
    (s.setMt n { x with st := .track, model := true, ready := true }).syncReady13
  else s

/-- The estimates at a count edge of a run that goes on (R76, R77), with the envelope check (R94). -/
def State.estimate (s : State) (n : Nat) (t : Stamp) : State :=
  let x := s.mt n
  let h := x.hist
  let aOld := match h with
    | [] => 0
    | o :: rest => if s.aWin n + 1 ≤ x.sameDir then accelOf (s.aWin n) o.v o.t rest else 0
  let run := x.sameDir + 1
  let v := velocityOf (s.vWin n) aOld t x.n h
  let a := accelOf (s.aWin n) v t h
  let fresh := decide (s.aWin n + 1 ≤ run)
  let a := if fresh then a else 0
  let hist := ({ t := t, n := x.n, v := v } :: h).take 70
  let above := s.overEnvelope n a
  let x := { x with hist := hist, sameDir := run, stale := !fresh, breachRun := if above then x.breachRun + 1 else 0 }
  let held := x.st = .coast ∨ x.st = .overlimit
  let onModel := decide (x.st = .acq) && x.model && decide (run < s.vWin n + 1)
  let x :=
    if held then x
    else if onModel then
      let (_, mv) := x.modelAt t
      { x with v := mv, a := if mv = 0 then 0 else x.a, mBase := t, mPos := counts x.pos }
    else if x.st = .acq ∧ run < s.vWin n + 1 then { x with mBase := t, mPos := counts x.pos }
    else { x with v := v, a := a, mBase := t, mPos := counts x.pos, good := if above then x.good else (v, a) }
  let s := s.setMt n x
  if above then
    if max 1 (s.act MT_EST_BREACHN n) ≤ x.breachRun ∧ s.bit MT_STATUS_BREACH n = false then
      (s.setBit MT_STATUS_BREACH n true).raise 0x0203 (mtSrc n) [n, accWord a]
    else s
  else s.setBit MT_STATUS_BREACH n false

/-- A breach with BREACHACT starts a coast on the last estimates within the envelope (R94). -/
def State.breachStart (s : State) (n : Nat) (t : Stamp) (was : Bool) : State :=
  let x := s.mt n
  if s.actBit MT_CTRL_BREACHACT n && s.bit MT_STATUS_BREACH n && !was &&
      (decide (x.st = .track) || (decide (x.st = .acq) && x.model)) then
    let texp := (x.texp).getD 0
    let s := s.setMt n { x with v := x.good.1, a := x.good.2 }
    s.enterCoast n t texp true
  else s

/-- A count edge in direction `d` at `t`, `span` steps in the filter (R71, R74, R80, R92 to R99); `gain` is the count it makes, 0
where overspeed loses it. -/
def State.countEdge (s : State) (n : Nat) (t : Stamp) (span : Nat) (d gain : Int) : State :=
  let x := s.mt n
  let first := x.hist.isEmpty
  let s := match x.hist with
    | o :: _ => if stampDiff t o.t < 1600 then
        (s.bump MT_ERRCNT_OVERSPEED n).raise 0x0202 (mtSrc n) [n, (stampDiff t o.t).natAbs] else s
    | [] => s
  let s := ((s.closeDue n (t + BitVec.ofNat 64 span)).uncommit n).notePos n t
  let x := s.mt n
  let old := x.pos
  let at_ := if first || x.jumped then none else some x.base
  let reversal := !first && (decide (d < 0) != x.dirRev)
  let ended := x.extrapolates
  let still := decide (x.st = .still)
  let was := s.bit MT_STATUS_BREACH n
  let pos := signedOf 64 (wrapOf 64 ((old / 65536 + gain) * 65536))
  let s := s.setMt n { x with
    pos := pos, base := t, jumped := false, n := x.n + gain, dirRev := decide (d < 0) }
  let s := s.setBit MT_STATUS_DIR n (decide (d < 0))
  let x := s.mt n
  let s :=
    if reversal then ((if ended || x.breachCoast then s.endCoast n t else s).reverse n t).breachClear n
    else if ended then (s.endCoast n t).breachClear n
    else if still || first then
      (s.setMt n { x with
        st := .acq, model := false, v := 0, a := 0, stale := true, sameDir := 1, mBase := t, mPos := counts pos
        hist := [{ t := t, n := x.n, v := 0 }] }).breachClear n
    else s.estimate n t
  let s := if (s.mt n).breachCoast && was && !s.bit MT_STATUS_BREACH n then s.endCoast n t else s
  let s := s.checkTrack n
  let s := s.crossArmed n old at_ t
  let s := s.breachStart n t was
  (s.repredict n true).setDeadlines n

/-! ### Meanings -/

/-- The channel of an encoder line (R69): 0 A, 1 B, 2 I. -/
def State.lineChannel (s : State) (n line : Nat) : Nat :=
  if line = 0 then s.fld MT_INSEL_ACH n else if line = 1 then s.fld MT_INSEL_BCH n else s.fld MT_INSEL_ICH n

/-- ENCODER_EDGE (R69, R72): an edge, timestamped `t` before deskew, enters the glitch filter, or leaves it with the
opposite edge before it. DESIGN CHOICE (log entry 107): the blind window of the channel's own capture (R122) keeps no edge from
the tracker. -/
def execEncoderEdge (n : Fin 8) (line : Fin 3) (rise : Bool) (t : Stamp) (s : State) : Host.Outcome State Fault Refusal :=
  let n := n.val
  let c := s.lineChannel n line.val
  let s := s.reachTickOf t
  if !(s.bit MT_CTRL_EN n && s.captureSees c (tickOf (s.realOf t)) && s.time.counting) then .next s
  else
    let ts := t + BitVec.ofInt 64 (deskew (s.act SILL_DSK_CDSK c))
    let x := s.mt n
    let e : PendEdge := { t := ts, line := line.val, rise := rise, span := s.glitchSpan n line.val }
    let last := (x.filt.filter (fun o => decide (o.line = line.val))).getLast?
    match last with
    | some o =>
      if o.rise ≠ rise ∧ stampDiff ts o.t < (o.span : Nat) then
        .next (((s.setMt n { x with filt := x.filt.erase o }).bump MT_ERRCNT_GLITCH n).raiseFirst 0x0201 (mtSrc n)
          [n, line.val])
      else .next (s.setMt n { x with filt := x.filt ++ [e] })
    | none => .next (s.setMt n { x with filt := x.filt ++ [e] })

/-- The edge of A or B with the earliest timestamp in the filters (R71); of equal ones the one that came first. -/
def Tracker.nextEdge (x : Tracker) : Option PendEdge :=
  (x.filt.filter (fun e => decide (e.line ≠ 2))).foldl (fun b e =>
    match b with
    | none => some e
    | some o => if stampDiff e.t o.t < 0 then some e else some o) none

/-- COUNT_EDGE (R70 to R74): the oldest edge of A or B, by its timestamp (R71), passes the filter. Under overspeed the count is
not guaranteed (R71): whether the edge, which is processed all the same, counts is a free value. -/
def execCountEdge (n : Fin 8) (s : State) : Host.Outcome State Fault Refusal :=
  let n := n.val
  let x := s.mt n
  match x.nextEdge, s.bit MT_CTRL_EN n with
  | some e, true =>
    let s := s.reachStamp (e.t + BitVec.ofNat 64 e.span)
    let (a, b, c) := decodeEdge (s.fld MT_CTRL_MODE n) (s.bit MT_CTRL_INVERT n) x.lvlA x.lvlB e
    let s := s.setMt n { x with filt := x.filt.erase e, lvlA := a, lvlB := b }
    match c with
    | none => .next s
    | some d =>
      let near := match x.hist with
        | o :: _ => decide (stampDiff e.t o.t < 1600)
        | [] => false
      let (f, s) := s.freeNat
      .next (s.countEdge n e.t e.span d (if near && bitOf f 0 then 0 else d))
  | _, _ => .next s

/-- INDEX_EDGE (R73, R83, R102): the position latched is that at the edge's own timestamp, also where a later count edge has been
taken before it (DESIGN CHOICE, log entry 108); the mark record carries the position before the set, under IDXMODE 2 and 3 too
(DESIGN CHOICE, log entry 125). Under IDXMODE 2 the staging copy reads 1 too, whatever it held (DESIGN CHOICE, log entry 109). -/
def execIndexEdge (n : Fin 8) (s : State) : Host.Outcome State Fault Refusal :=
  let n := n.val
  let x := s.mt n
  match x.filt.find? (fun e => decide (e.line = 2)), s.bit MT_CTRL_EN n with
  | some e, true =>
    let s := s.reachStamp (e.t + BitVec.ofNat 64 e.span)
    let s := s.setMt n { x with filt := x.filt.erase e }
    if e.rise = s.actBit MT_CTRL_IDXEDGE n then .next s
    else
      let (c, s) := s.freeNat
      let p := s.posWith n e.t c
      let mode := s.fld MT_CTRL_IDXMODE n
      let s := if mode = 0 then s
        else (s.setFld MT_IDXPOS_LO_ILO n (wrapOf 64 p)).setFld MT_IDXPOS_HI_IHI n (wrapOf 64 p / 2 ^ 32)
      let s := s.mtPosRecord n e.t 0x17 p
      if mode < 2 then .next s
      else
        let s := if mode = 2 then (s.setFld MT_CTRL_IDXMODE n 1).setStagedI MT_CTRL_IDXMODE n 0 1 else s
        .next ((s.jump n (65536 * signedOf 32 (s.fld MT_IDXVAL_IVAL n)) e.t).setDeadlines n)
  | _, _ => .next s

/-- The lowest-numbered free slot (R81). -/
def Tracker.freeSlot (x : Tracker) : Option Nat := (List.range 256).find? (fun k => decide ((x.slot k).state = 0))

/-- A position entry reaches a tracker (R81, R82, R87). Where the fault policy has cancelled the tracker's slots in this very
tick, the operation came before it (R85) and its slot is cancelled too. -/
def State.posEntryCame (s : State) (q n : Nat) (x : Int) (dir action ch width tag : Nat) : State :=
  if !s.owns q .sill ch then s.raise 0x0305 (mtSrc n) [q, ch]
  else
    match (s.mt n).freeSlot with
    | none => s.raise 0x0204 (mtSrc n) [n, q, tag]
    | some k =>
      let (p, s) := s.posNow n
      let s := s.setSlot n k { x := x, state := 1, dir := dir, action := action, owner := q, ch := ch, width := width, tag := tag,
                               seen := some p, gen := (s.slot n k).gen, armedAt := s.tickNo + 1 }
      if (s.mt n).st = .overlimit ∧ (s.mt n).limited = s.tickNo + 1 ∧ s.policy n ≠ 1 then s.cancelSlot n k
      else if s.predicts n then s.takePrediction n k true ((s.mt n).predict (s.slot n k)) else s

/-- LAUNCHP_ARRIVAL (R81). -/
def execLaunchpArrival (q : Fin 33) (n : Fin 8) (x : Stamp) (dir : Fin 3) (action : Fin 8) (ch : Fin 1024)
    (width tag : Half) (s : State) : Host.Outcome State Fault Refusal :=
  .next (s.deliver q.val (fun p => decide (p = .posEntry n.val x.toInt dir.val action.val ch.val width.toNat tag.toNat))
    (fun s => s.posEntryCame q.val n.val x.toInt dir.val action.val ch.val width.toNat tag.toNat))

/-- TRACKER_CANCEL (R84, R229): a CANCEL reaches a tracker. -/
def execTrackerCancel (q : Fin 33) (n : Fin 8) (ch : Fin 1024) (tag : Half) (all : Bool) (s : State) :
    Host.Outcome State Fault Refusal :=
  .next (s.deliverCancel q.val (BitVec.ofNat 16 ch.val) tag.toNat all n.val (fun s =>
    if !s.owns q.val .sill ch.val then s
    else
      let s := s.closeDue n.val s.now
      (s.liveSlots n.val).foldl (fun s k =>
        let c := s.slot n.val k
        if c.ch = ch.val ∧ (all = true ∨ c.tag = tag.toNat) then s.cancelSlot n.val k else s) s))

/-- A position amendment reaches a tracker (R84, R228). An entry committed in this very tick is still armed for it (R85). -/
def State.posAmendCame (s : State) (q n ch tag : Nat) (x : Int) : State :=
  if !s.owns q .sill ch then s.raise 0x0305 (mtSrc n) [q, ch]
  else
    let s := s.closeDue n s.now
    match (s.liveSlots n).find? (fun k => decide ((s.slot n k).ch = ch) && decide ((s.slot n k).tag = tag)) with
    | none => s.sillRecord ch s.now 0x1B 0 (tag % 2 ^ 16)
    | some k =>
      let (p, s) := s.posNow n
      let again := decide ((s.slot n k).state = 2) && decide ((s.slot n k).born = s.tickNo + 1)
      let s := if again then s.rearmSlot n k else s
      let s := s.setSlot n k { s.slot n k with x := x, seen := some p }
      if s.predicts n then s.takePrediction n k again ((s.mt n).predict (s.slot n k)) else s

/-- TRACKER_AMEND (R84, R228). -/
def execTrackerAmend (q : Fin 33) (n : Fin 8) (ch : Fin 1024) (tag : Half) (x : Stamp) (s : State) :
    Host.Outcome State Fault Refusal :=
  .next (s.deliver q.val (fun p => decide (p = .amendPos n.val ch.val tag.toNat x.toInt))
    (fun s => s.posAmendCame q.val n.val ch.val tag.toNat x.toInt))

/-- HORIZON_BACKSTOP (R87): now = t̂ − H ÷ 2. -/
def execHorizonBackstop (n : Fin 8) (slot : Fin 256) (s : State) : Host.Outcome State Fault Refusal :=
  let c := s.slot n.val slot.val
  match c.state, c.pred with
  | 1, some t =>
    if s.predicts n.val then
      .next ((s.reachStamp (t - BitVec.ofNat 64 (s.horizon n.val / 2))).commitSlot n.val slot.val t)
    else .next s
  | _, _ => .next s

/-- COMMIT_RETRY (R88): a commit that waits for a full queue tries again. -/
def execCommitRetry (n : Fin 8) (slot : Fin 256) (s : State) : Host.Outcome State Fault Refusal :=
  match s.sills.find? (fun c => c.2.waiting.any (fun w => ofSlot n.val slot.val w.2.held)) with
  | some c => .next (s.admitWaiting c.1)
  | none => .next s

/-- WINDOW_CLOSE (R90): 24 ns before launch. -/
def execWindowClose (n : Fin 8) (slot : Fin 256) (s : State) : Host.Outcome State Fault Refusal :=
  let c := s.slot n.val slot.val
  if c.state = 2 then .next ((s.reachTickOf (c.time - 960)).closeSlot n.val slot.val) else .next s

/-- DROPOUT (R95). -/
def execDropout (n : Fin 8) (s : State) : Host.Outcome State Fault Refusal :=
  let x := s.mt n.val
  match x.dropAt with
  | some d => .next ((s.reachStamp d).enterCoast n.val x.mBase (x.texp.getD 0) false)
  | none => .next s

/-- COAST_AMEND (R91, R96): the extrapolated model predicts again. -/
def execCoastAmend (n : Fin 8) (s : State) : Host.Outcome State Fault Refusal :=
  let x := s.mt n.val
  if x.st = .coast ∨ x.st = .overlimit then .next ((s.closeDue n.val s.now).repredict n.val false) else .next s

/-- COAST_LIMIT (R98). -/
def execCoastLimit (n : Fin 8) (s : State) : Host.Outcome State Fault Refusal :=
  let x := s.mt n.val
  match x.limitAt with
  | some d => if x.st = .coast then .next ((s.reachStamp d).coastLimit n.val) else .next s
  | none => .next s

/-- STANDSTILL (R100). -/
def execStandstill (n : Fin 8) (s : State) : Host.Outcome State Fault Refusal :=
  let n := n.val
  match (s.mt n).stopAt with
  | none => .next s
  | some z =>
    let s := (s.reachStamp z).closeDue n z
    let (p, s) := s.posNow n
    let s := s.notePos n z
    let s := s.setMt n { s.mt n with st := .still, model := false, v := 0, a := 0, dropAt := none, stopAt := none, stale := true }
    .next (((s.mtPosRecord n z 0x32 p).rearmAll n).failWatch n)

/-- What a write to a tracker's registers does beyond its fields; `was` is EN before it (R70, R80, R101). -/
def State.mtWrote (s : State) (n off : Nat) (was : Bool) : State :=
  if off = 0 then
    let en := s.bit MT_CTRL_EN n
    if en && !was then
      let s := (s.setFld MT_ERRCNT_GLITCH n 0).setFld MT_ERRCNT_OVERSPEED n 0
      let x := s.mt n
      (s.setMt n { x with
        st := .acq, base := s.now, jumped := false, past := [], hist := [], v := 0, a := 0, stale := true, sameDir := 0
        model := false, breachRun := 0, breachCoast := false, dropAt := none, stopAt := none, limitAt := none, ready := false
        mBase := s.now, mPos := counts x.pos, good := (0, 0), filt := []
        lvlA := s.pinLevel (s.lineChannel n 0)
        lvlB := s.pinLevel (s.lineChannel n 1) }).syncReady13
    else if was && !en then
      let (s, _) := s.cancelAllSlots n
      let s := s.notePos n s.now
      let s := s.setMt n { s.mt n with
        st := .off, model := false, breachCoast := false, dropAt := none, stopAt := none, limitAt := none, filt := []
        watch := [], v := 0, a := 0, stale := true, ready := false }
      let s := s.mapWaitp n (fun w => { w with gone := true })
      ((s.setBit MT_STATUS_BREACH n false).mpllTrackerFree n).syncReady13
    else s
  else s

/-- The arm of a tracker (R25, R83): an armed PRESETEN sets the position, and reads 0 then in both views (DESIGN CHOICE, log entry
109). -/
def State.mtArm (s : State) (n : Nat) : State :=
  let s := s.armCopy .mt n (fun _ _ => false)
  if s.bit MT_CTRL_PRESETEN n then
    let s := (s.setFld MT_CTRL_PRESETEN n 0).setStagedI MT_CTRL_PRESETEN n 0 0
    let p := signedOf 64 (s.fld MT_PRESET_LO_SLO n + 2 ^ 32 * s.fld MT_PRESET_HI_SHI n)
    (s.jump n p s.now).setDeadlines n
  else s

/-- The code of MT.STATUS.STATE (R80). -/
def MtState.code : MtState → Nat
  | .off => 0
  | .acq => 1
  | .track => 2
  | .still => 3
  | .coast => 4
  | .overlimit => 5

/-- MT.STATUS (R103). DESIGN CHOICE (log entry 110): FRACCOAST reads 0 in OFF, its reset value, whatever MPLL_n does. -/
def State.mtStatus (s : State) (n : Nat) : Nat :=
  let x := s.mt n
  2 ^ 6 * s.fld MT_STATUS_BREACH n + 2 ^ 5 * b2n (decide (x.st ≠ .off) && s.fracCoast n) + 2 ^ 4 * b2n x.stale +
    2 ^ 3 * s.fld MT_STATUS_DIR n + x.st.code

/-- MT.SLOTS (R103). -/
def State.mtSlots (s : State) (n : Nat) : Nat :=
  let cnt (k : Nat) := ((s.mt n).slots.filter (fun c => decide (c.2.state = k))).length
  2 ^ 16 * cnt 2 + cnt 1

/-- A word of the slot view (R103). -/
def State.slotWord (s : State) (n k w : Nat) : Nat :=
  let c := s.slot n k
  match w with
  | 0 => wrapOf 64 c.x % 2 ^ 32
  | 1 => wrapOf 64 c.x / 2 ^ 32
  | 2 => 2 ^ 30 * c.state + 2 ^ 28 * c.dir + 2 ^ 24 * (c.action % 16) + 2 ^ 23 * b2n c.coast + 2 ^ 22 * b2n c.amended +
      2 ^ 16 * c.owner + c.ch
  | _ => 2 ^ 16 * (c.width % 2 ^ 16) + c.tag % 2 ^ 16

/-- A read of MT.POS_LO snapshots position, velocity and acceleration (R78). A tracker in ACQ without a model has no
velocity estimate yet (R80): its velocity reads a free value. -/
def State.snapPos (s : State) (n : Nat) : State :=
  let (p, s) := s.posNow n
  let (f, s) := s.freeNat
  let x := s.mt n
  let v := if x.estimated then velWord x.v else f % 2 ^ 32
  (((s.setFld MT_POS_LO_PLO n (wrapOf 64 p)).setFld MT_POS_HI_PHI n (wrapOf 64 p / 2 ^ 32)).setFld MT_VEL_VEL n v).setFld
    MT_ACC_ACC n (accWord x.a)

/-- POS_LO (R78). -/
def execPosLo (_q : Fin 33) (n : Fin 8) (s : State) : Host.Outcome State Fault Refusal := .next (s.snapPos n.val)

end Sys2Proof.Machine
end

