-- ==== Sys2Proof/Machine/Sequencer.lean ====
section
/-! DEFINITION. The machine of a sequencer: states, faults, waits, vectors, streams (R177 to R207). -/

namespace Sys2Proof.Machine

open Sys2Proof.F

/-! ### Running and faults (R181, R183) -/

/-- A fault (R183): the sequencer stops at the instruction; in SUP it is fatal (R495). -/
def State.seqFault (s : State) (q code : Nat) : State :=
  let x := s.seq q
  let s := (s.setFld SEQ_FAULT_CAUSE q (code % 256)).setFld SEQ_FAULT_FPC q x.pc.toNat
  let s := s.setSeq q { x with st := .faulted, stepping := false, wait := none, faultAt := s.tickNo }
  if q = 32 then (s.raise code supSrc [] true).fatal 5 else s.raise code (srcOf 8 q) []

/-- Go on at the next instruction; sequential fetch past 0xFFFC faults (R183). -/
def State.advance (s : State) (q len : Nat) : State :=
  let x := s.seq q
  if 65536 ≤ x.pc.toNat + len then s.seqFault q 0x070C else s.setSeq q { x with pc := x.pc + BitVec.ofNat 16 len }

/-- The sequencer goes back to HALTED after the instruction that STEP had it execute (R182). -/
def Seq.stepped (x : Seq) : Seq :=
  { x with stepping := false, wait := none, st := if x.st = .running ∨ x.st = .waiting then .halted else x.st }

/-- Under STEP, an instruction that has been executed, and is not one that waits (R187, R188), takes the sequencer back to HALTED.
-/
def State.stepDone (s t : State) (q : Nat) : State :=
  if (s.seq q).stepping && (decide ((t.seq q).pc ≠ (s.seq q).pc) || decide ((t.seq q).st ≠ (s.seq q).st)) then
    t.mapSeq q Seq.stepped
  else t

/-- Run an instruction of `len` bytes on sequencer `q` (R181, R211, R502): only while it is RUNNING and awake; an instruction word
at 0xFFFC that takes an extension word faults. -/
def State.issue (s : State) (q len : Nat) (f : State → State) : State :=
  if (s.seq q).st ≠ .running ∨ s.asleep = true then s
  else if (s.seq q).pc.toNat = 0xFFFC ∧ len = 8 then s.stepDone (s.seqFault q 0x070C) q
  else s.stepDone (f s) q

/-- Run an instruction that changes registers only, then go on. -/
def State.issueReg (s : State) (q len : Nat) (f : Seq → Seq) : State :=
  s.issue q len (fun s => (s.mapSeq q f).advance q len)

/-- Post an item (R187); an instruction that finds the buffer full waits for a slot. -/
def State.issuePost (s : State) (q len : Nat) (items : List Posted) : State :=
  s.issue q len (fun s =>
    let x := s.seq q
    if 8 ≤ x.post.length then s else (s.setSeq q { x with post := x.post ++ items }).advance q len)

/-- Post an item that leaves the buffer by itself as soon as its destination takes it (R185, R187). -/
def State.issueSelf (s : State) (q len : Nat) (item : Posted) : State :=
  s.issue q len (fun s =>
    let x := s.seq q
    if 8 ≤ x.post.length then s else ((s.setSeq q { x with post := x.post ++ [item] }).advance q len).drain q)

/-- Run a privileged instruction (R244): in a port sequencer it faults. -/
def State.issuePriv (s : State) (q len : Nat) (f : State → State) : State :=
  s.issue q len (fun s => if q = 32 then f s else s.seqFault q 0x0702)

/-! ### Data memory (R179) -/

/-- The fault of a data-memory access of `n` bytes at `a`: alignment first. -/
def memFault (a n : Nat) : Option Nat :=
  if a % n ≠ 0 then some 0x0703 else if 65536 < a + n then some 0x0704 else none

/-- Load `n` bytes of data memory. -/
def Seq.load (x : Seq) (a n : Nat) : Nat := leNat (readBytes x.dmem a n)

/-- Store bytes to data memory. -/
def Seq.store (x : Seq) (a : Nat) (bs : List Byte) : Seq := { x with dmem := writeBytes x.dmem a bs }

/-- Run a data-memory access of `n` bytes. -/
def State.issueMem (s : State) (q : Nat) (gb : Fin 32) (off : Half) (n : Nat) (f : Nat → Seq → Seq) : State :=
  s.issue q 4 (fun s =>
    let a := (s.seq q).memAddr gb off
    match memFault a n with
    | some c => s.seqFault q c
    | none => (s.mapSeq q (f a)).advance q 4)

/-! ### Wake vectors (R194, R195) -/

/-- Vector `k` of sequencer `q` is pending and enabled, in a mode (R195). -/
def State.vectorUp (s : State) (q mode k : Nat) : Bool :=
  bitOf (s.fld SEQ_WPEND_PEND q) k && bitOf (s.fld SEQ_WEN_EN q) k && decide (s.fldI SEQ_WVEC_MODE q k = mode)

/-- The ENTRY vector that would be taken: the lowest-numbered. -/
def State.entryVector (s : State) (q : Nat) : Option Nat := (List.range 16).find? (s.vectorUp q 1)

/-- Take ENTRY vector `k` (R195): `ret` goes to the return stack with the flags and the ENTRY marker. -/
def State.takeVector (s : State) (q k : Nat) (ret : BitVec 16) : State :=
  if 16 ≤ (s.seq q).stack.length then s.seqFault q 0x0705
  else
    let s := s.clearVector q k
    let x := s.seq q
    s.setSeq q { x with
      stack := { ret := ret, flags := x.flags, entry := true } :: x.stack
      pc := BitVec.ofNat 16 (s.fldI SEQ_WVEC_HANDLER q k / 4 * 4), st := .running, wait := none, runStart := s.tickNo }

/-! ### Waits (R189 to R193) -/

/-- The result word of a wait (R189). -/
def waitWord (code idx : Nat) : Word := BitVec.ofNat 32 (code + 256 * idx)

/-- A wait ends with a result: the word, Z, and the next instruction. -/
def State.endWait (s : State) (q gd code idx : Nat) : State :=
  let x := s.seq q
  let bars := match x.wait with
    | some { what := .barrier k _ _, .. } => storeErase x.bars k
    | _ => x.bars
  (s.setSeq q { (x.setG gd (waitWord code idx)) with
    flags := { x.flags with z := decide (code = 0) }, wait := none, st := .running, runStart := s.tickNo
    bars := bars }).advance q 4

/-- Room of a produce port's ring less the items in its write buffer (R190). -/
def State.portItems (s : State) (q p : Nat) : Nat :=
  let r := s.fldI SEQ_STREAM_RING q p
  if s.fldI SEQ_STREAM_DIR q p = 0 then s.ringFill r
  else s.ringRoom r - (storeGet [] (s.seq q).stream p).length

/-- A ring wait of port `p` is met (R190). -/
def State.ringMet (s : State) (q p : Nat) : Bool := decide (max 1 (s.fldI SEQ_STREAM_RWM q p) ≤ s.portItems q p)

/-- The port or its ring is not enabled (R191). -/
def State.ringStopped (s : State) (q p : Nat) : Bool :=
  decide (s.fldI SEQ_STREAM_EN q p ≠ 1) || !s.ringEn (s.fldI SEQ_STREAM_RING q p)

/-- The lowest-numbered POLL vector in a mask that is pending and enabled. -/
def State.pollVector (s : State) (q mask : Nat) : Option Nat :=
  (List.range 16).find? (fun k => bitOf mask k && s.vectorUp q 0 k)

/-- The lowest pending signal bit in a mask. -/
def State.signalBit (s : State) (q mask : Nat) : Option Nat := lowestBit 32 (Nat.land (s.fld SEQ_SIGPEND_PEND q) mask)

/-- The result of a wait's condition now (R190, R191), with what returning it does; none while it goes on. -/
def State.waitResult (s : State) (q : Nat) (w : Waiting) : Option (State × Nat × Nat) :=
  if w.gone then some (s, 2, 0)
  else
    match w.what with
    | .time t => if inFuture t s.now && decide (t ≠ s.now) then none else some (s, 0, 0)
    | .pos _ _ _ _ met => if met then some (s, 0, 0) else none
    | .vec mask => (s.pollVector q mask).map (fun k => (s.clearVector q k, 0, k))
    | .sig mask => (s.signalBit q mask).map (fun b =>
        (s.setFld SEQ_SIGPEND_PEND q (withoutBit (s.fld SEQ_SIGPEND_PEND q) b), 0, b))
    | .ring p => if s.ringMet q p then some (s, 0, 0) else none
    | .barrier _ done gone => if gone then some (s, 2, 0) else if done then some (s, 0, 0) else none

/-- Issue a wait (R190, R193, R195): by STEP it ends at once with TIMEOUT; a pending enabled ENTRY vector is entered
first; then `now` says whether it ends at once. -/
def State.issueWait (s : State) (q gd : Nat) (what : WaitFor) (now : State → Option (State × Nat × Nat)) : State :=
  if (s.seq q).stepping then s.endWait q gd 3 0
  else
    match s.entryVector q with
    | some k => s.takeVector q k (s.seq q).pc
    | none =>
      match now s with
      | some (s, code, idx) => s.endWait q gd code idx
      | none => s.mapSeq q (fun x => { x with
          st := .waiting, wait := some { what := what, gd := gd, start := s.tickNo } })

/-- WAIT_END (R190): the condition of the wait is met, or its source has stopped. -/
def execWaitEnd (q : Fin 33) (s : State) : Host.Outcome State Fault Refusal :=
  match (s.seq q.val).wait with
  | none => .next s
  | some w =>
    let s := match w.what with
      | .time t => s.reachStamp t
      | _ => s
    match s.waitResult q.val w with
    | some (s, code, idx) => .next (s.endWait q.val w.gd code idx)
    | none => .next s

/-- WAIT_TIMEOUT (R193): the wait has lasted WLIM µs. -/
def execWaitTimeout (q : Fin 33) (s : State) : Host.Outcome State Fault Refusal :=
  match (s.seq q.val).wait with
  | none => .next s
  | some w =>
    let lim := s.fld SEQ_WDOG_WLIM q.val
    if lim = 0 then .next s else .next ((s.reachTick (w.start + usTicks * lim)).endWait q.val w.gd 3 0)

/-- VECTOR_ENTRY (R195): an ENTRY vector is taken from a wait. -/
def execVectorEntry (q : Fin 33) (s : State) : Host.Outcome State Fault Refusal :=
  match (s.seq q.val).wait, s.entryVector q.val with
  | some _, some k => .next (s.takeVector q.val k (s.seq q.val).pc)
  | _, _ => .next s

/-- A movement from `old` to `new` reaches X in the qualified direction (R82, R191). -/
def reaches (dir : Nat) (old new x : Int) : Bool :=
  (decide (dir ≠ 1) && decide (old < x) && decide (x ≤ new)) || (decide (dir ≠ 0) && decide (x < old) && decide (new ≤ x))

/-- POSITION_COMPARATOR (R191): the comparator of a WAITP evaluates the position. -/
def execPositionComparator (q : Fin 33) (s : State) : Host.Outcome State Fault Refusal :=
  match (s.seq q.val).wait with
  | none => .next s
  | some w =>
    match w.what with
    | .pos m x d last met =>
      let (p, s) := s.posNow m
      .next (s.mapSeq q.val (fun sq => { sq with
        wait := some { w with what := .pos m x d p (met || reaches d last p x) } }))
    | _ => .next s

/-! ### Streams (R199, R200) -/

def Seq.port (x : Seq) (p : Nat) : List (BitVec 128) := storeGet [] x.stream p
def Seq.setPort (x : Seq) (p : Nat) (l : List (BitVec 128)) : Seq := { x with stream := storeSet [] x.stream p l }

/-- A stream port is enabled in a direction. -/
def State.portIs (s : State) (q p dir : Nat) : Bool :=
  decide (s.fldI SEQ_STREAM_EN q p = 1) && decide (s.fldI SEQ_STREAM_DIR q p = dir)

/-- PREFETCH_REFILL (R200, R328): a consume port prefetches the next item. -/
def execPrefetchRefill (q : Fin 33) (port : Fin 4) (ecc : Ecc) (s : State) : Host.Outcome State Fault Refusal :=
  let q := q.val
  let p := port.val
  let r := s.fldI SEQ_STREAM_RING q p
  let k := ((s.seq q).port p).length
  if s.portIs q p 0 && s.readOpen r k && s.ringEn r && s.mayConsume (agent 5 q) r && decide (k < 4) &&
      decide (k < s.ringFill r) then
    let a := s.ringAddr r (s.aheadOff r k)
    let (bs, s) := s.calderaRead (agent 5 q) a 16
    let s := s.eccSeen ecc (agent 5 q) a
    .next (s.mapSeq q (fun x => x.setPort p (x.port p ++ [itemOf bs])))
  else .next s

/-- Drain one item of a produce port's buffer into its ring; true if it went. -/
def State.drainOne (s : State) (q p : Nat) : State × Bool :=
  match (s.seq q).port p with
  | [] => (s, false)
  | x :: rest =>
    if !s.ready 4 then (s, false)
    else
      match s.ringOffer (agent 5 q) (s.fldI SEQ_STREAM_RING q p) x with
      | (s, .waits) => (s, false)
      | (s, _) => (s.mapSeq q (fun sq => sq.setPort p rest), true)

/-- WRITE_BUFFER_DRAIN (R200). -/
def execWriteBufferDrain (q : Fin 33) (port : Fin 4) (s : State) : Host.Outcome State Fault Refusal :=
  if s.portIs q.val port.val 1 then .next (s.drainOne q.val port.val).1 else .next s

/-- Flush a produce port's buffer into its ring, as far as the ring takes it (R199). -/
def State.flushPort (s : State) (q p : Nat) : State :=
  if s.portIs q p 1 then (List.range 4).foldl (fun s _ => (s.drainOne q p).1) s else s

/-- A write of SEQ.STREAM_s lands (R199, R191): flush, unbind, judge the new binding. -/
def State.streamBind (s : State) (q p v : Nat) : State :=
  let ring := bitsOf v 0 10
  let dir := bitsOf v 30 1
  let en := bitsOf v 31 1
  let s := (s.setFldI SEQ_STREAM_RWM q p (bitsOf v 16 10))
  if en = s.fldI SEQ_STREAM_EN q p ∧ dir = s.fldI SEQ_STREAM_DIR q p ∧ ring = s.fldI SEQ_STREAM_RING q p then s
  else
    let s := s.flushPort q p
    let s := s.mapSeq q (fun x => x.setPort p [])
    let s := match (s.seq q).wait with
      | some w => if w.what = WaitFor.ring p then s.mapSeq q (fun x => { x with wait := some { w with gone := true } }) else s
      | none => s
    let s := (s.setFldI SEQ_STREAM_DIR q p dir).setFldI SEQ_STREAM_RING q p ring
    if en = 0 then s.setFldI SEQ_STREAM_EN q p 0
    else
      let named := if dir = 0 then s.fld RING_CTRL_CONS ring else s.fld RING_CTRL_PROD ring
      if named = agent 5 q then s.setFldI SEQ_STREAM_EN q p 1
      else (s.setFldI SEQ_STREAM_EN q p 0).raise 0x070B (seqSrc q) [q, p, ring]

/-- A produce port's buffer cannot be flushed now, so a change of its binding waits (R199). -/
def State.streamHolds (s : State) (q p : Nat) : Bool :=
  let r := s.fldI SEQ_STREAM_RING q p
  s.portIs q p 1 && (!s.ready 4 || (s.ringEn r && s.mayProduce (agent 5 q) r &&
    (decide (s.ringRoom r < ((s.seq q).port p).length) || !s.writeOpen r)))

/-- A write of SEQ.STREAM_s changes the binding while its buffer cannot be flushed, so it waits (R199). -/
def State.streamStays (s : State) (q p v : Nat) : Bool :=
  s.streamHolds q p && (decide (bitsOf v 31 1 ≠ s.fldI SEQ_STREAM_EN q p) ||
    decide (bitsOf v 30 1 ≠ s.fldI SEQ_STREAM_DIR q p) || decide (bitsOf v 0 10 ≠ s.fldI SEQ_STREAM_RING q p))

/-! ### Start, halt, reset (R182, R204) -/

/-- Clear what START clears (R182): pending vectors are acknowledged to their sources. -/
def State.seqClear (s : State) (q : Nat) : State :=
  let s := (List.range 16).foldl (fun s k => s.clearVector q k) s
  let s := (s.setFld SEQ_SIGPEND_PEND q 0).setFld SEQ_SIGMERGE_MERGED q 0
  let keep (p : Nat) := decide (s.fldI SEQ_STREAM_DIR q p = 1)
  s.mapSeq q (fun x => { x with
    g := [], t := [], flags := {}, stack := [], alarm := none, wait := none, bars := []
    stream := x.stream.filter (fun c => keep c.1) })

/-- START from HALTED or FAULTED (R182). -/
def State.seqStart (s : State) (q : Nat) : State :=
  if (s.seq q).st = .halted ∨ (s.seq q).st = .faulted then
    let s := s.seqClear q
    s.mapSeq q (fun x => { x with
      st := .running, stepping := false, pc := BitVec.ofNat 16 (s.fld SEQ_ENTRY_ADDR q / 4 * 4), runStart := s.tickNo })
  else s

/-- RESUME from HALTED (R182). -/
def State.seqResume (s : State) (q : Nat) : State :=
  if (s.seq q).st = .halted then s.mapSeq q (fun x => { x with st := .running, stepping := false, runStart := s.tickNo }) else s

/-- HALT at the next instruction boundary; a wait is abandoned (R182). -/
def State.seqHalt (s : State) (q : Nat) : State :=
  if (s.seq q).st = .running ∨ (s.seq q).st = .waiting then s.mapSeq q (fun x => { x with st := .halted, stepping := false, wait := none })
  else s

/-- A sequencer reset (R204, R28). -/
def State.seqReset (s : State) (q : Nat) : State :=
  let s := s.seqClear q
  let s := ((s.setFld SEQ_FAULT_CAUSE q 0).setFld SEQ_FAULT_FPC q 0).setFld SEQ_FAULT_RESTARTS q 0
  (s.dropArm .seq q 0x1000).mapSeq q (fun x => { x with st := .halted, stepping := false })

/-- AUTOMATIC_RESTART (R184): 1 µs after a fault with FAULTACT set, in a port sequencer. -/
def execAutomaticRestart (q : Fin 33) (s : State) : Host.Outcome State Fault Refusal :=
  let q := q.val
  if decide ((s.seq q).st = .faulted) && s.bit SEQ_CTRL_FAULTACT q && decide (q < 32) then
    .next (((s.reachTick ((s.seq q).faultAt + usTicks)).bump SEQ_FAULT_RESTARTS q).seqStart q)
  else .next s

/-- SEQ_WATCHDOG (R203): RUNLIM µs of running in a port sequencer. -/
def execSeqWatchdog (q : Fin 33) (s : State) : Host.Outcome State Fault Refusal :=
  let q := q.val
  let lim := s.fld SEQ_WDOG_RUNLIM q
  if decide ((s.seq q).st = .running) && decide (lim ≠ 0) && decide (q < 32) then
    .next ((s.reachTick ((s.seq q).runStart + usTicks * lim)).seqFault q 0x0706)
  else .next s

/-- ALARM (R196): the alarm fires at the first tick boundary at or after its time, and disarms; while the counter stands still, no
time in the future comes. -/
def execAlarm (q : Fin 33) (s : State) : Host.Outcome State Fault Refusal :=
  match (s.seq q.val).alarm with
  | none => .next s
  | some t =>
    if s.time.counting = false ∧ inFuture t s.now ∧ t ≠ s.now then .next s
    else .next (((s.reachStamp t).mapSeq q.val (fun x => { x with alarm := none })).pendVectors q.val 4 0)

/-- A signal of sequencer `q` reaches its target (R197). -/
def execSignalArrival (q : Fin 33) (tgt : Fin 33) (bit : Fin 32) (s : State) : Host.Outcome State Fault Refusal :=
  .next (s.deliver q.val (fun p => decide (p = .signal tgt.val bit.val)) (fun s => s.signalIn tgt.val bit.val))

/-- WAITKIND of SEQ.STATUS (R207). -/
def WaitFor.kind : WaitFor → Nat
  | .time _ => 1
  | .pos .. => 2
  | .vec _ => 3
  | .sig _ => 4
  | .ring _ => 5
  | .barrier .. => 6

/-- STATE of SEQ.STATUS (R181). -/
def SeqState.code : SeqState → Nat
  | .halted => 0
  | .running => 1
  | .waiting => 2
  | .faulted => 3

/-- SEQ.STATUS (R207). -/
def State.seqStatus (s : State) (q : Nat) : Nat :=
  let x := s.seq q
  2 ^ 26 * (match x.wait with
    | some w => w.what.kind
    | none => 0) + 2 ^ 16 * x.stack.length + 2 ^ 8 * b2n x.alarm.isSome + 2 ^ 4 * x.post.length + x.st.code

end Sys2Proof.Machine
end

