-- ==== Sys2Proof/Machine/Zone.lean ====
section
/-! DEFINITION. Zones: states, resets, island clocks, gateway, attention latch, swaps, sweeping and surveys
(R250 to R272, R298 to R321). -/

namespace Sys2Proof.Machine

open Sys2Proof.F

/-! ### Plane pairs (R298) -/

/-- A field of zone-control frame 0 (R277). -/
def Plane.num (p : Plane) (a n : Nat) : Nat := leNat ((List.range n).map (fun i => storeGet 0 p.ctrl (a + i)))

def Plane.pid (p : Plane) : Nat := p.num 0 4
def Plane.routesum (p : Plane) : Nat := p.num 4 4
def Plane.golden (p : Plane) : Nat := p.num 8 8

/-- The signature of a mask plane (R309). -/
def Plane.signature (p : Plane) : Nat :=
  crc64 ((List.range 256).flatMap (fun t => (List.range 128).map (fun i => storeGet 0 p.data (512 * t + i))))

/-- The registers that describe the active personality follow its plane (R271, R299). -/
def State.showActive (s : State) (k : Nat) : State :=
  let p := s.plane k false
  ((((s.setFld ZONE_PID_ACT_PID k p.pid).setFld ZONE_GOLD_LO_GLO k (p.golden % 2 ^ 32)).setFld ZONE_GOLD_HI_GHI k
    (p.golden / 2 ^ 32)).setFld ZONE_IMIN_MIN0 k (p.num 16 2)).setFld ZONE_IMIN_MIN1 k (p.num 18 2)

/-! ### States (R268, R269) -/

/-- The STATE that a zone outside a survey is in. -/
def State.zoneState (s : State) (k : Nat) : Nat :=
  if s.bit ZONE_CTRL_HOLD k || (s.zone k).resetAt.isSome || s.bit ZONE_SIGSTAT_RELOADING k then 2
  else if (s.zone k).valid then 1 else 0

/-- Put a zone into a state; its FFAB pins switch when its personality comes or goes (R173, R268), and its islands have no edges
from before it (R269). -/
def State.putState (s : State) (k x : Nat) : State :=
  if s.fld ZONE_STATUS_STATE k = x then s
  else ((s.fabricSwitch k s.tickNo).mapZone k (fun z => { z with clocked := s.tickNo })).setFld ZONE_STATUS_STATE k x

/-- Bring STATE up to date. -/
def State.zoneSettle (s : State) (k : Nat) : State :=
  if s.fld ZONE_STATUS_STATE k = 3 then s else s.putState k (s.zoneState k)

/-- Take attention tokens of a zone: the bits clear, and the events are acknowledged (R261). -/
def State.takeTokens (s : State) (k mask : Nat) : State :=
  (List.range 32).foldl (fun s n =>
    if bitOf mask n && bitOf (s.fld ZONE_ATNPEND_PEND k) n then
      (s.setFld ZONE_ATNPEND_PEND k (withoutBit (s.fld ZONE_ATNPEND_PEND k) n)).atnAck n (.zone k)
    else s) s

/-- What a zone reset clears (R28, R269); planes, pocket RAMs, shadow and staged swap stay. -/
def State.zoneClear (s : State) (k : Nat) : State :=
  (((s.islandSettle k).emptyStages k).takeTokens k (2 ^ 32 - 1)).setFld ZONE_GWREFUSED_COUNT k 0 |>.dropArm .zone k 0x1000

/-- HOLD has been set: the zone is in RESET from the next tick boundary on (R269). -/
def State.holdReset (s : State) (k : Nat) : State := ((s.reachTick (s.tickNo + 1)).zoneClear k).zoneSettle k

/-- A zone reset by SRST begins at the next tick boundary (R269). -/
def State.zoneReset (s : State) (k : Nat) : State :=
  let s := s.reachTick (s.tickNo + 1)
  ((s.mapZone k (fun z => { z with resetAt := some s.tickNo })).zoneClear k).zoneSettle k

/-- ZONE_RESET (R246, R269, R317): an SRST with m = 2 reaches the zone; a zone under survey yields first. -/
def execZoneReset (q : Fin 33) (addr : Word) (s : State) : Host.Outcome State Fault Refusal :=
  .next (s.deliver q.val (fun p => decide (p = .srst 2 addr.toNat)) (fun s =>
    match cfgDecode (addr.toNat % 2 ^ 31) with
    | some (.zone, k, _) => if s.surveyed k then s.surveyCause k (.reset k) else s.zoneReset k
    | _ => s))

/-- ZONE_RESET_END (R269). -/
def execZoneResetEnd (zone : Fin 64) (s : State) : Host.Outcome State Fault Refusal :=
  match (s.zone zone.val).resetAt with
  | none => .next s
  | some t => .next (((s.reachTick (t + 8)).mapZone zone.val (fun z => { z with resetAt := none })).zoneSettle zone.val)

/-! ### Island clocks (R262 to R267) -/

/-- The arm of one network (R264, R265): values not accepted leave it as it was; in a BORROWED zone it stays low (R316). -/
def State.iclkArm (s : State) (k i : Nat) : State :=
  let (fs, fm, fd) := iclkFields i
  let src := s.stagedI fs k 0
  let msel := s.stagedI fm k 0
  let div := s.stagedI fd k 0
  let bad := decide (div < 2) || decide (256 < div) || (decide (src ≠ 2) && decide (8 * div < s.iclkMin k i))
  if bad then s.raise 0x0401 (srcOf 10 k) [k, i, div, s.iclkMin k i]
  else
    let same := decide (s.fld fs k = src) && decide (s.fld fm k = msel) && decide (s.fld fd k = div)
    let s := ((s.setFld fs k src).setFld fm k msel).setFld fd k div
    if same || decide (s.fld ZONE_STATUS_STATE k = 3) then s else s.iclkChange k i src msel div

/-- The arm of a zone (R265). -/
def State.zoneArm (s : State) (k : Nat) : State := ((s.islandSettle k).iclkArm k 0).iclkArm k 1

/-! ### The gateway and the attention latch (R259 to R261) -/

/-- A personality runs in the zone, so its gateway accepts items (R316). -/
def State.gateway (s : State) (k : Nat) : Bool := decide (s.fld ZONE_STATUS_STATE k = 1) && !s.asleep

/-- ENTRY_POST (R259): the gateway accepts a launch entry. -/
def execEntryPost (zone : Fin 64) (e : LaunchItem) (s : State) : Host.Outcome State Fault Refusal :=
  if s.gateway zone.val then .next { s with gwEntries := s.gwEntries ++ [(zone.val, e)] } else .next s

/-- GATEWAY_SIGNAL (R259, R197). -/
def execGatewaySignal (zone : Fin 64) (tgt : Fin 33) (bit : Fin 32) (s : State) : Host.Outcome State Fault Refusal :=
  if s.gateway zone.val then .next (s.signalIn tgt.val bit.val) else .next s

/-- A ring access that the descriptor does not name the zone for (R260). -/
def State.gwRefuse (s : State) (k r : Nat) : State :=
  (s.bump ZONE_GWREFUSED_COUNT k).raiseFirst 0x0403 (srcOf 10 k) [k, r]

/-- RING_PUSH (R259, R260): a ring that does not name the gateway discards the item as any other does (R331). -/
def execRingPush (zone : Fin 64) (ring : Fin 1024) (item : BitVec 128) (s : State) : Host.Outcome State Fault Refusal :=
  let ag := agent 7 zone.val
  if !s.gateway zone.val || !s.ready 4 then .next s
  else if s.fld RING_CTRL_PROD ring.val ≠ ag then .next ((s.gwRefuse zone.val ring.val).ringOffer ag ring.val item).1
  else .next (s.ringOffer ag ring.val item).1

/-- RING_POP (R259, R260): an empty ring keeps the pop waiting. -/
def execRingPop (zone : Fin 64) (ring : Fin 1024) (s : State) : Host.Outcome State Fault Refusal :=
  let ag := agent 7 zone.val
  let r := ring.val
  if !s.gateway zone.val || !s.ready 4 then .next s
  else if s.fld RING_CTRL_CONS r ≠ ag then
    let s := s.gwRefuse zone.val r
    .next (if s.ringEn r then s.ringNotMine ag r else s.ringOff ag r)
  else if !s.ringEn r then .next (s.ringOff ag r)
  else if s.ringFill r = 0 || !s.readOpen r 0 then .next s
  else
    let (x, s) := (s.eccRead ag (s.ringAddr r (s.fld RING_RPTR_OFF r)) 16).ringTake ag r
    .next { s with out := s.out ++ [.item zone.val x] }

/-- TIME_TAP (R259): the counter at a tick boundary at most 4 ticks ago; which one is a free value. -/
def execTimeTap (zone : Fin 64) (s : State) : Host.Outcome State Fault Refusal :=
  if s.gateway zone.val then
    let (f, s) := s.freeNat
    let t := if s.time.counting then s.now - ticks (min (f % 5) (s.now.toNat / 32)) else s.now
    .next { s with out := s.out ++ [.tap zone.val t] }
  else .next s

/-- HANDLER_TAKES_TOKEN (R261). -/
def execHandlerTakesToken (zone : Fin 64) (line : Fin 32) (s : State) : Host.Outcome State Fault Refusal :=
  if s.gateway zone.val then .next (s.takeTokens zone.val (2 ^ line.val)) else .next s

/-! ### Swaps (R299 to R305) -/

/-- Exchange two register fields of a zone. -/
def State.exchange (s : State) (k : Nat) (f g : Fld) : State :=
  let x := s.fld f k
  (s.setFld f k (s.fld g k)).setFld g k x

/-- The shadow loses its validity (R271, R312). -/
def State.dropShadow (s : State) (k : Nat) : State := (s.setBit ZONE_STATUS_SHDVALID k false).setFld ZONE_PID_SHD_PID k 0

/-- A swap of one zone at its instant (R299, R300, R304); the sweeper takes its checks of the zone again (R310). -/
def State.zoneSwap (s : State) (k : Nat) : State :=
  let s := (s.islandSettle k).fabricSwitch k s.tickNo
  let reloading := s.bit ZONE_SIGSTAT_RELOADING k
  let held := (s.zone k).valid
  let s := s.setBit ZONE_STATUS_ACTPLANE k (!s.activeB k)
  let s := s.exchange k ZONE_PID_ACT_PID ZONE_PID_SHD_PID
  let s := (s.exchange k ZONE_RELOAD_VALID ZONE_RELOAD_SHD_VALID).exchange k ZONE_RELOAD_BLOCK ZONE_RELOAD_SHD_BLOCK
  let s := (s.setBit ZONE_STATUS_SHDVALID k held).setBit ZONE_STATUS_STAGED k false
  let s := s.mapZone k (fun z => { z with valid := true })
  let s := s.showActive k
  let s := if (s.plane k false).sweep then s.setBit ZONE_SWCTL_SWEEP k true else s
  let s := if reloading then (s.setBit ZONE_SIGSTAT_RELOADING k false).dropShadow k else s
  let s := if held then s else s.setFld ZONE_PID_SHD_PID k 0
  let s : State := { s.emptyStages k with swept := s.swept.filter (fun p => decide (p.1 ≠ k)) }
  (s.zoneArm k).zoneSettle k

/-- The first zone of a set that a test names. -/
def firstZone (mask : Nat) (f : Nat → Option Nat) : Option (Nat × Nat) :=
  (maskZones mask).findSome? (fun k => (f k).map (fun r => (k, r)))

/-- Why the device refuses a set (R303): the first failing zone and the reason 1 to 4; `aligned` judges reason 4. -/
def State.swapRefused (s : State) (mask : Nat) (t : Stamp) (aligned : Bool) : Option (Nat × Nat) :=
  let late := !inFuture t s.now || decide ((t - s.now).toNat < 64 * 32)
  firstZone mask (fun k =>
    if !s.bit ZONE_STATUS_SHDVALID k then some 1
    else if s.bit ZONE_STATUS_STAGED k then some 2
    else if late then some 3
    else if !aligned then some 4 else none)

/-- Stage a set (R303). -/
def State.stageSwap (s : State) (mask : Nat) (t : Stamp) (owner : Nat) : State :=
  { ((maskZones mask).foldl (fun s k => s.setBit ZONE_STATUS_STAGED k true) s) with
    swaps := s.swaps ++ [{ time := t, mask := mask, owner := owner }] }

/-- The frame of a constellation swap goes to every device (R305). -/
def State.floodSwap (s : State) (m : Nat) (t : Stamp) (x : Bool) : State :=
  if x && s.inTree then s.flood 0x07 (leBytes 1 2 ++ leBytes 3 0 ++ leBytes 8 m ++ leBytes 8 t.toNat) else s

/-- ZSWAP_ARRIVAL (R236, R245, R302, R303, R305): a set reaches its own device's zones, and with x set it leaves by the link port;
where the sequencer does not own every zone of it here, the whole of it is discarded. -/
def execZswapArrival (q : Fin 33) (mask : BitVec 64) (t : Stamp) (x : Bool) (s : State) :
    Host.Outcome State Fault Refusal :=
  let m := mask.toNat
  .next (s.deliver q.val (fun p => decide (p = .zswap m t x)) (fun s =>
    match firstZone m (fun k => if s.owns q.val .zone k then none else some 0) with
    | some (k, _) => s.raise 0x0707 (seqSrc q.val) [q.val, cfgBase .zone k]
    | none =>
      let s := s.floodSwap m t x
      match s.swapRefused m t (!x || s.ready 6) with
      | some (k, r) => s.raise 0x0410 (srcOf 10 k) [k, r]
      | none => if m = 0 then s else s.stageSwap m t q.val))

/-- Zone `k` belongs to a set. -/
def SwapSet.has (w : SwapSet) (k : Nat) : Bool := bitOf w.mask k

/-- Take a set away: STAGED clears for its zones. -/
def State.unstage (s : State) (w : SwapSet) : State :=
  { ((maskZones w.mask).foldl (fun s k => s.setBit ZONE_STATUS_STAGED k false) s) with
    swaps := s.swaps.filter (· ≠ w) }

/-- SWAP (R299, R304): the instant of the set that holds a zone comes. -/
def execSwap (zone : Fin 64) (s : State) : Host.Outcome State Fault Refusal :=
  match s.swaps.find? (fun w => w.has zone.val) with
  | none => .next s
  | some w =>
    if s.time.counting = false ∧ inFuture w.time s.now ∧ w.time ≠ s.now then .next s
    else
      let s := (s.reachStamp w.time).unstage w
      match firstZone w.mask (fun k => if s.bit ZONE_STATUS_SHDVALID k then none else some 0) with
      | some (k, _) => .next (s.raise 0x0414 (srcOf 10 k) [k])
      | none => .next ((maskZones w.mask).foldl (fun s k => s.zoneSwap k) s)

/-- A write of UNSTAGE (R304): at least 64 ticks before the instant it unstages the whole set; later it is ignored. -/
def State.unstageWrite (s : State) (k : Nat) : State :=
  match s.swaps.find? (fun w => w.has k) with
  | some w => if 64 ≤ s.ticksTo w.time then s.unstage w else s
  | none => s

/-- The staged instant of a zone; 0 with none. -/
def State.swapTime (s : State) (k : Nat) : Stamp :=
  match s.swaps.find? (fun w => w.has k) with
  | some w => w.time
  | none => 0

/-- A read of SWTIME_LO snapshots the instant (R319). -/
def State.snapSwap (s : State) (k : Nat) : State := s.mapZone k (fun z => { z with snap := (s.swapTime k).toNat / 2 ^ 32 })

/-- SWTIME_LO (R319). -/
def execSwtimeLo (_q : Fin 33) (zone : Fin 64) (s : State) : Host.Outcome State Fault Refusal := .next (s.snapSwap zone.val)

/-! ### Sweeping and mask reloads (R310 to R312) -/

/-- The safe override of SIGPOL 2 (R311): the FFAB pins of the zone's ports, and HOLD, which as a zone reset ends a survey of the
zone (R317). -/
def State.signatureSafe (s : State) (k : Nat) : State :=
  let s := ((List.range 32).filter (fun p => decide (edgeZone p = k))).foldl (fun s p =>
    s.safeSet p ((List.range 32).foldl (fun m i => if bitOf (s.fldI PORT_PIN_FUNC p i) 2 then m + 2 ^ i else m) 0)) s
  let s := s.setBit ZONE_CTRL_HOLD k true
  if s.surveyed k then s.surveyCause k (.hold k) else s.holdReset k

/-- Address in the array of store block `b` (R287). -/
def storeAddr (b : Nat) : Nat := (b + 16) * 131072

/-- An image in the store, read through the internal path. -/
def State.storeImage (s : State) (b : Nat) : Nat → Byte := fun a => s.flashByte (storeAddr b + a)

/-- Bytes from store block `b` to the end of the store. -/
def storeSize (b : Nat) : Nat := (176 - b) * 131072

/-- First frame record of a zone in an image's mask. -/
def zoneFrame (m k : Nat) : Nat := 276 * ((maskZones m).filter (fun z => decide (z < k))).length

/-- The first check that a reload of zone `k` fails (R311): 1 to 3, 5 or 6 as R279, 9 where the image is not full or does
not carry the zone, 10 where its PID is another (log entry 48). -/
def State.reloadFails (s : State) (k : Nat) : Option Nat :=
  let b := s.fld ZONE_RELOAD_BLOCK k
  let rd := s.storeImage b
  if !s.bit ZONE_RELOAD_VALID k || decide (175 < b) then some 0
  else
    let u : ImgUse := { use := 0, full := true, perm := 2 ^ 64 - 1, size := storeSize b }
    match imgHead rd u (storeAddr b) with
    | some f => some f.step
    | none =>
      let m := imgMask rd
      let i := zoneFrame m k
      if !bitOf m k then some 9
      else
        match ((0 :: (List.range 256).map (· + 2)).map (i + ·)).findSome? (imgFrame rd (storeSize b) m) with
        | some f => some f.step
        | none => if imgNum rd (frameAt i + 8) 4 ≠ s.fld ZONE_PID_ACT_PID k then some 10 else none

/-- The zone is held in RESET for a reload of its active masks (R311). -/
def State.holdReload (s : State) (k : Nat) : State :=
  (((s.islandSettle k).emptyStages k).setBit ZONE_SIGSTAT_RELOADING k true).zoneSettle k

/-- A reload of the active masks starts, or cannot (R311). DEDUCED (log entry 133): the RESET it holds the zone in is a zone reset
to a survey, so a zone under survey yields first (R317), and the reload finds the zone's own plane active. -/
def State.startReload (s : State) (k : Nat) : State :=
  if !s.bit ZONE_RELOAD_VALID k then s.raise 0x0422 (srcOf 10 k) [k, s.fld ZONE_RELOAD_BLOCK k, 0]
  else if s.surveyed k then s.surveyCause k (.reload k)
  else s.holdReload k

/-- The masks of tile frame payloads written into a plane. -/
def Plane.putMasks (p : Plane) (rd : Nat → Byte) (i : Nat) : Plane :=
  { p with data := (List.range 256).foldl (fun m t => writeBytes m (512 * t) ((framePayload rd (i + 2 + t)).take 128)) p.data }

/-- MASK_RELOAD (R311): the reload completes, or its source fails. -/
def execMaskReload (zone : Fin 64) (s : State) : Host.Outcome State Fault Refusal :=
  let k := zone.val
  if !s.bit ZONE_SIGSTAT_RELOADING k then .next s
  else
    let b := s.fld ZONE_RELOAD_BLOCK k
    let rd := s.storeImage b
    let done := (s.arrayRead [(storeAddr b, imgLength (imgMask rd))]).setBit ZONE_SIGSTAT_RELOADING k false
    match s.reloadFails k with
    | some c => .next ((done.zoneSettle k).raise 0x0422 (srcOf 10 k) [k, b, c])
    | none =>
      let s := done.mapPlane k false (fun p => p.putMasks rd (zoneFrame (imgMask rd) k))
      let p := s.plane k false
      if p.signature = p.golden then .next (s.zoneSettle k)
      else .next ((s.zoneSettle k).signatureSafe k |>.raise 0x0423 (srcOf 10 k) [k])

/-- The sweeper checks a plane of zone `k` (R310). -/
def State.sweeps (s : State) (k : Nat) (shadow : Bool) : Bool :=
  decide (s.fld ZONE_STATUS_STATE k = 1) && s.bit ZONE_SWCTL_SWEEP k &&
    (if shadow then s.bit ZONE_STATUS_SHDVALID k && !s.bit ZONE_STATUS_LOADING k
     else !s.bit ZONE_SIGSTAT_RELOADING k)

/-- The planes of a round. -/
def State.sweepRound (s : State) : List (Nat × Bool) :=
  (List.range 64).flatMap (fun k => [(k, false), (k, true)].filter (fun p => s.sweeps p.1 p.2))

/-- A plane has been checked: the round is complete when every plane to check has been. -/
def State.sweepMark (s : State) (k : Nat) (shadow : Bool) : State :=
  let done := (k, shadow) :: s.swept
  if s.sweepRound.all (fun p => done.contains p) then
    { s with swept := [] }.setFld SUP_SWEEPSTAT_ROUNDS 0 (s.fld SUP_SWEEPSTAT_ROUNDS 0 + 1)
  else { s with swept := done }

/-- Flip mask bits of a plane: the upsets that the sweeper finds. Bit `u` is bit u mod 8 of mask byte u / 8. -/
def Plane.upset (p : Plane) (us : List (Fin 262144)) : Plane :=
  { p with data := us.foldl (fun m u =>
      let a := 512 * (u.val / 1024) + u.val / 8 % 128
      storeSet 0 m a (storeGet 0 m a ^^^ BitVec.ofNat 8 (2 ^ (u.val % 8)))) p.data }

/-- SIGNATURE_CHECK (R310 to R312): upsets since the last check flip bits of the plane, whose signature is then compared. -/
def execSignatureCheck (zone : Fin 64) (shadow : Bool) (upsets : List (Fin 262144)) (s : State) :
    Host.Outcome State Fault Refusal :=
  let k := zone.val
  let s := s.mapPlane k shadow (fun p => p.upset upsets)
  if !s.sweeps k shadow then .next s
  else
    let s := s.sweepMark k shadow
    let p := s.plane k shadow
    let sig := two (BitVec.ofNat 64 p.signature)
    if p.signature = p.golden then .next s
    else
      let s := s.bump SUP_SWEEPSTAT_MISMATCH 0
      if shadow then .next ((s.dropShadow k).raise 0x0421 (srcOf 10 k) ([k] ++ sig))
      else
        let pol := s.fld ZONE_CTRL_SIGPOL k
        let s := (s.bump ZONE_SIGSTAT_MISMATCH k).raise 0x0420 (srcOf 10 k) ([k, pol] ++ sig)
        .next (if pol = 1 then s.startReload k else if pol = 2 then s.signatureSafe k else s)

/-! ### Surveys (R313 to R318) -/

/-- Zone `k` may be surveyed again (R313): PERIOD hours after its last completed survey, 1 s after its last yield. -/
def State.surveyDue (s : State) (k : Nat) : Bool :=
  let after (t d : Nat) : Bool := decide (t = 0) || decide (t + d ≤ s.tickNo + 1)
  after (storeGet 0 s.survey.done k) (usTicks * 3600000000 * max 1 (s.fld SUP_SURVCTL_PERIOD 0)) &&
    after (storeGet 0 s.survey.yielded k) (usTicks * 1000000)

/-- A zone that may be borrowed (R314). -/
def State.borrowable (s : State) (k : Nat) : Bool :=
  let tag := (s.plane k true).tag
  let named (b : Nat) : Bool :=
    match tag with
    | none => false
    | some t =>
      let rd := s.storeImage b
      let i := zoneFrame (imgMask rd) k
      bitOf (imgMask rd) k && decide (t = (imgNum rd (frameAt i + 8) 4, imgNum rd (frameAt i + 12) 4))
  s.bit ZONE_CTRL_BORROW k && (decide (s.fld ZONE_STATUS_STATE k = 0) || decide (s.fld ZONE_STATUS_STATE k = 1)) &&
    !s.bit ZONE_STATUS_SHDVALID k && !s.bit ZONE_STATUS_STAGED k && !s.bit ZONE_STATUS_LOADING k &&
    !s.bit ZONE_SIGSTAT_SURVFAIL k &&
    ((List.range 32).all (fun p => decide (edgeZone p ≠ k) ||
      (List.range 32).all (fun i => !bitOf (s.fldI PORT_PIN_FUNC p i) 2))) &&
    (match s.selector with
    | none => true
    | some x => !named x.primary && !named x.alternate) &&
    s.surveyDue k

/-- Zone `k` is the next one in ascending order from the last surveyed (R313). -/
def State.nextSurvey (s : State) (k : Nat) : Bool :=
  let from0 := match s.survey.last with
    | some l => l + 1
    | none => 0
  ((List.range 64).map (fun i => (from0 + i) % 64)).find? s.borrowable = some k

/-- SURVEY_WRITING (R308, R313 to R315). -/
def execSurveyWriting (zone : Fin 64) (s : State) : Host.Outcome State Fault Refusal :=
  let k := zone.val
  if s.bit SUP_SURVCTL_EN 0 && decide (s.fld SUP_SURVSTAT_PHASE 0 = 0) && s.ready 0 && s.nextSurvey k && s.wearOpen then
    let s := (s.arrayRead [(0x100000 * s.fld FLASH_STATUS_ACTBOOT 0, 917504)]).wearCommit [(k, !s.activeB k)]
    let s := s.mapPlane k true (fun _ => {})
    let s := (s.setFld SUP_SURVSTAT_PHASE 0 1).setFld SUP_SURVSTAT_ZONE 0 k
    .next { s with survey := { s.survey with causes := [], last := some k } }
  else .next s.flashRead

/-- A survey swap (R315): only the planes, STATE, what is inside the zone and the pins change; a round of the sweeper takes its
checks again (R310). -/
def State.surveySwap (s : State) (k x : Nat) : State :=
  let s := (s.islandSettle k).fabricSwitch k s.tickNo
  let s := ((s.setBit ZONE_STATUS_ACTPLANE k (!s.activeB k)).setFld ZONE_STATUS_STATE k x).emptyStages k
  { s with swept := s.swept.filter (fun p => decide (p.1 ≠ k)) }

/-- The island clock networks of a restored zone start (R265, R316). -/
def State.iclkStart (s : State) (k : Nat) : State :=
  [0, 1].foldl (fun s i =>
    let (fs, fm, fd) := iclkFields i
    let (run, s) := s.startRun k i (s.fld fs k) (s.fld fm k) (s.fld fd k) s.tickNo
    s.mapClock k i (fun _ => { run := run })) s

/-- The survey ends without a borrow or a test (R307): the routing plane keeps no tag. -/
def State.surveyGiveUp (s : State) (k frame : Nat) : State :=
  (s.setFld SUP_SURVSTAT_PHASE 0 0).raise 0x0411 (srcOf 10 k) [k, frame, b2n (!s.activeB k)]

/-- SURVEY_BORROW (R307, R314, R315): writing is complete, the plane is tagged PID 0, and at the next tick boundary the zone swaps
to the test personality, while what R314 asks for still holds. Whether a tile frame has failed its read-back twice is a free
value. -/
def execSurveyBorrow (s : State) : Host.Outcome State Fault Refusal :=
  let k := s.fld SUP_SURVSTAT_ZONE 0
  if decide (s.fld SUP_SURVSTAT_PHASE 0 = 1) && s.survey.causes.isEmpty && s.borrowable k then
    let (f, s) := s.freeNat
    if f % 257 < 256 then .next (s.surveyGiveUp k (f % 257))
    else
      let s := s.mapPlane k true (fun p => { p with tag := some (0, 0) })
      let s := s.reachTick (s.tickNo + 1)
      let s : State := { s with survey := { s.survey with home := s.fld ZONE_STATUS_STATE k } }
      .next (((s.surveySwap k 3).mapZone k (fun z => { z with clk0 := {}, clk1 := {} })).setFld SUP_SURVSTAT_PHASE 0 2)
  else .next s

/-- Pocket RAMs of undefined contents (R316): every word a free value. -/
def State.pocketFree (s : State) (k : Nat) : State :=
  (List.range 2048).foldl (fun s i =>
    let (f, s) := s.freeNat
    s.mapZone k (fun z => { z with pocket := storeSet 0 z.pocket i (f % 2 ^ 36) })) s

/-- The zone returns to its own personality, in the state it held or, if a reset or HOLD has come, in RESET. -/
def State.surveyReturn (s : State) (k : Nat) : State :=
  let s := (s.surveySwap k s.survey.home).iclkStart k
  let s := if s.bit ZONE_SWCTL_SURVRAM k then s.pocketFree k else s
  s.zoneSettle k

/-- The zone is restored at the tick boundary after its test, and the survey is complete (R313, R315, R318). -/
def State.surveyFinish (s : State) : State :=
  match s.survey.ended with
  | none => s
  | some (_, fault) =>
    let k := s.fld SUP_SURVSTAT_ZONE 0
    let s := (s.surveyReturn k).setFld SUP_SURVSTAT_PHASE 0 0
    let s : State := { s with
      survey := { s.survey with ended := none, done := storeSet 0 s.survey.done k (s.tickNo + 1) } }
    match fault with
    | none => s
    | some r => (s.setBit ZONE_SIGSTAT_SURVFAIL k true).raise 0x0440 (srcOf 10 k) [k, r]

/-- SURVEY_RESTORE (R315, R318): the test ends, and the zone is being restored; `fault` is the failing resource it found. The tick
boundary at which it returns comes with the next one that passes, or with a second SURVEY_RESTORE. -/
def execSurveyRestore (fault : Option Word) (s : State) : Host.Outcome State Fault Refusal :=
  if s.survey.ended.isSome && s.survey.causes.isEmpty then .next (s.reachTick (s.tickNo + 1)).surveyFinish
  else if decide (s.fld SUP_SURVSTAT_PHASE 0 = 2) && s.survey.causes.isEmpty then
    .next { s.setFld SUP_SURVSTAT_PHASE 0 3 with
      survey := { s.survey with ended := some (s.tickNo, fault.map (·.toNat)) } }
  else .next s

/-- A tick passes: a zone that is being restored returns (R315). -/
def State.surveyTick (s : State) : State := if s.survey.causes.isEmpty then s.surveyFinish else s

/-- The survey yields (R317): the zone is its own again and is not borrowed for 1 s. One whose test has ended is complete. -/
def State.surveyYield (s : State) : State :=
  let k := s.fld SUP_SURVSTAT_ZONE 0
  if s.survey.ended.isSome then
    let s := s.surveyFinish
    { s with survey := { s.survey with causes := [] } }
  else
    let s := if s.fld SUP_SURVSTAT_PHASE 0 = 2 then s.surveyReturn k else s
    let s := (s.setFld SUP_SURVSTAT_PHASE 0 0).bump SUP_SURVSTAT_YIELDS 0
    { s with survey := { s.survey with causes := [], yielded := storeSet 0 s.survey.yielded k (s.tickNo + 1) } }

/-! ### Register writes -/

/-- ZONE.CTRL has been written (R269, R317); `hold` and `borrow` are the bits before. -/
def State.zoneCtrlWrote (s : State) (k : Nat) (hold borrow : Bool) : State :=
  let s := if borrow && !s.bit ZONE_CTRL_BORROW k then s.surveyCause k .borrow else s
  if s.bit ZONE_CTRL_HOLD k && !hold then
    if s.surveyed k then s.surveyCause k (.hold k) else s.holdReset k
  else s.zoneSettle k

/-- A write to a zone's register lands. -/
def State.zoneWrite (s : State) (who k off v : Nat) : State :=
  let hold := s.bit ZONE_CTRL_HOLD k
  let borrow := s.bit ZONE_CTRL_BORROW k
  if off = 0x1C then s.takeTokens k v
  else
    let s := s.classWrite who .zone k off v (fun _ _ => false)
    if off = 0 then s.zoneCtrlWrote k hold borrow
    else if off = 0x30 then
      let s := if bitOf v 0 then s.unstageWrite k else s
      if bitOf v 1 then s.startReload k else s
    else s

end Sys2Proof.Machine
end

