-- ==== Sys2Proof/Machine/Barrier.lean ====
section
/-! DEFINITION. Barriers (R242, R436): arrivals, DONE towards the root, RELEASE, and what ends the waits. -/

namespace Sys2Proof.Machine

open Sys2Proof.F

def ConstSide.bar (c : ConstSide) (k : Nat) : BarrierSide := storeGet {} c.bars k

def State.mapBar (s : State) (k : Nat) (f : BarrierSide → BarrierSide) : State :=
  s.mapConst (fun c => { c with bars := storeSet {} c.bars k (f (c.bar k)) })

def State.barGen (s : State) (k : Nat) : Nat := s.fldI CONST_BAR_GEN 0 k
def State.barEn (s : State) (k : Nat) : Bool := decide (s.fldI CONST_BAR_EN 0 k = 1)

/-- Sequencer `q` is a member of barrier `k` on this device. -/
def State.barMember (s : State) (k q : Nat) : Bool :=
  if q = 32 then decide (s.fldI CONST_BAR_SUPM 0 k = 1) else bitOf (s.fldI CONST_BARM_MASK 0 k) q

/-- End the waits of barrier `k`, or of every barrier: `gone` with GONE, else with REACHED. -/
def State.barEnd (s : State) (k : Option Nat) (gone : Bool) : State :=
  (List.range 33).foldl (fun s q =>
    match (s.seq q).wait with
    | some w => match w.what with
      | .barrier j d g => if k = none ∨ k = some j then
          s.setSeq q { s.seq q with wait := some { w with what := .barrier j (d || !gone) (g || gone) } } else s
      | _ => s
    | none => s) s

/-- The device is done with the present generation of barrier `k` (R436). -/
def State.barDone (s : State) (k : Nat) : Bool :=
  let b := s.const.bar k
  (!s.barEn k || (List.range 33).all (fun q => !s.barMember k q || b.arrived.contains q)) &&
    (s.roleLinks 2).all (fun l => b.kids.contains l)

/-- RELEASE for generation `g` on this device (R436). -/
def State.barRelease (s : State) (k g : Nat) : State :=
  ((s.barEnd (some k) false).setFldI CONST_BAR_GEN 0 k ((g + 1) % 256)).mapBar k (fun b => { last := b.last })

/-- Payload of a BARRIER frame; which number is DONE and which RELEASE is the model's (log entry 62). -/
def barFrame (k g rel : Nat) : List Byte := leBytes 1 k ++ leBytes 1 g ++ leBytes 1 rel ++ leBytes 1 0

/-- A device that is done tells its parent, once; a root that is done floods RELEASE. -/
def State.barCheck (s : State) (k : Nat) : State :=
  if !s.inTree || !s.barDone k || (s.const.bar k).sent then s
  else
    let g := s.barGen k
    if s.bit CONST_STATUS_ROOT 0 then (s.flood 0x08 (barFrame k g 1)).barRelease k g
    else if s.const.parent.isSome then (s.sendUp 0x08 (barFrame k g 0)).mapBar k (fun b => { b with sent := true })
    else s

def State.barCheckAll (s : State) : State := (List.range 16).foldl (fun s k => s.barCheck k) s

/-- The way to the root has changed: what is done is told again (R441). -/
def State.barResend (s : State) : State :=
  ((List.range 16).foldl (fun s k => s.mapBar k (fun b => { b with sent := false })) s).barCheckAll

/-- A write has cleared BAR_k.EN, or a field of barrier `k` has changed (R436). -/
def State.barWrote (s : State) (k : Nat) (was : Bool) : State :=
  (if was && !s.barEn k then s.barEnd (some k) true else s).barCheck k

/-- A DONE of generation `g` on link `l` counts in the present generation: it names it, or, from a child whose generation is
another, it is not the one that counted before (R436; log entry 140). -/
def State.doneCounts (s : State) (k l g : Nat) : Bool := decide (g = s.barGen k) || !(s.const.bar k).last.contains (l, g)

/-- BARRIER_DONE (R436): a child's DONE comes by link `l`. -/
def execBarrierDone (l : Fin 8) (k : Fin 16) (gen : Byte) (s : State) : Host.Outcome State Fault Refusal :=
  let k := k.val
  let l := l.val
  let s := s.frameIn l
  if !s.inTree || s.fld LINK_STATUS_ROLE l ≠ 2 || !s.doneCounts k l gen.toNat then .next s
  else
    .next ((s.mapBar k (fun b => { b with
      kids := if b.kids.contains l then b.kids else b.kids ++ [l]
      last := b.last.filter (fun x => decide (x.1 ≠ l)) ++ [(l, gen.toNat)] })).barCheck k)

/-- BARRIER_RELEASE (R436): whatever generation the device was in, its waits end, it moves to the one after the named one, and the
frame goes to the children. -/
def execBarrierRelease (k : Fin 16) (gen : Byte) (s : State) : Host.Outcome State Fault Refusal :=
  let k := k.val
  let s := s.frameDown
  if !s.inTree || s.bit CONST_STATUS_ROOT 0 then .next s
  else
    let s := s.passDown 0x08 (barFrame k gen.toNat 1)
    .next (if (gen.toNat + 1) % 256 = s.barGen k then s else (s.barRelease k gen.toNat).barCheck k)

/-- BARRIER (R242, R436): the first execution in a generation arrives, be an ENTRY vector pending or not; a generation that
completed since ends it with PAST; without membership or with the barrier not enabled it ends with GONE. -/
def execBarrier (q : Fin 33) (gd : Fin 32) (k : Fin 16) (s : State) : Host.Outcome State Fault Refusal :=
  let q := q.val
  let k := k.val
  let w : WaitFor := .barrier k false false
  .next (s.issue q 4 (fun s =>
    if !s.barEn k || !s.barMember k q then s.issueWait q gd.val w (fun s => some (s, 2, 0))
    else
      let g := s.barGen k
      let mark := storeGet 0 (s.seq q).bars k
      let unmark (s : State) := s.mapSeq q (fun x => { x with bars := storeErase x.bars k })
      let keep (s : State) (m : Nat) :=
        if (s.seq q).stepping then unmark s else s.mapSeq q (fun x => { x with bars := storeSet 0 x.bars k m })
      if mark ≠ 0 ∧ mark ≠ g + 1 then (keep s mark).issueWait q gd.val w (fun s => some (unmark s, 1, 0))
      else
        let s := (s.mapBar k (fun b => { b with arrived := if b.arrived.contains q then b.arrived else b.arrived ++
            [q] })).barCheck k
        (keep s (g + 1)).issueWait q gd.val w (fun s => if s.barGen k ≠ g then some (unmark s, 0, 0) else none)))

end Sys2Proof.Machine
end

