-- ==== Sys2Proof/Machine/Loader.lean ====
section
/-! DEFINITION. Background loads, and the yield of a survey: R282 to R286, R307, R308, R317. -/

namespace Sys2Proof.Machine

open Sys2Proof.F

/-- SOURCE of the image loader (R491). -/
def loaderSrc : Nat := srcOf 19 0

/-- The supervisor reads a piece of the Caldera: its groups are woken, or reported OFF (R340), and its words' errors count (R328).
-/
def State.touch (s : State) (master a n : Nat) : State :=
  ((List.range 8).filter (fun g => (List.range ((n + 32767) / 32768 + 1)).any (fun i =>
      decide (groupOf (min (a + 32768 * i) (a + n - 1)) = g)))).foldl (fun s g =>
    let s := s.wakeGroup g
    if s.group g = 2 then s.raise 0x0606 (srcOf 11 0) [g, master, a] else s) (s.eccRead master a n)

/-- The zones that a sequencer owns (R280). -/
def State.ownedZones (s : State) (q : Nat) : Nat :=
  (List.range 64).foldl (fun m k => if s.owns q .zone k then m + 2 ^ k else m) 0

/-- The use of an image by ZLOAD. -/
def State.zloadUse (s : State) (q addr : Nat) : ImgUse where
  use := 2
  perm := s.ownedZones q
  size := calderaSize - addr

/-- Why the loader refuses a ZLOAD (R282), by its place in R282's list. -/
def State.loadRefused (s : State) (addr : Nat) : Option Nat :=
  if s.load.isSome then some 1
  else if calderaSize ≤ addr then some 2
  else if addr % 16 ≠ 0 then some 3
  else if (maskZones (imgMask (s.calderaImage addr))).any (fun k => s.bit ZONE_STATUS_STAGED k) then some 4
  else none

/-- The record of a failed check, and LOADSTAT (R284, R296). -/
def State.loadFailed (s : State) (f : ImgFail) : State :=
  ((((s.setBit SUP_LOADSTAT_BUSY 0 false).setBit SUP_LOADSTAT_LASTOK 0 false).setFld SUP_LOADSTAT_FAILSTEP 0 f.step)).raise
    f.code loaderSrc f.detail

/-- The end of a load without success (R284): LOADING clears, and the shadows stay invalid, and RELOAD_SHD with them (R311). -/
def State.loadStop (s : State) (l : Load) : State :=
  { ((maskZones l.mask).foldl (fun s k =>
      (s.setBit ZONE_STATUS_LOADING k false).setBit ZONE_RELOAD_SHD_VALID k false) s) with load := none }

/-- An aborted load (R286). -/
def State.loadAbort (s : State) (cause : Nat) : State :=
  match s.load with
  | none => s
  | some l => (s.loadStop l).loadFailed ⟨9, 0x0510, [cause, s.fld SUP_LOADSTAT_FRAMES 0]⟩

/-- The load begins (R283), once its wear commit can be made (R308, R486): the shadows lose validity, PID and tag, LOADING sets,
and the wear of every plane counts. -/
def State.loadGo (s : State) : State :=
  match s.load with
  | none => s
  | some l =>
    if !l.waiting || !s.wearOpen then s
    else
      let s := (maskZones l.mask).foldl (fun s k =>
        ((s.dropShadow k).setBit ZONE_STATUS_LOADING k true).mapPlane k true (fun p => { p with tag := none })) s
      let s := s.wearCommit ((maskZones l.mask).map (fun k => (k, !s.activeB k)))
      { s with load := some { l with waiting := false } }

/-- A ZLOAD reaches the loader (R282, R283, R317): its header is judged once; the load begins, at once or after a survey's yield. -/
def State.loadStart (s : State) (q addr : Nat) : State :=
  match s.loadRefused addr with
  | some r => s.raise 0x050F loaderSrc [q, r]
  | none =>
    let s := (s.touch (agent 5 32) addr 256).setFld SUP_LOADSTAT_FRAMES 0 0
    let rd := s.calderaImage addr
    match imgHead rd (s.zloadUse q addr) addr with
    | some f => s.loadFailed f
    | none =>
      let k := s.fld SUP_SURVSTAT_ZONE 0
      let s : State := { s.setBit SUP_LOADSTAT_BUSY 0 true with
        load := some { addr := addr, mask := imgMask rd, frame := 0, sweep := decide (imgNum rd 24 4 % 2 = 1), q := q
                       seen := imgBytes rd 0 256, waiting := true } }
      if s.surveyed k && bitOf (imgMask rd) k then s.surveyCause k .load else s.loadGo

/-- The image as the running load has read it: what has passed stands as it was read (R286). -/
def State.loadImage (s : State) (l : Load) : Nat → Byte := fun a =>
  match l.seen[a]? with
  | some b => b
  | none => s.calderaImage l.addr a

/-- LOAD_START (R237, R282, R283): before the Caldera is ready the loader waits (R483). -/
def execLoadStart (q : Fin 33) (addr : Word) (s : State) : Host.Outcome State Fault Refusal :=
  if s.pieceOpen addr.toNat 256 then
    .next (s.deliver q.val (fun p => decide (p = .zload addr.toNat)) (fun s => s.loadStart q.val addr.toNat))
  else .next s

/-- The last frame has passed: steps 7 and 8, then the tags (R284, R290). -/
def State.loadFinish (s : State) (l : Load) : State :=
  let rd := s.loadImage l
  match imgEnd rd { s.zloadUse l.q l.addr with perm := l.mask } with
  | some f => (s.loadStop l).loadFailed f
  | none =>
    let s := (maskZones l.mask).foldl (fun s k =>
      let s := s.mapPlane k true (fun p => { p with tag := some (p.pid, p.routesum), sweep := l.sweep })
      let s := (s.setBit ZONE_STATUS_SHDVALID k true).setFld ZONE_PID_SHD_PID k (s.plane k true).pid
      (s.setBit ZONE_STATUS_LOADING k false).setBit ZONE_RELOAD_SHD_VALID k false) s
    { (((s.setBit SUP_LOADSTAT_BUSY 0 false).setBit SUP_LOADSTAT_LASTOK 0 true).setFld SUP_LOADSTAT_FAILSTEP 0 0) with
      load := none }

/-- Take the next frame of the load (R281, R283, R285, R307); `ok` says that a routing frame passes its read-back. -/
def State.loadFrame (s : State) (l : Load) (ok : Bool) : State :=
  let rd := s.loadImage l
  let i := l.frame
  if i = imgFrames l.mask then s.loadFinish l
  else
    match imgFrame rd (calderaSize - l.addr) l.mask i with
    | some f => (s.loadStop l).loadFailed f
    | none =>
      let k := (maskZones l.mask).getD (i / 276) 0
      let (kind, j) := frameKind (i % 276)
      let s : State := { s with load := some { l with frame := i + 1, seen := l.seen ++ imgBytes rd (frameAt i) 528 } }
      let wrote (s : State) := s.setFld SUP_LOADSTAT_FRAMES 0 (s.fld SUP_LOADSTAT_FRAMES 0 + 1)
      if kind = 2 then wrote (s.mapPlane k true (fun p => { p with ctrl := writeBytes p.ctrl (512 * j) (framePayload rd i) }))
      else if kind = 1 then s
      else if ok then wrote (s.mapPlane k true (fun p => { p with data := writeBytes p.data (512 * j) (framePayload rd i) }))
      else
        let s := s.loadStop l
        let s := ((s.setBit SUP_LOADSTAT_BUSY 0 false).setBit SUP_LOADSTAT_LASTOK 0 false).setFld SUP_LOADSTAT_FAILSTEP 0 10
        s.raise 0x0411 (srcOf 10 k) [k, j, b2n (!s.activeB k)]

/-- Take frames up to one tile frame, with the frames of other kinds beside it, and the end after the last. -/
def State.loadRun (ok : Bool) : Nat → Bool → State → State
  | 0, _, s => s
  | n + 1, tile, s =>
    match s.load with
    | none => s
    | some l =>
      let j := l.frame % 276
      let isTile := decide (2 ≤ j) && decide (j < 258) && decide (l.frame < imgFrames l.mask)
      let isCtrl := decide (j < 2) && decide (l.frame < imgFrames l.mask)
      if tile && (isTile || isCtrl) then s else State.loadRun ok n (tile || isTile) (s.loadFrame l ok)

/-- ROUTING_FRAME_WRITE (R283, R284, R307): the next tile frame is checked, written and read back. A load that waited for its wear
commit begins instead. -/
def execRoutingFrameWrite (ok : Bool) (s : State) : Host.Outcome State Fault Refusal :=
  match s.load with
  | none => .next s
  | some l =>
    if l.waiting then (if s.surveyed (s.fld SUP_SURVSTAT_ZONE 0) &&
      bitOf l.mask (s.fld SUP_SURVSTAT_ZONE 0) then .next s else .next s.loadGo)
    else .next (State.loadRun ok 24 false (s.touch (agent 5 32) (l.addr + frameAt l.frame) 528))

/-- What proceeds after a survey's yield (R317). -/
def State.proceed (s : State) (c : YieldCause) : State :=
  match c with
  | .hold k => s.holdReset k
  | .reset k => s.zoneReset k
  | .reload k => s.holdReload k
  | .load => s.loadGo
  | _ => s

/-- SURVEY_YIELD (R317). -/
def execSurveyYield (s : State) : Host.Outcome State Fault Refusal :=
  if s.survey.causes.isEmpty then .next s
  else .next (s.survey.causes.foldl (fun s c => s.proceed c) s.surveyYield)

end Sys2Proof.Machine
end

