-- ==== Sys2Proof/Machine/PowerUp.lean ====
section
/-! DEFINITION. Power-up loading, rebuilding, the audit and the configuration-error state: R287 to R293. -/

namespace Sys2Proof.Machine

open Sys2Proof.F

/-! ### The checks (R288) -/

/-- The use of an image at power-up; step 8 compares with the recorded digest. -/
def bootUse (b : Nat) (digest : List Byte) : ImgUse where
  use := 1
  full := true
  perm := 2 ^ 64 - 1
  size := storeSize b
  digest := some digest

/-- The first failed check of the image at a store block; a block outside the store holds no header. -/
def State.bootCheck (s : State) (b : Nat) (digest : List Byte) : Option ImgFail :=
  if 175 < b then some ⟨1, 0x0501, [1, storeAddr b % 2 ^ 32]⟩ else imgCheck (s.storeImage b) (bootUse b digest) (storeAddr b)

/-- PID and ROUTESUM of zone `k` in an image: the tag of its routing (R290). -/
def imgTag (rd : Nat → Byte) (k : Nat) : Option (Nat × Nat) :=
  let m := imgMask rd
  let a := frameAt (zoneFrame m k)
  if bitOf m k then some (imgNum rd (a + 8) 4, imgNum rd (a + 12) 4) else none

/-! ### Loading a zone (R290, R291) -/

/-- Word `i` of a zone's pocket RAMs in the pocket-RAM frames from frame record `j` on, packed without gaps (log entry 63). -/
def pocketWord (rd : Nat → Byte) (j i : Nat) : Nat :=
  let bit := 36 * i
  let byte (n : Nat) : Byte := rd (frameAt (j + n / 512) + 8 + n % 512)
  leNat ((List.range 6).map (fun n => if bit / 8 + n < 9216 then byte (bit / 8 + n) else 0)) / 2 ^ (bit % 8) % 2 ^ 36

/-- The pocket RAMs of a zone take their initial contents (R290). -/
def State.pocketLoad (s : State) (k : Nat) (rd : Nat → Byte) : State :=
  let j := zoneFrame (imgMask rd) k + 258
  s.mapZone k (fun z => { z with
    pocket := (List.range 2048).foldl (fun m i => storeSet 0 m i (pocketWord rd j i)) z.pocket })

/-- A zone that has its planes holds a valid personality and runs; its ready bit sets (R268, R290). -/
def State.zoneUp (s : State) (k : Nat) : State :=
  let s := ((s.mapZone k (fun z => { z with valid := true })).emptyStages k |>.showActive k).zoneSettle k
  if k < 32 then s.setFld SUP_ZREADY_LO_MAP 0 (withBit (s.fld SUP_ZREADY_LO_MAP 0) k)
  else s.setFld SUP_ZREADY_HI_MAP 0 (withBit (s.fld SUP_ZREADY_HI_MAP 0) (k - 32))

/-- A zone that no image serves is EMPTY; its ready bit sets (R268, R288). -/
def State.zoneDown (s : State) (k : Nat) : State :=
  let s := ((s.mapZone k (fun z => { z with valid := false })).emptyStages k).zoneSettle k
  if k < 32 then s.setFld SUP_ZREADY_LO_MAP 0 (withBit (s.fld SUP_ZREADY_LO_MAP 0) k)
  else s.setFld SUP_ZREADY_HI_MAP 0 (withBit (s.fld SUP_ZREADY_HI_MAP 0) (k - 32))

/-- The planes of zone `k` take masks, zone control and pocket RAMs from the image at store block `b`, into pair `pb`; the
other mask plane is empty. -/
def State.zoneTake (s : State) (k : Nat) (rd : Nat → Byte) (b : Nat) (pb : Bool) : State :=
  let i := zoneFrame (imgMask rd) k
  let s := (s.dropShadow k).setBit ZONE_STATUS_ACTPLANE k pb
  let s := s.mapPlane k false (fun p =>
    { (p.putMasks rd i) with
      ctrl := writeBytes (writeBytes [] 0 (framePayload rd i)) 512 (framePayload rd (i + 1))
      sweep := decide (imgNum rd 24 4 % 2 = 1) })
  let s := s.mapPlane k true (fun p => { p with data := p.data.filter (fun c => decide (128 ≤ c.1 % 512)), ctrl := [] })
  let s := if imgNum rd 24 4 % 2 = 1 then s.setBit ZONE_SWCTL_SWEEP k true else s
  ((s.setBit ZONE_RELOAD_VALID k true).setFld ZONE_RELOAD_BLOCK k b).pocketLoad k rd

/-- The plane in which zone `k` is rebuilt: one whose tag neither named image has, or else that of the image not booted. -/
def State.rebuildPlane (s : State) (k : Nat) (booted other : Option (Nat × Nat)) : Bool :=
  let z := s.zone k
  let named (t : Option (Nat × Nat)) : Bool := t.isSome && (decide (t = booted) || decide (t = other))
  if !named z.a.tag then false
  else if !named z.b.tag then true
  else !(decide (z.a.tag = other))

/-- Zone `k` at power-up: the plane whose tag matches, or a rebuild (R290, R291). `other` is the image not booted. -/
def State.zoneBoot (s : State) (k : Nat) (rd : Nat → Byte) (b : Nat) (other : Option (Nat × Nat)) : State :=
  let t := imgTag rd k
  if t.isNone then s.zoneDown k
  else if (s.zone k).a.tag = t then (s.zoneTake k rd b false).zoneUp k
  else if (s.zone k).b.tag = t then (s.zoneTake k rd b true).zoneUp k
  else
    let pb := s.rebuildPlane k t other
    let s := (s.zoneTake k rd b pb).wearCommit [(k, pb)]
    { (s.mapPlane k false (fun p => { p with tag := none })) with rebuilds := s.rebuilds ++ [k] }

/-- Ports are usable once an image has passed; bits 10, 14 and 15 of SUP.READY follow (R482). -/
def State.portsUp (s : State) : State :=
  let s := if s.rebuilds.isEmpty then s.setReady 10 true else s
  ((s.setReady 14 true).setFld SUP_PREADY_MAP 0 (2 ^ 32 - 1)).syncReady15

/-- An image has passed: it boots (R288 to R291). -/
def State.bootImage (s : State) (b other : Nat) : State :=
  let rd := s.storeImage b
  let rest (k : Nat) : Option (Nat × Nat) := if 175 < other then none else imgTag (s.storeImage other) k
  let s := (List.range 64).foldl (fun s k => s.zoneBoot k rd b (rest k)) s
  let s : State := { s with cfgerr := false, audit := some b, booted := b }
  ((s.setBit SUP_BOOT_CFGERR 0 false).setBit SUP_BOOT_AUDITDONE 0 false).portsUp

/-- No image has passed: the configuration-error state (R292). -/
def State.bootFails (s : State) (p a : Nat) : State :=
  let s := (List.range 64).foldl (fun s k => s.zoneDown k) s
  { (s.setBit SUP_BOOT_CFGERR 0 true) with cfgerr := true }.raise 0x050C loaderSrc [p, a]

/-- An image of the store has been read. -/
def State.imageRead (s : State) (b : Nat) : State :=
  if 175 < b then s.flashRead else s.arrayRead [(storeAddr b, imgLength (imgMask (s.storeImage b)))]

/-- Power-up loading (R287 to R292). -/
def State.powerUpLoad (s : State) : State :=
  let s : State := { s with loadDue := false }
  match s.selector with
  | none => s
  | some x =>
    match s.bootCheck x.primary x.pdigest with
    | none => ((s.setFld SUP_BOOT_FAILSTEP 0 0).setBit SUP_BOOT_FALLBACK 0 false).bootImage x.primary x.alternate |>.imageRead x.primary
    | some p =>
      let s := (s.setFld SUP_BOOT_FAILSTEP 0 p.step).raise p.code loaderSrc p.detail
      if !bitOf x.flags 0 then (s.imageRead x.primary).bootFails p.step 0
      else
        match s.bootCheck x.alternate x.adigest with
        | none =>
          (((s.setBit SUP_BOOT_FALLBACK 0 true).raise 0x050B loaderSrc [p.step]).bootImage x.alternate x.primary).imageRead x.primary
            |>.imageRead x.alternate
        | some a => (((s.raise a.code loaderSrc a.detail).imageRead x.primary).imageRead x.alternate).bootFails p.step a.step

/-- POWER_UP_LOAD (R288): once the supervisor has started, it loads the zones; a wear commit waits for the journal (R308). -/
def execPowerUpLoad (s : State) : Host.Outcome State Fault Refusal :=
  if s.loadDue && s.ready 0 && s.wearOpen then .next s.powerUpLoad else .next s

/-- The mask of a list of zones. -/
def zoneMask (l : List Nat) : Nat := l.foldl withBit 0

/-- Zone `k` takes its routing from the booted image (R291). -/
def State.zoneRewrite (s : State) (k : Nat) : State :=
  let rd := s.storeImage s.booted
  let i := zoneFrame (imgMask rd) k
  let s := s.mapPlane k false (fun p => { p with
    data := (List.range 256).foldl (fun m t =>
      writeBytes m (512 * t + 128) ((framePayload rd (i + 2 + t)).drop 128)) p.data
    tag := some (p.pid, p.routesum) })
  { ((s.imageRead s.booted).zoneUp k) with
    rebuilds := s.rebuilds.filter (fun j => decide (j ≠ k)), rebuilt := s.rebuilt ++ [k] }

/-- ZONE_REBUILD (R291, R307): the routing of a zone is written; the last one done reports all. Whether a tile frame fails its
read-back twice is a free value; the zone is then left EMPTY (log entry 114). -/
def execZoneRebuild (zone : Fin 64) (s : State) : Host.Outcome State Fault Refusal :=
  let k := zone.val
  if !s.rebuilds.contains k then .next s
  else
    let (f, s) := s.freeNat
    let s := if f % 257 = 256 then s.zoneRewrite k
      else { ((s.imageRead s.booted).zoneDown k) with rebuilds := s.rebuilds.filter (fun j => decide (j ≠ k)) }.raise 0x0411 (srcOf 10 k)
        [k, f % 257, b2n (s.activeB k)]
    let s := if s.rebuilt.isEmpty then s
      else (s.setBit SUP_BOOT_REBUILT 0 true).setFld SUP_BOOT_NREBUILT 0 s.rebuilt.length
    if s.rebuilds.isEmpty then
      .next ((s.setReady 10 true).raise 0x050D loaderSrc (two (BitVec.ofNat 64 (zoneMask s.rebuilt))))
    else .next s

/-- AUDIT_DONE (R293): the digest of the booted image has been recomputed. -/
def execAuditDone (s : State) : Host.Outcome State Fault Refusal :=
  match s.audit with
  | none => .next s
  | some b =>
    if !s.ready 10 then .next s
    else
      let rd := s.storeImage b
      let ok := decide (imgDigest rd (imgMask rd) = imgBytes rd 32 32)
      let s : State := { ((s.imageRead b).setBit SUP_BOOT_AUDITDONE 0 true) with audit := none }
      .next (if ok then s else (s.setBit SUP_BOOT_AUDITFAIL 0 true).raise 0x050E loaderSrc [b])

end Sys2Proof.Machine
end

