-- ==== Sys2Proof/Machine/Ursen.lean ====
section
/-! DEFINITION. Ursen, the instructions that stay within the sequencer, its waits and its postings: R216 to R238. -/

namespace Sys2Proof.Machine

open Sys2Proof.F

/-! ### Arithmetic and logic (R216, R217) -/

/-- An ALU instruction: result and flags from ra and b. -/
def State.alu (s : State) (q : Nat) (rd ra : Fin 32) (b : UrsenOperand) (f : Flags → Word → Word → Word × Flags) : State :=
  s.issueReg q (operandLen b) (fun x =>
    let (r, fl) := f x.flags (x.greg ra.val) (x.operand b)
    { (x.setG rd.val r) with flags := fl })

def shiftCount (b : Word) : Nat := b.toNat % 32

def aluAdd (_ : Flags) (a b : Word) : Word × Flags := (a + b, addFlags a b)
def aluSub (_ : Flags) (a b : Word) : Word × Flags := (a - b, subFlags a b)
def aluAnd (f : Flags) (a b : Word) : Word × Flags := (a &&& b, f.zn (a &&& b))
def aluOr (f : Flags) (a b : Word) : Word × Flags := (a ||| b, f.zn (a ||| b))
def aluXor (f : Flags) (a b : Word) : Word × Flags := (a ^^^ b, f.zn (a ^^^ b))
def aluShl (f : Flags) (a b : Word) : Word × Flags :=
  let n := shiftCount b
  (a <<< n, shiftFlags f (a <<< n) n (a.getLsbD (32 - n)))
def aluShr (f : Flags) (a b : Word) : Word × Flags :=
  let n := shiftCount b
  (a >>> n, shiftFlags f (a >>> n) n (a.getLsbD (n - 1)))
def aluSar (f : Flags) (a b : Word) : Word × Flags :=
  let n := shiftCount b
  (a.sshiftRight n, shiftFlags f (a.sshiftRight n) n (a.getLsbD (n - 1)))
def aluMul (f : Flags) (a b : Word) : Word × Flags := (a * b, f.zn (a * b))
def aluMulh (f : Flags) (a b : Word) : Word × Flags :=
  let r : Word := (a.signExtend 64 * b.signExtend 64).extractLsb' 32 32
  (r, f.zn r)

/-- ADD (R216). -/
def execAdd (q : Fin 33) (rd ra : Fin 32) (b : UrsenOperand) (s : State) : Host.Outcome State Fault Refusal :=
  .next (s.alu q.val rd ra b aluAdd)

/-- SUB (R216). -/
def execSub (q : Fin 33) (rd ra : Fin 32) (b : UrsenOperand) (s : State) : Host.Outcome State Fault Refusal :=
  .next (s.alu q.val rd ra b aluSub)

/-- AND (R216). -/
def execAnd (q : Fin 33) (rd ra : Fin 32) (b : UrsenOperand) (s : State) : Host.Outcome State Fault Refusal :=
  .next (s.alu q.val rd ra b aluAnd)

/-- OR (R216). -/
def execOr (q : Fin 33) (rd ra : Fin 32) (b : UrsenOperand) (s : State) : Host.Outcome State Fault Refusal :=
  .next (s.alu q.val rd ra b aluOr)

/-- XOR (R216). -/
def execXor (q : Fin 33) (rd ra : Fin 32) (b : UrsenOperand) (s : State) : Host.Outcome State Fault Refusal :=
  .next (s.alu q.val rd ra b aluXor)

/-- SHL (R216). -/
def execShl (q : Fin 33) (rd ra : Fin 32) (b : UrsenOperand) (s : State) : Host.Outcome State Fault Refusal :=
  .next (s.alu q.val rd ra b aluShl)

/-- SHR (R216). -/
def execShr (q : Fin 33) (rd ra : Fin 32) (b : UrsenOperand) (s : State) : Host.Outcome State Fault Refusal :=
  .next (s.alu q.val rd ra b aluShr)

/-- SAR (R216). -/
def execSar (q : Fin 33) (rd ra : Fin 32) (b : UrsenOperand) (s : State) : Host.Outcome State Fault Refusal :=
  .next (s.alu q.val rd ra b aluSar)

/-- MUL (R216). -/
def execMul (q : Fin 33) (rd ra : Fin 32) (b : UrsenOperand) (s : State) : Host.Outcome State Fault Refusal :=
  .next (s.alu q.val rd ra b aluMul)

/-- MULH (R216). -/
def execMulh (q : Fin 33) (rd ra : Fin 32) (b : UrsenOperand) (s : State) : Host.Outcome State Fault Refusal :=
  .next (s.alu q.val rd ra b aluMulh)

/-- CMP (R216). -/
def execCmp (q : Fin 33) (ra : Fin 32) (b : UrsenOperand) (s : State) : Host.Outcome State Fault Refusal :=
  .next (s.issueReg q.val (operandLen b) (fun x => { x with flags := subFlags (x.greg ra.val) (x.operand b) }))

/-- MOV (R216). -/
def execMov (q : Fin 33) (rd : Fin 32) (b : UrsenOperand) (s : State) : Host.Outcome State Fault Refusal :=
  .next (s.issueReg q.val (operandLen b) (fun x => x.setG rd.val (x.operand b)))

/-- MOVI (R217). -/
def execMovi (q : Fin 33) (rd : Fin 32) (imm : Half) (s : State) : Host.Outcome State Fault Refusal :=
  .next (s.issueReg q.val 4 (fun x => x.setG rd.val (imm.signExtend 32)))

/-- MOVHI (R217). -/
def execMovhi (q : Fin 33) (rd : Fin 32) (imm : Half) (s : State) : Host.Outcome State Fault Refusal :=
  .next (s.issueReg q.val 4 (fun x => x.setG rd.val (imm ++ (x.greg rd.val).extractLsb' 0 16)))

/-! ### Stamps (R218, R219) -/

/-- TADD (R218). -/
def execTadd (q : Fin 33) (td ta : Fin 8) (b : StampOperand) (s : State) : Host.Outcome State Fault Refusal :=
  .next (s.issueReg q.val (stampLen b) (fun x =>
    { (x.setT td.val (x.treg ta.val + x.stampOperand b)) with flags := addFlags (x.treg ta.val) (x.stampOperand b) }))

/-- A signed 64-bit value clamped to 32 bits, and whether it was. -/
def clamp32 (x : Stamp) : Word × Bool :=
  let v := x.toInt
  if v < -2147483648 then (0x80000000, true) else if 2147483647 < v then (0x7FFFFFFF, true) else (BitVec.ofInt 32 v, false)

/-- TSUB on the registers (R218). -/
def Seq.tsub (x : Seq) (f : TsubForm) : Seq :=
  match f with
  | .stamp td ta tb =>
    { (x.setT td.val (x.treg ta.val - x.treg tb.val)) with flags := subFlags (x.treg ta.val) (x.treg tb.val) }
  | .clamp g ta tb =>
    let (r, cl) := clamp32 (x.treg ta.val - x.treg tb.val)
    { (x.setG g.val r) with
      flags := { z := decide (r = 0), n := r.msb, c := (subFlags (x.treg ta.val) (x.treg tb.val)).c, v := cl } }
  | .imm32 td ta i =>
    { (x.setT td.val (x.treg ta.val - i.signExtend 64)) with flags := subFlags (x.treg ta.val) (i.signExtend 64) }

def tsubLen (f : TsubForm) : Nat :=
  match f with
  | .imm32 .. => 8
  | _ => 4

/-- TSUB (R218). -/
def execTsub (q : Fin 33) (f : TsubForm) (s : State) : Host.Outcome State Fault Refusal :=
  .next (s.issueReg q.val (tsubLen f) (fun x => x.tsub f))

/-- TMOV on the registers (R218). -/
def Seq.tmov (x : Seq) (f : TmovForm) : Seq :=
  match f with
  | .stamp td ta => x.setT td.val (x.treg ta.val)
  | .join td g k => x.setT td.val (x.greg g.val ++ x.greg k.val)
  | .half g ta high => x.setG g.val ((x.treg ta.val).extractLsb' (if high then 32 else 0) 32)

/-- TMOV (R218). -/
def execTmov (q : Fin 33) (f : TmovForm) (s : State) : Host.Outcome State Fault Refusal :=
  .next (s.issueReg q.val 4 (fun x => x.tmov f))

/-- TCMP (R218, R219). -/
def execTcmp (q : Fin 33) (ta : Fin 8) (b : TcmpOperand) (s : State) : Host.Outcome State Fault Refusal :=
  .next (s.issueReg q.val (tcmpLen b) (fun x => { x with flags := subFlags (x.treg ta.val) (x.tcmpOperand b) }))

/-- TNOW (R186): which of the tick boundaries within the last 2 ticks it samples is a free value. -/
def execTnow (q : Fin 33) (td : Fin 8) (s : State) : Host.Outcome State Fault Refusal :=
  .next (s.issue q.val 4 (fun s =>
    let (f, s) := s.freeNat
    let t := s.nowAgo (f % 3)
    (s.mapSeq q.val (fun x => x.setT td.val t)).advance q.val 4))

/-- TPOS (R186, R218, R219): which of the tick boundaries within the last 8 ticks it samples is a free value. -/
def execTpos (q : Fin 33) (td : Fin 8) (mt : Fin 8) (s : State) : Host.Outcome State Fault Refusal :=
  .next (s.issue q.val 4 (fun s =>
    let (f, s) := s.freeNat
    let (p, s) := s.posAgo mt.val (f % 9)
    let off := decide ((s.mt mt.val).st = .off)
    let coast := decide ((s.mt mt.val).st ≠ .off) && (s.fracCoast mt.val || decide ((s.mt mt.val).st = .coast) ||
      decide ((s.mt mt.val).st = .overlimit))
    (s.mapSeq q.val (fun x =>
      { (x.setT td.val (BitVec.ofInt 64 p)) with flags := { x.flags with z := off, c := coast } })).advance q.val 4))

/-! ### Data memory (R220) -/

/-- LDW (R220). -/
def execLdw (q : Fin 33) (r gb : Fin 32) (off : Half) (s : State) : Host.Outcome State Fault Refusal :=
  .next (s.issueMem q.val gb off 4 (fun a x => x.setG r.val (BitVec.ofNat 32 (x.load a 4))))

/-- LDH (R220). -/
def execLdh (q : Fin 33) (r gb : Fin 32) (off : Half) (s : State) : Host.Outcome State Fault Refusal :=
  .next (s.issueMem q.val gb off 2 (fun a x => x.setG r.val (BitVec.ofNat 32 (x.load a 2))))

/-- LDB (R220). -/
def execLdb (q : Fin 33) (r gb : Fin 32) (off : Half) (s : State) : Host.Outcome State Fault Refusal :=
  .next (s.issueMem q.val gb off 1 (fun a x => x.setG r.val (BitVec.ofNat 32 (x.load a 1))))

/-- STW (R220). -/
def execStw (q : Fin 33) (r gb : Fin 32) (off : Half) (s : State) : Host.Outcome State Fault Refusal :=
  .next (s.issueMem q.val gb off 4 (fun a x => x.store a (leBytes 4 (x.greg r.val).toNat)))

/-- STH (R220). -/
def execSth (q : Fin 33) (r gb : Fin 32) (off : Half) (s : State) : Host.Outcome State Fault Refusal :=
  .next (s.issueMem q.val gb off 2 (fun a x => x.store a (leBytes 2 (x.greg r.val).toNat)))

/-- STB (R220). -/
def execStb (q : Fin 33) (r gb : Fin 32) (off : Half) (s : State) : Host.Outcome State Fault Refusal :=
  .next (s.issueMem q.val gb off 1 (fun a x => x.store a (leBytes 1 (x.greg r.val).toNat)))

/-- LDT (R220). -/
def execLdt (q : Fin 33) (t : Fin 8) (gb : Fin 32) (off : Half) (s : State) : Host.Outcome State Fault Refusal :=
  .next (s.issueMem q.val gb off 8 (fun a x => x.setT t.val (BitVec.ofNat 64 (x.load a 8))))

/-- STT (R220). -/
def execStt (q : Fin 33) (t : Fin 8) (gb : Fin 32) (off : Half) (s : State) : Host.Outcome State Fault Refusal :=
  .next (s.issueMem q.val gb off 8 (fun a x => x.store a (leBytes 8 (x.treg t.val).toNat)))

/-! ### Control (R223) -/

/-- Continue at an address. -/
def State.goTo (s : State) (q : Nat) (a : BitVec 16) : State := s.mapSeq q (fun x => { x with pc := a })

/-- BR (R215, R223). -/
def execBr (q : Fin 33) (cond : Fin 15) (off : Half) (s : State) : Host.Outcome State Fault Refusal :=
  .next (s.issue q.val 4 (fun s =>
    let x := s.seq q.val
    if condHolds x.flags cond.val then s.goTo q.val (targetOf x.pc.toNat off) else s.advance q.val 4))

/-- The target of JMP and CALL (R223). -/
def Seq.jumpTarget (x : Seq) (ga : Fin 32) (off : Half) : BitVec 16 :=
  targetOf (if ga = 0 then x.pc.toNat else (x.greg ga.val).toNat) off

/-- JMP (R223). -/
def execJmp (q : Fin 33) (ga : Fin 32) (off : Half) (s : State) : Host.Outcome State Fault Refusal :=
  .next (s.issue q.val 4 (fun s => s.goTo q.val ((s.seq q.val).jumpTarget ga off)))

/-- CALL (R223). -/
def execCall (q : Fin 33) (ga : Fin 32) (off : Half) (s : State) : Host.Outcome State Fault Refusal :=
  .next (s.issue q.val 4 (fun s =>
    let x := s.seq q.val
    if 16 ≤ x.stack.length then s.seqFault q.val 0x0705
    else
      s.setSeq q.val { x with
        stack := { ret := x.pc + 4, flags := x.flags, entry := false } :: x.stack, pc := x.jumpTarget ga off }))

/-- RET (R214, R223). -/
def execRet (q : Fin 33) (s : State) : Host.Outcome State Fault Refusal :=
  .next (s.issue q.val 4 (fun s =>
    let x := s.seq q.val
    match x.stack with
    | [] => s.seqFault q.val 0x0705
    | e :: rest => s.setSeq q.val { x with
        stack := rest, pc := e.ret, flags := if e.entry then e.flags else x.flags }))

/-- HALT (R223): HALTED, with PC at the next instruction; nothing is fetched there (R183). -/
def execHalt (q : Fin 33) (s : State) : Host.Outcome State Fault Refusal :=
  .next (s.issue q.val 4 (fun s => s.mapSeq q.val (fun x => { x with st := .halted, pc := x.pc + 4 })))

/-- YIELD (R195, R203, R223). -/
def execYield (q : Fin 33) (s : State) : Host.Outcome State Fault Refusal :=
  .next (s.issue q.val 4 (fun s =>
    match s.entryVector q.val with
    | some k => s.takeVector q.val k ((s.seq q.val).pc + 4)
    | none => (s.mapSeq q.val (fun x => { x with runStart := s.tickNo })).advance q.val 4))

/-! ### Waits (R190, R224) -/

/-- WAITT (R190): a target that is not in the future ends it with PAST. -/
def execWaitt (q : Fin 33) (gd : Fin 32) (ta : Fin 8) (s : State) : Host.Outcome State Fault Refusal :=
  .next (s.issue q.val 4 (fun s =>
    let t := (s.seq q.val).treg ta.val
    s.issueWait q.val gd.val (.time t) (fun s =>
      if inFuture t s.now then (if t = s.now then some (s, 0, 0) else none) else some (s, 1, 0))))

/-- WAITP (R190, R191). -/
def execWaitp (q : Fin 33) (gd : Fin 32) (ta : Fin 8) (mt : Fin 8) (dir : Fin 3) (s : State) :
    Host.Outcome State Fault Refusal :=
  .next (s.issue q.val 4 (fun s =>
    let x := ((s.seq q.val).treg ta.val).toInt
    let (p, s) := s.posNow mt.val
    s.issueWait q.val gd.val (.pos mt.val x dir.val p false) (fun s =>
      if (s.mt mt.val).st = .off then some (s, 2, 0)
      else if p = x then some (s, 0, 0)
      else if (dir = 0 ∧ x < p) ∨ (dir = 1 ∧ p < x) then some (s, 1, 0)
      else none)))

/-- WAITE (R190, R195). -/
def execWaite (q : Fin 33) (gd : Fin 32) (mask : Half) (s : State) : Host.Outcome State Fault Refusal :=
  .next (s.issue q.val 4 (fun s =>
    let w : WaitFor := .vec mask.toNat
    s.issueWait q.val gd.val w (fun s => s.waitResult q.val { what := w, gd := gd.val, start := s.tickNo })))

/-- WAITS (R190). -/
def execWaits (q : Fin 33) (gd gm : Fin 32) (s : State) : Host.Outcome State Fault Refusal :=
  .next (s.issue q.val 4 (fun s =>
    let w : WaitFor := .sig ((s.seq q.val).greg gm.val).toNat
    s.issueWait q.val gd.val w (fun s => s.waitResult q.val { what := w, gd := gd.val, start := s.tickNo })))

/-- RWAIT (R190, R191). -/
def execRwait (q : Fin 33) (gd : Fin 32) (port : Fin 4) (s : State) : Host.Outcome State Fault Refusal :=
  .next (s.issue q.val 4 (fun s =>
    let w : WaitFor := .ring port.val
    s.issueWait q.val gd.val w (fun s =>
      s.waitResult q.val { what := w, gd := gd.val, start := s.tickNo, gone := s.ringStopped q.val port.val })))

/-- Move an item between a stream port and data memory at Ggm (R200, R224): alignment and range first. -/
def State.streamMove (s : State) (q : Nat) (gm : Fin 32) (f : Nat → State → Option State) : State :=
  s.issue q 4 (fun s =>
    let a := ((s.seq q).greg gm.val).toNat
    match memFault a 16 with
    | some c => s.seqFault q c
    | none =>
      match f a s with
      | some s => (s.mapSeq q (fun x => { x with flags := { x.flags with z := false } })).advance q 4
      | none => (s.mapSeq q (fun x => { x with flags := { x.flags with z := true } })).advance q 4)

/-- The read pointer of a ring passes one item that a stream port had prefetched (R199). -/
def State.passItem (s : State) (r : Nat) : State := s.ringSkip r 1

/-- RPOP (R200). -/
def execRpop (q : Fin 33) (gm : Fin 32) (port : Fin 4) (s : State) : Host.Outcome State Fault Refusal :=
  .next (s.streamMove q.val gm (fun a s =>
    if s.portIs q.val port.val 0 then
      match (s.seq q.val).port port.val with
      | [] => none
      | x :: rest =>
        let s := s.mapSeq q.val (fun sq => (sq.setPort port.val rest).store a (itemBytes x))
        some (s.passItem (s.fldI SEQ_STREAM_RING q.val port.val))
    else none))

/-- RPUSH (R200). -/
def execRpush (q : Fin 33) (gm : Fin 32) (port : Fin 4) (s : State) : Host.Outcome State Fault Refusal :=
  .next (s.streamMove q.val gm (fun a s =>
    let x := s.seq q.val
    if s.portIs q.val port.val 1 && decide ((x.port port.val).length < 4) then
      some (s.setSeq q.val (x.setPort port.val (x.port port.val ++ [itemOf (readBytes x.dmem a 16)])))
    else none))

/-! ### Channel instructions (R225 to R233) -/

/-- The entry of a channel instruction. -/
def Seq.entryOf (x : Seq) (ta : Fin 8) (action : Nat) (chassis : Bool) (gc gv : Fin 32) : LaunchItem where
  time := x.treg ta.val
  target := x.target chassis gc
  action := BitVec.ofNat 4 action
  width := x.widthOf gv
  tag := x.tagOf gv

/-- LAUNCH (R226). -/
def execLaunch (q : Fin 33) (ta : Fin 8) (action : Fin 8) (chassis : Bool) (gc gv : Fin 32) (s : State) :
    Host.Outcome State Fault Refusal :=
  .next (s.issuePost q.val 4 [.entry ((s.seq q.val).entryOf ta action.val chassis gc gv)])

/-- LAUNCHP (R227): a PULSE with WIDTH below 2 is not posted. -/
def execLaunchp (q : Fin 33) (ta : Fin 8) (action : Fin 8) (dir : Fin 3) (mt : Fin 8) (gc gv : Fin 32) (s : State) :
    Host.Outcome State Fault Refusal :=
  let x := s.seq q.val
  let ch := (x.greg gc.val).toNat % 1024
  if action = 3 ∧ (x.widthOf gv).toNat < 2 then
    .next (s.issue q.val 4 (fun s =>
      (s.raise 0x070F (seqSrc q.val) [q.val, ch, (x.tagOf gv).toNat]).advance q.val 4))
  else
    .next (s.issuePost q.val 4 [.posEntry mt.val (x.treg ta.val).toInt dir.val action.val ch (x.widthOf gv).toNat
      (x.tagOf gv).toNat])

/-- AMEND with q clear (R228). -/
def execAmendTime (q : Fin 33) (ta : Fin 8) (chassis : Bool) (gc gv : Fin 32) (s : State) :
    Host.Outcome State Fault Refusal :=
  let x := s.seq q.val
  .next (s.issuePost q.val 4 [.amendTime (x.target chassis gc) (x.tagOf gv).toNat (x.treg ta.val)])

/-- AMEND with q set (R228). -/
def execAmendPosition (q : Fin 33) (ta : Fin 8) (mt : Fin 8) (gc gv : Fin 32) (s : State) :
    Host.Outcome State Fault Refusal :=
  let x := s.seq q.val
  .next (s.issuePost q.val 4 [.amendPos mt.val ((x.greg gc.val).toNat % 1024) (x.tagOf gv).toNat (x.treg ta.val).toInt])

/-- CANCEL (R229): to the sill and, for a channel, to every tracker. -/
def execCancel (q : Fin 33) (all chassis : Bool) (gc gv : Fin 32) (s : State) : Host.Outcome State Fault Refusal :=
  let x := s.seq q.val
  .next (s.issuePost q.val 4 [.cancel (x.target chassis gc) (x.tagOf gv).toNat all
    (if chassis then [8] else List.range 9)])

/-- CAPT (R230). -/
def execCapt (q : Fin 33) (e : Fin 4) (chassis : Bool) (gc : Fin 32) (s : State) : Host.Outcome State Fault Refusal :=
  .next (s.issuePost q.val 4 [.capt ((s.seq q.val).target chassis gc) e.val])

/-- PSET (R233). -/
def execPset (q : Fin 33) (gm : Fin 32) (port : Fin 32) (s : State) : Host.Outcome State Fault Refusal :=
  .next (s.issuePost q.val 4 [.portMask port.val 0 ((s.seq q.val).greg gm.val)])

/-- PCLR (R233). -/
def execPclr (q : Fin 33) (gm : Fin 32) (port : Fin 32) (s : State) : Host.Outcome State Fault Refusal :=
  .next (s.issuePost q.val 4 [.portMask port.val 1 ((s.seq q.val).greg gm.val)])

/-- PTGL (R233). -/
def execPtgl (q : Fin 33) (gm : Fin 32) (port : Fin 32) (s : State) : Host.Outcome State Fault Refusal :=
  .next (s.issuePost q.val 4 [.portMask port.val 2 ((s.seq q.val).greg gm.val)])

/-- PFUNC (R234): posted; it stages at the port, and with na clear it leaves an arm of the port at Ta. -/
def execPfunc (q : Fin 33) (ta : Fin 8) (na : Bool) (pin : Fin 32) (port : Fin 32) (gf : Fin 32) (s : State) :
    Host.Outcome State Fault Refusal :=
  let x := s.seq q.val
  .next (s.issueSelf q.val 4 (.pfunc port.val pin.val (x.greg gf.val).toNat (if na then none else some (x.treg ta.val))))

/-- SAMPLE (R231). -/
def execSample (q : Fin 33) (ta : Fin 8) (gc gv : Fin 32) (s : State) : Host.Outcome State Fault Refusal :=
  .next (s.issuePost q.val 4 [.entry ((s.seq q.val).entryOf ta 6 false gc gv)])

/-- CFGW (R235). -/
def execCfgw (q : Fin 33) (r ga : Fin 32) (imm : Word) (s : State) : Host.Outcome State Fault Refusal :=
  let x := s.seq q.val
  .next (s.issuePost q.val 8 [.cfgw (x.extAddr ga imm / 4 * 4) (x.greg r.val)])

/-- CFGA (R235). -/
def execCfga (q : Fin 33) (ta : Fin 8) (ga : Fin 32) (imm : Word) (s : State) : Host.Outcome State Fault Refusal :=
  let x := s.seq q.val
  .next (s.issuePost q.val 8 [.cfga (x.extAddr ga imm / 4 * 4 % 2 ^ 31) (x.treg ta.val)])

/-- ZLOAD (R237). -/
def execZload (q : Fin 33) (ga : Fin 32) (imm : Word) (s : State) : Host.Outcome State Fault Refusal :=
  .next (s.issuePost q.val 8 [.zload ((s.seq q.val).extAddr ga imm)])

/-- SIG (R238). -/
def execSig (q : Fin 33) (tgt : Fin 33) (bit : Fin 32) (s : State) : Host.Outcome State Fault Refusal :=
  .next (s.issuePost q.val 4 [.signal tgt.val bit.val])

end Sys2Proof.Machine
end

