-- ==== Sys2Proof/Machine/Engine.lean ====
section
/-! DEFINITION. The machine of a signal engine: registers, slots, words, loops, interrupts, streams, control
(R345 to R381). -/

namespace Sys2Proof.Machine

open Sys2Proof.F

/-! ### Words (R369 to R373) -/

/-- The arithmetic slot. The fields are as R373 places them; `kind` of a product is 0 add, 1 subtract, 2 write. -/
inductive SeArith where
  | nop
  | mac (kind : Nat) (sign s g mask : Nat)
  | macp (kind : Nat) (sign s g : Nat) (w : Bool) (mask : Nat)
  | alu (f : Nat) (rd ra rb : Nat)
  | cmp (ra rb : Nat)
  | mov (rd ra : Nat)
  | movi (rd : Nat) (imm : BitVec 12)
  | aclr (mask : Nat)
  | aadd (d s : Nat)
  | aneg (d : Nat)
  | ald (d ra : Nat)
  | exp (rd s : Nat)
  | norm (s ra : Nat)
  | sata (d : Nat)
  | amov (rd s : Nat) (h : Bool)
  | br (cond target : Nat)
  | call (target : Nat)
  | ret
  | rti
  | loop (rot : Nat) (count : SeCount) (len : Nat)
  | idle
  | halt
  | mode (pair : Bool)
  | movc (fromCtl : Bool) (reg ctl : Nat)
  | sack (s n : Nat)
  | sput (s n : Nat)
  | esig (tgt bit : Nat)
  deriving DecidableEq, Repr

/-- An instruction word: its four slots. -/
structure SeWord where
  arith : SeArith
  m1 : SeMove
  m2 : SeMove
  ad : SeAddr
  deriving DecidableEq, Repr

/-! ### Registers (R345, R359, R370) -/

def Engine.set (x : Engine) (sh : Bool) : SeSet := if sh then x.shadow else x.main
def Engine.putSet (x : Engine) (sh : Bool) (r : SeSet) : Engine := if sh then { x with shadow := r } else { x with main := r }
def Engine.cur (x : Engine) : SeSet := x.set x.onShadow
def Engine.mapCur (x : Engine) (f : SeSet → SeSet) : Engine := x.putSet x.onShadow (f x.cur)

/-- The physical form of a code: a logical Q register's number is rotated by RRB (R359). -/
def Engine.phys (x : Engine) (code : Nat) : Nat := if 32 ≤ code then 32 + (code - 32 + x.cur.rrb) % 32 else code

/-- A register of a set by its physical code. -/
def Engine.get (x : Engine) (sh : Bool) (code : Nat) : Word :=
  let r := x.set sh
  if code < 8 then storeGet 0 r.x code
  else if code < 24 then (storeGet 0 r.p (code - 16)).setWidth 32
  else if code < 32 then (storeGet 0 r.m (code - 24)).signExtend 32
  else storeGet 0 x.q (code - 32)

/-- Write a register of a set by its physical code; a pointer and a modifier keep bits [15:0]. -/
def Engine.put (x : Engine) (sh : Bool) (code : Nat) (v : Word) : Engine :=
  let r := x.set sh
  if code < 8 then x.putSet sh { r with x := storeSet 0 r.x code v }
  else if code < 24 then x.putSet sh { r with p := storeSet 0 r.p (code - 16) (v.setWidth 16) }
  else if code < 32 then x.putSet sh { r with m := storeSet 0 r.m (code - 24) (v.setWidth 16) }
  else { x with q := storeSet 0 x.q (code - 32) v }

/-- Read a register of the running set. -/
def Engine.reg (x : Engine) (code : Nat) : Word := x.get x.onShadow (x.phys code)

/-- The four registers of a group code (R370). -/
def groupRegs (g : Nat) : List Nat :=
  (List.range 4).map (fun k => if g < 8 then (g + k) % 8 else 32 + (g - 32 + k) % 32)

/-- Codes that the arithmetic slot accepts, and group codes. -/
def codeOk (c : Nat) : Bool := decide (c < 8) || decide (16 ≤ c)
def groupOk (c : Nat) : Bool := decide (c < 8) || decide (32 ≤ c)

/-! ### Accumulators (R348 to R353) -/

def accWidth (pair : Bool) : Nat := if pair then 56 else 40

/-- A value as a signed number of `w` bits. -/
def wrapInt (w : Nat) (v : Int) : Int := signedOf w (wrapOf w v)

/-- The limit of a width on the side of a number's sign. -/
def limitOf (w : Nat) (v : Int) : Int := if v < 0 then -(2 ^ (w - 1) : Nat) else (2 ^ (w - 1) : Nat) - 1

/-- A sum at accumulator width (R351): the result, and whether it overflows. -/
def accSum (satacc pair : Bool) (a p : Int) : Int × Bool :=
  let w := accWidth pair
  let r := wrapInt w (a + p)
  let o := decide ((a < 0) = (p < 0)) && decide ((r < 0) ≠ (a < 0))
  (if o && satacc then limitOf w a else r, o)

/-- A factor of a product: `n` bits, signed or not. -/
def factor (signed : Bool) (n : Nat) (v : Word) : Int := if signed then signedOf n v.toNat else (v.toNat % 2 ^ n : Nat)

def sSigned (sign : Nat) : Bool := decide (sign = 0) || decide (sign = 2)
def gSigned (sign : Nat) : Bool := decide (sign = 0) || decide (sign = 3)

/-- Round `num / 2^k` to the nearest integer, halves to even (R352). -/
def roundEven (num : Int) (k : Nat) : Int :=
  let d : Int := (2 ^ k : Nat)
  let f := num / d
  let r := num % d
  if 2 * r < d then f else if d < 2 * r then f + 1 else if f % 2 = 0 then f else f + 1

/-- The scaled result of an accumulator (R352): the value and whether it was limited. -/
def scaled (scale : Int) (sat pair h : Bool) (v : Int) : Int × Bool :=
  let k := (if pair then 16 else 0) + (if h then 16 else 0)
  let r := roundEven (v * (2 ^ (scale + 8).toNat : Nat)) (k + 8)
  let w := if h then 16 else 32
  let hi : Int := (2 ^ (w - 1) : Nat) - 1
  let lo : Int := -(2 ^ (w - 1) : Nat)
  if sat then (if hi < r then (hi, true) else if r < lo then (lo, true) else (r, false)) else (wrapInt w r, false)

/-- SE.MODE.SCALE as it acts. -/
def State.seScale (s : State) (e : Nat) : Int := max (-8) (min 8 (signedOf 5 (s.fld SE_MODE_SCALE e)))

/-- Redundant sign bits of an accumulator less 8 (R353). -/
def expOf (pair : Bool) (v : Int) : Int :=
  let w := accWidth pair
  let m := if v < 0 then (-v - 1).toNat else v.toNat
  let used := if m = 0 then 0 else Nat.log2 m + 1
  ((w - 1 - used : Nat) : Int) - 8

/-! ### Pointers (R356 to R358) -/

/-- Reverse the low `w` bits. -/
def revBits (w v : Nat) : Nat := (List.range w).foldl (fun r i => if bitOf v i then r + 2 ^ (w - 1 - i) else r) 0

/-- A pointer update by `d` under its mode. -/
def ptrUpdate (mode esz : Nat) (b l p : Half) (d : Int) : Half :=
  let B := b.toNat
  let L := l.toNat
  let lin := BitVec.ofInt 16 ((p.toNat : Int) + d)
  if L = 0 ∨ 65536 < B + L then lin
  else if mode = 1 then
    let x : Int := p.toNat + d
    let inb (y : Int) : Bool := decide ((B : Int) ≤ y) && decide (y < ((B + L : Nat) : Int))
    if inb x then BitVec.ofInt 16 x
    else
      let y : Int := if ((B + L : Nat) : Int) ≤ x then x - (L : Int) else x + (L : Int)
      if inb y then BitVec.ofInt 16 y else b
  else if mode = 2 then
    let n := Nat.log2 L
    if 2 ^ n ≠ L ∨ n < esz then lin
    else
      let o := ((p.toNat : Int) - (B : Int)) % (L : Int) |>.toNat
      let w := n - esz
      let oh := revBits w (o / 2 ^ esz)
      let dh := revBits w (wrapOf 16 d / 2 ^ esz % 2 ^ w)
      BitVec.ofNat 16 (B + revBits w ((oh + dh) % 2 ^ w) * 2 ^ esz + o % 2 ^ esz)
  else lin

/-- Update pointer `p` of the running set by `d`, by the modes and buffers of `x0`. -/
def Engine.bumpPtr (x x0 : Engine) (p : Nat) (d : Int) : Engine :=
  let nib := bitsOf x0.pmode.toNat (4 * p) 4
  x.mapCur (fun r => { r with
    p := storeSet 0 r.p p (ptrUpdate (nib % 4) (nib / 4) (storeGet 0 x0.b p) (storeGet 0 x0.l p) (storeGet 0 r.p p) d) })

/-! ### Move slots (R354, R356, R371) -/

/-- A move's register code, pointer, modify code, size in bytes, and whether it stores. -/
def moveParts : SeMove → Option (Nat × Nat × Nat × Nat × Bool)
  | .nop => none
  | .ldH r p m => some (r.val, p.val, m.val, 2, false)
  | .ldW r p m => some (r.val, p.val, m.val, 4, false)
  | .ldQ4 r p m => some (r.val, p.val, m.val, 8, false)
  | .stH r p m => some (r.val, p.val, m.val, 2, true)
  | .stW r p m => some (r.val, p.val, m.val, 4, true)
  | .stQ4 r p m => some (r.val, p.val, m.val, 8, true)

/-- The pointer value of a move at issue. -/
def Engine.ptr (x : Engine) (p : Nat) : Nat := (storeGet 0 x.cur.p p).toNat

/-- The fault of a move slot: a register code it does not accept, or a misaligned access. -/
def Engine.moveFault (x : Engine) (m : SeMove) : Option (Nat × List Nat) :=
  match moveParts m with
  | none => none
  | some (r, p, _, n, _) =>
    let ok := if n = 8 then groupOk r else codeOk r || (decide (8 ≤ r) && decide (r < 12) &&
      !(x.cur.sr.pair && decide (r % 2 = 1)))
    if !ok then some (0x0801, [])
    else if x.ptr p % n ≠ 0 then some (0x0802, [x.ptr p])
    else none

/-- A pointer that a move updates. -/
def moveUpdates (m : SeMove) : Option Nat :=
  match moveParts m with
  | some (_, p, md, _, _) => if md = 0 then none else some p
  | none => none

/-- The pointer update of a move. -/
def Engine.movePtr (x x0 : Engine) (m : SeMove) : Engine :=
  match moveParts m with
  | none => x
  | some (_, p, md, n, _) =>
    match md with
    | 0 => x
    | 1 => x.bumpPtr x0 p (storeGet 0 x0.cur.m p).toInt
    | 2 => x.bumpPtr x0 p n
    | _ => x.bumpPtr x0 p (-(n : Int))

/-- The bytes of data memory at `a` as they stood at issue. -/
def Engine.mem (x : Engine) (a n : Nat) : Nat := leNat (readBytes x.dmem a n)

/-- Store bytes into data memory. -/
def Engine.store (x : Engine) (a : Nat) (bs : List Byte) : Engine := { x with dmem := writeBytes x.dmem a bs }

/-- A new value of accumulator `i` of a set: at once for accumulating operations, two words later for readers (R362). -/
def Engine.putAcc (x : Engine) (sh : Bool) (i : Nat) (v : Int) : Engine :=
  let r := x.set sh
  { (x.putSet sh { r with a := storeSet 0 r.a i v }) with
    flight := x.flight ++ [{ dest := .acc sh i, value := v, left := 2 }] }

/-- A loaded value sets out for a register, or acts as ALD on an accumulator (R362, R370). -/
def Engine.load (x x0 : Engine) (code : Nat) (v : Word) : Engine :=
  let sh := x0.onShadow
  if 8 ≤ code ∧ code < 12 then x.putAcc sh (code - 8) (v.toInt * (if x0.cur.sr.pair then 65536 else 1))
  else { x with flight := x.flight ++ [{ dest := .reg sh (x0.phys code), value := v.toInt, left := 1 }] }

/-- What a store writes: register bits, or a scaled result with whether it was limited. -/
def Engine.storeValue (x0 : Engine) (scale : Int) (sat : Bool) (code n : Nat) : Nat × Bool :=
  if 8 ≤ code ∧ code < 12 then
    let r := scaled scale sat x0.cur.sr.pair (decide (n = 2)) (storeGet 0 x0.cur.out (code - 8))
    (wrapOf (8 * n) r.1, r.2)
  else ((x0.reg code).toNat % 2 ^ (8 * n), false)

/-- The data part of a move. -/
def Engine.moveData (x x0 : Engine) (scale : Int) (sat : Bool) (m : SeMove) : Engine :=
  match moveParts m with
  | none => x
  | some (r, p, _, n, st) =>
    let a := x0.ptr p
    if st then
      if n = 8 then
        (x.store a ((groupRegs r).flatMap (fun c => leBytes 2 (x0.reg c).toNat)))
      else
        let v := x0.storeValue scale sat r n
        let x := x.store a (leBytes n v.1)
        if v.2 then x.mapCur (fun t => { t with sr := { t.sr with sat := true } }) else x
    else if n = 8 then
      (List.range 4).foldl (fun x k =>
        x.load x0 ((groupRegs r).getD k 0) ((BitVec.ofNat 16 (x0.mem (a + 2 * k) 2)).signExtend 32)) x
    else if n = 2 then x.load x0 r ((BitVec.ofNat 16 (x0.mem a 2)).signExtend 32)
    else x.load x0 r (BitVec.ofNat 32 (x0.mem a 4))

/-! ### The address slot (R372) -/

def addrUpdates : SeAddr → Option Nat
  | .addm p _ => some p.val
  | .addi p _ => some p.val
  | _ => none

def Engine.address (x x0 : Engine) (d : SeAddr) : Engine :=
  match d with
  | .nop => x
  | .addm p q => x.bumpPtr x0 p.val (storeGet 0 x0.cur.m q.val).toInt
  | .addi p i => x.bumpPtr x0 p.val i.toInt
  | .rrbd n => x.mapCur (fun r => { r with rrb := (r.rrb + 64 - n.val) % 32 })

/-! ### Results in flight (R362, R367) -/

/-- A result lands. -/
def State.seLand (s : State) (e : Nat) (f : SeFlight) : State :=
  let x := s.engine e
  match f.dest with
  | .reg sh c => s.setEngine e (x.put sh c (BitVec.ofInt 32 f.value))
  | .acc sh i => let r := x.set sh
    s.setEngine e (x.putSet sh { r with out := storeSet 0 r.out i f.value })
  | .guard => (s.setFld SE_IRQPEND_PEND e (withBit (s.fld SE_IRQPEND_PEND e) 5)).irqCheck e

/-- Every result in flight lands. -/
def State.seLandAll (s : State) (e : Nat) : State :=
  let fs := (s.engine e).flight
  fs.foldl (fun s f => s.seLand e f) (s.setEngine e { s.engine e with flight := [] })

/-- A word issues: results due land, and the others come one word nearer. -/
def State.seTick (s : State) (e : Nat) : State :=
  let fs := (s.engine e).flight
  let due := fs.filter (fun f => decide (f.left = 0))
  let rest := (fs.filter (fun f => decide (f.left ≠ 0))).map (fun f => { f with left := f.left - 1 })
  due.foldl (fun s f => s.seLand e f) (s.setEngine e { s.engine e with flight := rest })

/-! ### Faults and states (R379 to R381) -/

def State.seState (s : State) (e : Nat) : Nat := s.fld SE_STATUS_STATE e

def State.mapEngine (s : State) (e : Nat) (f : Engine → Engine) : State := s.setEngine e (f (s.engine e))

/-- A fault (R380). -/
def State.seFault (s : State) (e code : Nat) (more : List Nat) : State :=
  let s := s.seLandAll e
  let pc := (s.engine e).pc
  let s := ((s.setFld SE_STATUS_STATE e 3).setFld SE_FAULT_CAUSE e (code % 256)).setFld SE_FAULT_FPC e (pc % 4096)
  (s.mapEngine e (fun x => { x with faultAt := s.tickNo })).raise code (srcOf 9 e)
    (if code = 0x0804 then [e] else [e, pc] ++ more)

/-- The iteration end that is due (R360): rotation, count, and return or pop. -/
def Engine.iterate (x : Engine) : Engine :=
  if !x.iter then x
  else
    let x := { x with iter := false }
    match x.loops with
    | [] => x
    | l :: rest =>
      let x := x.mapCur (fun r => { r with rrb := (r.rrb + 32 - l.rot) % 32 })
      if l.count ≤ 1 then { x with loops := rest }
      else { x with loops := { l with count := l.count - 1 } :: rest, pc := l.first }

/-- ITERATION_END (R360). -/
def execIterationEnd (e : Fin 16) (s : State) : Host.Outcome State Fault Refusal := .next (s.mapEngine e.val Engine.iterate)

/-! ### Streams (R375 to R378) -/

def State.seAvail (s : State) (e p : Nat) : Nat := s.fldI SE_SAVAIL_AVAIL e p

/-- SAVAIL changes; a rise to LWM raises the port's source (R365). -/
def State.setAvail (s : State) (e p v : Nat) : State :=
  let old := s.seAvail e p
  let lwm := s.fldI SE_SWM_LWM e p
  let s := s.setFldI SE_SAVAIL_AVAIL e p v
  if lwm ≠ 0 ∧ old < lwm ∧ lwm ≤ v then
    (s.setFld SE_IRQPEND_PEND e (withBit (s.fld SE_IRQPEND_PEND e) (1 + p))).irqCheck e
  else s

def State.sePortIs (s : State) (e p dir : Nat) : Bool :=
  decide (s.fldI SE_SCFG_EN e p = 1) && decide (s.fldI SE_SCFG_DIR e p = dir)

def State.seRing (s : State) (e p : Nat) : Nat := s.fldI SE_SCFG_RING e p
def State.seLen (s : State) (e p : Nat) : Nat := s.fldI SE_SWIN_LLEN e p

def State.mapSePort (s : State) (e p : Nat) (f : SePort → SePort) : State :=
  s.mapEngine e (fun x => { x with ports := storeSet {} x.ports p (f (storeGet {} x.ports p)) })

/-- The next slot of a window. -/
def State.nextSlot (s : State) (e p : Nat) : State :=
  s.mapSePort e p (fun x => { x with slot := if x.slot + 1 < s.seLen e p then x.slot + 1 else 0 })

/-- Address of the window slot that a port copies next. -/
def State.slotAddr (s : State) (e p : Nat) : Nat :=
  16 * s.fldI SE_SWIN_LBASE e p + 16 * (storeGet {} (s.engine e).ports p).slot

/-- CONSUME_COPY (R376, R331): a consume port copies the next ring item. -/
def execConsumeCopy (e : Fin 16) (port : Fin 4) (ecc : Ecc) (s : State) : Host.Outcome State Fault Refusal :=
  let p := port.val
  let ag := agent 6 e.val
  let r := s.seRing e.val p
  let k := s.seAvail e.val p
  if !s.sePortIs e.val p 0 || !s.ready 4 || decide (s.seLen e.val p ≤ k) then .next s
  else if !s.ringEn r then .next (s.ringOff ag r)
  else if !s.mayConsume ag r then .next (s.ringNotMine ag r)
  else if s.ringFill r ≤ k || !s.readOpen r k then .next s
  else
    let a := s.ringAddr r (s.aheadOff r k)
    let (bs, s) := s.calderaRead ag a 16
    let s := s.eccSeen ecc ag a
    let s := s.mapEngine e.val (fun x => x.store (s.slotAddr e.val p) bs)
    .next ((s.nextSlot e.val p).setAvail e.val p (k + 1))

/-- A produce port offers its oldest committed item to its ring (R377, R334). -/
def State.seCopyOut (s : State) (e p : Nat) : State :=
  match (storeGet {} (s.engine e).ports p).items with
  | [] => s
  | item :: rest =>
    if !s.sePortIs e p 1 || !s.ready 4 then s
    else
      match s.ringOffer (agent 6 e) (s.seRing e p) item with
      | (s, .waits) => s
      | (s, _) =>
        let s := (s.nextSlot e p).mapSePort e p (fun x => { x with items := rest })
        s.setAvail e p (s.seAvail e p + 1)

/-- PRODUCE_COPY (R377, R334): a produce port copies a committed item to its ring. -/
def execProduceCopy (e : Fin 16) (port : Fin 4) (s : State) : Host.Outcome State Fault Refusal := .next (s.seCopyOut e.val port.val)

/-- SACK or SPUT beyond SAVAIL acts on SAVAIL items (R378). -/
def State.seItems (s : State) (e p n : Nat) : Nat × State :=
  let a := s.seAvail e p
  if a < n then (a, s.raise 0x0807 (srcOf 9 e) [e, p, n]) else (n, s)

def State.seSack (s : State) (e p n : Nat) : State :=
  if s.sePortIs e p 0 then
    let (n, s) := s.seItems e p n
    (s.setAvail e p (s.seAvail e p - n)).ringSkip (s.seRing e p) n
  else s

/-- The `n` items of a produce window that follow the committed ones, as they stand now. -/
def State.windowItems (s : State) (e p n : Nat) : List (BitVec 128) :=
  let x := storeGet {} (s.engine e).ports p
  (List.range n).map (fun i =>
    itemOf (readBytes (s.engine e).dmem (16 * s.fldI SE_SWIN_LBASE e p + 16 * ((x.slot + x.items.length + i) % max 1 (s.seLen e p))) 16))

/-- SPUT (R377): the items are committed with what the stores of earlier words left in them. -/
def State.seSput (s : State) (e p n : Nat) : State :=
  if s.sePortIs e p 1 then
    let (n, s) := s.seItems e p n
    let l := s.windowItems e p n
    (s.setAvail e p (s.seAvail e p - n)).mapSePort e p (fun x => { x with items := x.items ++ l })
  else s

/-! ### The arithmetic slot (R348 to R374) -/

/-- The Ursen function of an ALU code (R373). -/
def aluOf (f : Nat) : Flags → Word → Word → Word × Flags :=
  match f with
  | 0 => aluAdd
  | 1 => aluSub
  | 2 => aluAnd
  | 3 => aluOr
  | 4 => aluXor
  | 5 => aluShl
  | 6 => aluShr
  | _ => aluSar

def SeSr.flags (r : SeSr) : Flags := { z := r.z, n := r.n, c := r.c, v := r.v }
def SeSr.withFlags (r : SeSr) (f : Flags) : SeSr := { r with z := f.z, n := f.n, c := f.c, v := f.v }

/-- Accumulator indices that exist: 1 and 3 are reserved in pair mode (R350). -/
def Engine.accOk (x : Engine) (i : Nat) : Bool := !(x.cur.sr.pair && decide (i % 2 = 1))

/-- The loops of the engine's present call depth and level; the first is the innermost. -/
def Engine.inner (x : Engine) (l : SeLoop) : Bool := decide (l.depth = x.calls.length) && decide (l.level = x.level)

/-- The count of a LOOP. -/
def Engine.loopCount (x0 : Engine) (c : SeCount) : Nat :=
  match c with
  | .imm n => if n.val = 0 then 512 else n.val
  | .reg r => (x0.reg r.val).toNat

/-- The fault of the arithmetic slot, before any slot acts (R361, R369, R373). A LOOP whose count is 0 never becomes active. -/
def Engine.arithFault (x : Engine) (a : SeArith) : Option Nat :=
  let bad (b : Bool) : Option Nat := if b then none else some 0x0801
  match a with
  | .mac _ _ s g _ => bad (codeOk s && groupOk g)
  | .macp _ _ s g _ _ => bad (codeOk s && groupOk g)
  | .alu _ rd ra rb => bad (codeOk rd && codeOk ra && codeOk rb)
  | .cmp ra rb => bad (codeOk ra && codeOk rb)
  | .mov rd ra => bad (codeOk rd && codeOk ra)
  | .movi rd _ => bad (codeOk rd)
  | .aadd d s => bad (x.accOk d && x.accOk s)
  | .aneg d => bad (x.accOk d)
  | .ald d ra => bad (x.accOk d && codeOk ra)
  | .exp rd s => bad (codeOk rd && x.accOk s)
  | .norm s ra => bad (x.accOk s && codeOk ra)
  | .sata d => bad (x.accOk d)
  | .amov rd s _ => bad (codeOk rd && x.accOk s)
  | .br c _ => bad (decide (c < 15))
  | .call _ => if 8 ≤ x.calls.length then some 0x0803 else none
  | .ret => if x.calls.isEmpty then some 0x0803 else none
  | .rti => bad (decide (x.level ≠ 0))
  | .idle => bad (decide (x.level < 2))
  | .movc _ r c => bad (codeOk r && decide (c < 27))
  | .esig t _ => bad (decide (t ≤ 32))
  | .loop _ c len =>
    let regBad := match c with
      | .reg r => !codeOk r.val
      | .imm _ => false
    if regBad then some 0x0801
    else if x.loopCount c = 0 then none
    else if 4 ≤ x.loops.length then some 0x0803
    else
      match x.loops with
      | [] => none
      | l :: _ => if x.inner l && decide (l.last ≤ x.pc + len) then some 0x0803 else none
  | _ => none

/-- An accumulation overflows (R351): GOV and GOVPC latch the first, and the source pends at the instruction's end, two words on. -/
def State.seOverflow (s : State) (e pc : Nat) : State :=
  let s := s.mapEngine e (fun x => { x with flight := x.flight ++ [{ dest := .guard, value := 0, left := 1 }] })
  if s.bit SE_GOV_GOV e then s
  else ((s.setBit SE_GOV_GOV e true).setFld SE_GOV_GOVPC e pc).raise 0x0805 (srcOf 9 e) [e, pc]

/-- An accumulator takes a value that may have overflowed. -/
def State.seAcc (s : State) (e i pc : Nat) (r : Int × Bool) : State :=
  let s := s.mapEngine e (fun x => x.putAcc x.onShadow i r.1)
  if r.2 then s.seOverflow e pc else s

/-- A product acts on accumulator `i` (R348, R349). -/
def State.seProduct (s : State) (e : Nat) (x0 : Engine) (kind i : Nat) (p : Int) : State :=
  let a := storeGet 0 x0.cur.a i
  let sat := s.bit SE_MODE_SATACC e
  s.seAcc e i x0.pc
    (match kind with
    | 0 => accSum sat x0.cur.sr.pair a p
    | 1 => accSum sat x0.cur.sr.pair a (-p)
    | _ => (p, false))

/-- An accumulator takes a free value: an operation of the other mode on it (log entry 52). -/
def State.seFreeAcc (s : State) (e i : Nat) (pair : Bool) : State :=
  let (f, s) := s.freeNat
  s.mapEngine e (fun x => x.putAcc x.onShadow i (wrapInt (accWidth pair) f))

/-- Quad-mode products (R348). -/
def State.seMac (s : State) (e : Nat) (x0 : Engine) (kind sign sc g mask : Nat) : State :=
  if x0.cur.sr.pair then
    [(0, 0), (1, 2)].foldl (fun s li => if bitOf mask li.1 then s.seFreeAcc e li.2 true else s) s
  else
    (List.range 4).foldl (fun s k =>
      if bitOf mask k then
        let f := factor (sSigned sign) 16 (x0.reg sc)
        let h := factor (gSigned sign) 16 (x0.reg ((groupRegs g).getD k 0))
        s.seProduct e x0 kind k (f * h)
      else s) s

/-- Pair-mode products (R349): lane 0 acts on AP0 (A0), lane 1 on AP1 (A2). -/
def State.seMacp (s : State) (e : Nat) (x0 : Engine) (kind sign sc g : Nat) (w : Bool) (mask : Nat) : State :=
  (List.range 2).foldl (fun s k =>
    if bitOf mask k then
      if x0.cur.sr.pair then
        let f := factor (sSigned sign) (if w then 16 else 32) (x0.reg sc)
        let h := factor (gSigned sign) (if w then 32 else 16) (x0.reg ((groupRegs g).getD k 0))
        s.seProduct e x0 kind (2 * k) (f * h)
      else s.seFreeAcc e (2 * k) false
    else s) s

/-- NORM (R353): the result and whether a left shift changes the sign. -/
def normOf (satacc pair : Bool) (a : Int) (count : Int) : Int × Bool :=
  let n := max (-63) (min 63 count)
  if n < 0 then (a / (2 ^ (-n).toNat : Nat), false)
  else
    let r := wrapInt (accWidth pair) (a * (2 ^ n.toNat : Nat))
    let o := decide ((r < 0) ≠ (a < 0))
    (if o && satacc then limitOf (accWidth pair) a else r, o)

/-- A value read from a control register (R374). -/
def State.ctlRead (s : State) (e : Nat) (x0 : Engine) (c : Nat) : Word × State :=
  let r := x0.cur
  if c < 8 then ((storeGet 0 x0.b c).setWidth 32, s)
  else if c < 16 then ((storeGet 0 x0.l (c - 8)).setWidth 32, s)
  else if c = 16 then (x0.pmode, s)
  else if c = 17 then
    (BitVec.ofNat 32 (b2n r.sr.z + 2 * b2n r.sr.n + 4 * b2n r.sr.c + 8 * b2n r.sr.v + 16 * b2n r.sr.sat + 32 * b2n r.sr.pair), s)
  else if c = 18 then (BitVec.ofNat 32 r.rrb, s)
  else if c = 19 then
    match x0.loops with
    | l :: _ => (BitVec.ofNat 32 l.count, s)
    | [] => let (f, s) := s.freeNat
      (BitVec.ofNat 32 f, s)
  else if c < 24 then (BitVec.ofNat 32 (s.seAvail e (c - 20)), s)
  else if c = 24 then (BitVec.ofNat 32 (2 ^ 31 * s.fld SE_GOV_GOV e + s.fld SE_GOV_GOVPC e), s)
  else if c = 25 then
    (BitVec.ofNat 32 (128 * s.fld SE_MODE_SATACC e + 64 * s.fld SE_MODE_SAT e + s.fld SE_MODE_SCALE e), s)
  else (BitVec.ofNat 32 (s.fld SE_ATNPEND_PEND e), s)

/-- Acknowledge attention events of an engine (R365, R166). -/
def State.seAck (s : State) (e mask : Nat) : State :=
  (List.range 32).foldl (fun s n =>
    if bitOf mask n && bitOf (s.fld SE_ATNPEND_PEND e) n then
      (s.setFld SE_ATNPEND_PEND e (withoutBit (s.fld SE_ATNPEND_PEND e) n)).atnAck n (.engine e)
    else s) s

/-- Write a control register (R374). -/
def State.ctlWrite (s : State) (e c : Nat) (v : Word) : State :=
  let n := v.toNat
  if c < 8 then s.mapEngine e (fun x => { x with b := storeSet 0 x.b c (v.setWidth 16) })
  else if c < 16 then s.mapEngine e (fun x => { x with l := storeSet 0 x.l (c - 8) (v.setWidth 16) })
  else if c = 16 then s.mapEngine e (fun x => { x with pmode := v })
  else if c = 17 then
    s.mapEngine e (fun x => x.mapCur (fun r => { r with
      sr := { z := bitOf n 0, n := bitOf n 1, c := bitOf n 2, v := bitOf n 3, sat := bitOf n 4, pair := r.sr.pair } }))
  else if c = 18 then s.mapEngine e (fun x => x.mapCur (fun r => { r with rrb := n % 32 }))
  else if c < 24 then s
  else if c = 24 then s.setBit SE_GOV_GOV e false
  else if c = 25 then
    ((s.setFld SE_MODE_SATACC e (bitsOf n 7 1)).setFld SE_MODE_SAT e (bitsOf n 6 1)).setFld SE_MODE_SCALE e (bitsOf n 0 5)
  else s.seAck e n

/-- Write a register from the arithmetic slot; a pointer that a move or the address slot updates keeps its update (R364). -/
def State.sePut (s : State) (e : Nat) (x0 : Engine) (upd : Nat → Bool) (code : Nat) (v : Word) : State :=
  if decide (16 ≤ code) && decide (code < 24) && upd (code - 16) then s
  else s.mapEngine e (fun x => x.put x0.onShadow (x0.phys code) v)

def State.mapSr (s : State) (e : Nat) (f : SeSr → SeSr) : State :=
  s.mapEngine e (fun x => x.mapCur (fun r => { r with sr := f r.sr }))

/-- Go on at a word. -/
def State.seGo (s : State) (e t : Nat) : State := s.mapEngine e (fun x => { x with pc := t })

/-- A taken branch pops every active loop whose body does not hold the target, whatever call or level it was pushed at (R361). -/
def popLoops (t : Nat) (l : List SeLoop) : List SeLoop := l.filter (fun l => decide (l.first ≤ t) && decide (t ≤ l.last))

/-- The rotation step of a field value (R373). -/
def rotOf (f : Nat) : Nat := if f = 3 then 4 else f

/-- The arithmetic slot acts; `x0` is the engine as it stood at issue, `upd` the pointers that other slots update. -/
def State.seArith (s : State) (e : Nat) (x0 : Engine) (upd : Nat → Bool) (a : SeArith) : State :=
  let pair := x0.cur.sr.pair
  let satacc := s.bit SE_MODE_SATACC e
  let acc (i : Nat) : Int := storeGet 0 x0.cur.a i
  let outer (i : Nat) : Int := storeGet 0 x0.cur.out i
  match a with
  | .nop => s
  | .mac k sg sc g m => s.seMac e x0 k sg sc g m
  | .macp k sg sc g w m => s.seMacp e x0 k sg sc g w m
  | .alu f rd ra rb =>
    let r := aluOf f x0.cur.sr.flags (x0.reg ra) (x0.reg rb)
    (s.sePut e x0 upd rd r.1).mapSr e (fun t => t.withFlags r.2)
  | .cmp ra rb => s.mapSr e (fun t => t.withFlags (subFlags (x0.reg ra) (x0.reg rb)))
  | .mov rd ra => s.sePut e x0 upd rd (x0.reg ra)
  | .movi rd i => s.sePut e x0 upd rd (i.signExtend 32)
  | .aclr m =>
    if pair then
      let s := if m % 4 ≠ 0 then s.seAcc e 0 x0.pc (0, false) else s
      if m / 4 ≠ 0 then s.seAcc e 2 x0.pc (0, false) else s
    else (List.range 4).foldl (fun s k => if bitOf m k then s.seAcc e k x0.pc (0, false) else s) s
  | .aadd d t => s.seAcc e d x0.pc (accSum satacc pair (acc d) (acc t))
  | .aneg d =>
    let w := accWidth pair
    let o := decide (acc d = -(2 ^ (w - 1) : Nat))
    s.seAcc e d x0.pc (if o then (if satacc then limitOf w 1 else acc d) else -(acc d), o)
  | .ald d ra => s.seAcc e d x0.pc ((x0.reg ra).toInt * (if pair then 65536 else 1), false)
  | .exp rd t => s.sePut e x0 upd rd (BitVec.ofInt 32 (expOf pair (outer t)))
  | .norm t ra => s.seAcc e t x0.pc (normOf satacc pair (acc t) (x0.reg ra).toInt)
  | .sata d =>
    let w := if pair then 48 else 32
    let v := acc d
    let lo : Int := -(2 ^ (w - 1) : Nat)
    let hi : Int := (2 ^ (w - 1) : Nat) - 1
    if v < lo ∨ hi < v then (s.seAcc e d x0.pc (limitOf w v, false)).mapSr e (fun t => { t with sat := true })
    else s.seAcc e d x0.pc (v, false)
  | .amov rd t h =>
    let r := scaled (s.seScale e) (s.bit SE_MODE_SAT e) pair h (outer t)
    let s := s.sePut e x0 upd rd (BitVec.ofInt 32 r.1)
    if r.2 then s.mapSr e (fun t => { t with sat := true }) else s
  | .br c t =>
    if condHolds x0.cur.sr.flags c then
      (s.seGo e t).mapEngine e (fun x => { x with loops := popLoops t x.loops })
    else s
  | .call t => (s.seGo e t).mapEngine e (fun x => { x with calls := (x0.pc + 1) :: x.calls })
  | .ret =>
    match x0.calls with
    | c :: rest => (s.seGo e c).mapEngine e (fun x => { x with calls := rest })
    | [] => s
  | .rti =>
    let s := s.mapEngine e (fun x => { x with loops := x.loops.filter (fun l => decide (l.level ≠ x0.level)) })
    if x0.level = 1 then s.mapEngine e (fun x => { x with level := 0, onShadow := false, pc := x0.ra1 })
    else (s.mapSr e (fun _ => x0.sr2)).mapEngine e (fun x => { x with level := x0.below, pc := x0.ra2 })
  | .loop rot c len =>
    let n := x0.loopCount c
    if n = 0 then s.seGo e (x0.pc + len + 1)
    else s.mapEngine e (fun x => { x with
      loops := { first := x0.pc + 1, last := x0.pc + len, count := n, depth := x0.calls.length, level := x0.level
                 rot := rotOf rot } :: x.loops })
  | .idle => s.setFld SE_STATUS_STATE e 2
  | .halt => s.setFld SE_STATUS_STATE e 0
  | .mode p =>
    (s.seLandAll e).mapEngine e (fun x => x.mapCur (fun r => { r with a := [], out := [], sr := { r.sr with pair := p } }))
  | .movc true r c =>
    let (v, s) := s.ctlRead e x0 c
    s.sePut e x0 upd r v
  | .movc false r c => s.ctlWrite e c (x0.reg r)
  | .sack p n => s.seSack e p n
  | .sput p n => s.seSput e p n
  | .esig t b => s.signalIn t b

/-! ### Issue (R347, R354, R362, R369) -/

/-- The fault of a word, before any slot acts. -/
def Engine.wordFault (x : Engine) (w : SeWord) : Option (Nat × List Nat) :=
  let stores (m : SeMove) : Bool := match moveParts m with
    | some (_, _, _, _, st) => st
    | none => false
  if 4096 ≤ x.pc then some (0x0804, [])
  else if stores w.m1 && stores w.m2 then some (0x0801, [])
  else
    match x.arithFault w.arith with
    | some c => some (c, [])
    | none =>
      match x.moveFault w.m1 with
      | some f => some f
      | none => x.moveFault w.m2

/-- A word acts, its slots reading what stood at issue. -/
def State.seRun (s : State) (e : Nat) (w : SeWord) : State :=
  let x0 := s.engine e
  let upd (p : Nat) : Bool := decide (moveUpdates w.m1 = some p) || decide (moveUpdates w.m2 = some p) ||
      decide (addrUpdates w.ad = some p)
  let scale := s.seScale e
  let sat := s.bit SE_MODE_SAT e
  let s := (s.seGo e (x0.pc + 1)).seArith e x0 upd w.arith
  -- the moves and the address slot act on the set that was running at issue
  let s := s.mapEngine e (fun x =>
    let back := x.onShadow
    let x := { x with onShadow := x0.onShadow }
    let x := ((x.moveData x0 scale sat w.m1).moveData x0 scale sat w.m2)
    let x := ((x.movePtr x0 w.m1).movePtr x0 w.m2).address x0 w.ad
    { x with onShadow := back })
  let s := s.mapEngine e (fun x =>
    match x.loops with
    | l :: _ => if x.inner l && decide (l.last = x0.pc) then { x with iter := true } else x
    | [] => x)
  if s.seState e = 0 ∨ s.seState e = 2 then (s.seLandAll e).irqCheck e else s.irqCheck e

/-- Issue a word on engine `e` (R347, R380): only while it is RUNNING. -/
def State.seIssue (s : State) (e : Nat) (w : SeWord) : State :=
  if s.seState e ≠ 1 then s
  else
    let s := (s.mapEngine e Engine.iterate).seTick e
    match (s.engine e).wordFault w with
    | some (c, more) => s.seFault e c more
    | none => s.seRun e w

/-! ### Interrupts (R365 to R368) -/

/-- Taking a source clears it, but for attention (R365). -/
def State.irqTake (s : State) (e k : Nat) : State :=
  if k = 0 then s else s.setFld SE_IRQPEND_PEND e (withoutBit (s.fld SE_IRQPEND_PEND e) k)

/-- LEVEL1_INTERRUPT (R366, R368). -/
def execLevel1Interrupt (e : Fin 16) (s : State) : Host.Outcome State Fault Refusal :=
  let s0 := s
  let s := s.mapEngine e.val Engine.iterate
  let x := s.engine e.val
  if (s.seState e.val = 1 ∨ s.seState e.val = 2) ∧ x.level = 0 ∧ s.asleep = false then
    match s.irqSource e.val false with
    | some k =>
      .next (((s.irqTake e.val k).setFld SE_STATUS_STATE e.val 1).setEngine e.val { x with
        level := 1, onShadow := true, ra1 := x.pc, pc := s.fld SE_VEC_VEC1 e.val })
    | none => .next s0
  else .next s0

/-- LEVEL2_INTERRUPT (R367, R368): every result in flight lands. -/
def execLevel2Interrupt (e : Fin 16) (s : State) : Host.Outcome State Fault Refusal :=
  let s0 := s
  let s := (s.mapEngine e.val Engine.iterate).seLandAll e.val
  let x := s.engine e.val
  if (s0.seState e.val = 1 ∨ s0.seState e.val = 2) ∧ x.level < 2 ∧ s.asleep = false then
    match s0.irqSource e.val true with
    | some k =>
      .next (((s.irqTake e.val k).setFld SE_STATUS_STATE e.val 1).setEngine e.val { x with
        level := 2, below := x.level, ra2 := x.pc, sr2 := x.cur.sr, pc := s.fld SE_VEC_VEC2 e.val })
    | none => .next s0
  else .next s0

/-! ### Control (R379 to R381) -/

/-- What START clears. -/
def State.seClear (s : State) (e : Nat) : State :=
  let s := (s.setFld SE_IRQPEND_PEND e 0).setBit SE_GOV_GOV e false
  s.mapEngine e (fun x => { x with
    main := {}, shadow := {}, q := [], b := [], l := [], pmode := 0, calls := [], loops := [], level := 0
    onShadow := false, flight := [], iter := false, below := 0 })

def State.seStart (s : State) (e : Nat) : State :=
  if s.seState e = 0 ∨ s.seState e = 3 then
    (((s.seClear e).seGo e (s.fld SE_ENTRY_WORD e)).setFld SE_STATUS_STATE e 1).irqCheck e
  else s

def State.seResume (s : State) (e : Nat) : State :=
  if s.seState e = 0 then (s.setFld SE_STATUS_STATE e 1).irqCheck e else s

def State.seHalt (s : State) (e : Nat) : State :=
  if s.seState e = 1 ∨ s.seState e = 2 then
    ((s.mapEngine e Engine.iterate).seLandAll e).setFld SE_STATUS_STATE e 0
  else s

/-- An engine reset (R28, R381). -/
def State.seReset (s : State) (e : Nat) : State :=
  let s := ((s.seClear e).seAck e (2 ^ 32 - 1)).setFld SE_STATUS_STATE e 0
  let s := ((s.setFld SE_FAULT_CAUSE e 0).setFld SE_FAULT_FPC e 0).setFld SE_FAULT_RESTARTS e 0
  (List.range 4).foldl (fun s p =>
    if s.fldI SE_SCFG_DIR e p = 0 then (s.setFldI SE_SAVAIL_AVAIL e p 0).mapSePort e p (fun x => { x with slot := 0 }) else s)
    (s.dropArm .se e 0x1000)

/-- ENGINE_RESET (R246, R381): an SRST with m = 1 reaches the engine. -/
def execEngineReset (q : Fin 33) (addr : Word) (s : State) : Host.Outcome State Fault Refusal :=
  .next (s.deliver q.val (fun p => decide (p = .srst 1 addr.toNat)) (fun s =>
    match cfgDecode (addr.toNat % 2 ^ 31) with
    | some (.se, e, _) => s.seReset e
    | _ => s))

/-- ENGINE_RESTART (R380): 1 µs after a fault with FAULTACT set. -/
def execEngineRestart (e : Fin 16) (s : State) : Host.Outcome State Fault Refusal :=
  if decide (s.seState e.val = 3) && s.bit SE_CTRL_FAULTACT e.val then
    .next (((s.reachTick ((s.engine e.val).faultAt + usTicks)).bump SE_FAULT_RESTARTS e.val).seStart e.val)
  else .next s

/-- ACCESS_SLOT_TAKEN (R355): a transfer takes an access slot, and the next word issues one engine cycle later, which no
state of the part shows. -/
def execAccessSlotTaken (_e : Fin 16) (s : State) : Host.Outcome State Fault Refusal := .next s

/-! ### Register writes (R375, R384) -/

/-- SE.SCFG_s has been written (R375); `was` is EN before it. -/
def State.scfgWrote (s : State) (e p was : Nat) : State :=
  if s.fldI SE_SCFG_EN e p = 1 ∧ was = 0 then
    let r := s.seRing e p
    let dir := s.fldI SE_SCFG_DIR e p
    let named := if dir = 0 then s.fld RING_CTRL_CONS r else s.fld RING_CTRL_PROD r
    if named ≠ agent 6 e ∨ 65536 < 16 * s.fldI SE_SWIN_LBASE e p + 16 * s.seLen e p then
      (s.setFldI SE_SCFG_EN e p 0).raise 0x0806 (srcOf 9 e) [e, p, r]
    else (s.mapSePort e p (fun _ => {})).setAvail e p (if dir = 0 then 0 else s.seLen e p)
  else s

end Sys2Proof.Machine
end

