-- ==== Sys2Proof/Machine/EngineWord.lean ====
section
/-! DEFINITION. The instructions of the signal engines (R348 to R378): each command issues one word. A row of the arithmetic
slot carries the word's other slots; a row of a move or of the address slot is a word whose arithmetic slot is NOP, with
the row's own slot first (log entry 50). -/

namespace Sys2Proof.Machine

open Sys2Proof.F

/-- MAC (R348, R351). -/
def execMac (e : Fin 16) (sign : Fin 4) (sc g : Fin 64) (mask : Fin 16) (m1 m2 : SeMove) (ad : SeAddr) (s : State) :
    Host.Outcome State Fault Refusal :=
  .next (s.seIssue e.val { arith := .mac 0 sign.val sc.val g.val mask.val, m1 := m1, m2 := m2, ad := ad })

/-- MSU (R348, R351). -/
def execMsu (e : Fin 16) (sign : Fin 4) (sc g : Fin 64) (mask : Fin 16) (m1 m2 : SeMove) (ad : SeAddr) (s : State) :
    Host.Outcome State Fault Refusal :=
  .next (s.seIssue e.val { arith := .mac 1 sign.val sc.val g.val mask.val, m1 := m1, m2 := m2, ad := ad })

/-- MPY (R348, R351). -/
def execMpy (e : Fin 16) (sign : Fin 4) (sc g : Fin 64) (mask : Fin 16) (m1 m2 : SeMove) (ad : SeAddr) (s : State) :
    Host.Outcome State Fault Refusal :=
  .next (s.seIssue e.val { arith := .mac 2 sign.val sc.val g.val mask.val, m1 := m1, m2 := m2, ad := ad })

/-- MACP (R349, R351). -/
def execMacp (e : Fin 16) (sign : Fin 4) (sc g : Fin 64) (w : Bool) (mask : Fin 4) (m1 m2 : SeMove) (ad : SeAddr) (s : State) :
    Host.Outcome State Fault Refusal :=
  .next (s.seIssue e.val { arith := .macp 0 sign.val sc.val g.val w mask.val, m1 := m1, m2 := m2, ad := ad })

/-- MSUP (R349, R351). -/
def execMsup (e : Fin 16) (sign : Fin 4) (sc g : Fin 64) (w : Bool) (mask : Fin 4) (m1 m2 : SeMove) (ad : SeAddr) (s : State) :
    Host.Outcome State Fault Refusal :=
  .next (s.seIssue e.val { arith := .macp 1 sign.val sc.val g.val w mask.val, m1 := m1, m2 := m2, ad := ad })

/-- MPYP (R349, R351). -/
def execMpyp (e : Fin 16) (sign : Fin 4) (sc g : Fin 64) (w : Bool) (mask : Fin 4) (m1 m2 : SeMove) (ad : SeAddr) (s : State) :
    Host.Outcome State Fault Refusal :=
  .next (s.seIssue e.val { arith := .macp 2 sign.val sc.val g.val w mask.val, m1 := m1, m2 := m2, ad := ad })

/-- SE_ADD (R373). -/
def execSeAdd (e : Fin 16) (rd ra rb : Fin 64) (m1 m2 : SeMove) (ad : SeAddr) (s : State) :
    Host.Outcome State Fault Refusal :=
  .next (s.seIssue e.val { arith := .alu 0 rd.val ra.val rb.val, m1 := m1, m2 := m2, ad := ad })

/-- SE_SUB (R373). -/
def execSeSub (e : Fin 16) (rd ra rb : Fin 64) (m1 m2 : SeMove) (ad : SeAddr) (s : State) :
    Host.Outcome State Fault Refusal :=
  .next (s.seIssue e.val { arith := .alu 1 rd.val ra.val rb.val, m1 := m1, m2 := m2, ad := ad })

/-- SE_AND (R373). -/
def execSeAnd (e : Fin 16) (rd ra rb : Fin 64) (m1 m2 : SeMove) (ad : SeAddr) (s : State) :
    Host.Outcome State Fault Refusal :=
  .next (s.seIssue e.val { arith := .alu 2 rd.val ra.val rb.val, m1 := m1, m2 := m2, ad := ad })

/-- SE_OR (R373). -/
def execSeOr (e : Fin 16) (rd ra rb : Fin 64) (m1 m2 : SeMove) (ad : SeAddr) (s : State) :
    Host.Outcome State Fault Refusal :=
  .next (s.seIssue e.val { arith := .alu 3 rd.val ra.val rb.val, m1 := m1, m2 := m2, ad := ad })

/-- SE_XOR (R373). -/
def execSeXor (e : Fin 16) (rd ra rb : Fin 64) (m1 m2 : SeMove) (ad : SeAddr) (s : State) :
    Host.Outcome State Fault Refusal :=
  .next (s.seIssue e.val { arith := .alu 4 rd.val ra.val rb.val, m1 := m1, m2 := m2, ad := ad })

/-- SE_SHL (R373). -/
def execSeShl (e : Fin 16) (rd ra rb : Fin 64) (m1 m2 : SeMove) (ad : SeAddr) (s : State) :
    Host.Outcome State Fault Refusal :=
  .next (s.seIssue e.val { arith := .alu 5 rd.val ra.val rb.val, m1 := m1, m2 := m2, ad := ad })

/-- SE_SHR (R373). -/
def execSeShr (e : Fin 16) (rd ra rb : Fin 64) (m1 m2 : SeMove) (ad : SeAddr) (s : State) :
    Host.Outcome State Fault Refusal :=
  .next (s.seIssue e.val { arith := .alu 6 rd.val ra.val rb.val, m1 := m1, m2 := m2, ad := ad })

/-- SE_SAR (R373). -/
def execSeSar (e : Fin 16) (rd ra rb : Fin 64) (m1 m2 : SeMove) (ad : SeAddr) (s : State) :
    Host.Outcome State Fault Refusal :=
  .next (s.seIssue e.val { arith := .alu 7 rd.val ra.val rb.val, m1 := m1, m2 := m2, ad := ad })

/-- SE_CMP (R373). -/
def execSeCmp (e : Fin 16) (ra rb : Fin 64) (m1 m2 : SeMove) (ad : SeAddr) (s : State) :
    Host.Outcome State Fault Refusal := .next (s.seIssue e.val { arith := .cmp ra.val rb.val, m1 := m1, m2 := m2, ad := ad })

/-- SE_MOV (R373). -/
def execSeMov (e : Fin 16) (rd ra : Fin 64) (m1 m2 : SeMove) (ad : SeAddr) (s : State) :
    Host.Outcome State Fault Refusal := .next (s.seIssue e.val { arith := .mov rd.val ra.val, m1 := m1, m2 := m2, ad := ad })

/-- SE_MOVI (R373). -/
def execSeMovi (e : Fin 16) (rd : Fin 64) (imm : BitVec 12) (m1 m2 : SeMove) (ad : SeAddr) (s : State) :
    Host.Outcome State Fault Refusal := .next (s.seIssue e.val { arith := .movi rd.val imm, m1 := m1, m2 := m2, ad := ad })

/-- NOP (R373). -/
def execNop (e : Fin 16) (m1 m2 : SeMove) (ad : SeAddr) (s : State) :
    Host.Outcome State Fault Refusal := .next (s.seIssue e.val { arith := .nop, m1 := m1, m2 := m2, ad := ad })

/-- ACLR (R373). -/
def execAclr (e : Fin 16) (mask : Fin 16) (m1 m2 : SeMove) (ad : SeAddr) (s : State) :
    Host.Outcome State Fault Refusal := .next (s.seIssue e.val { arith := .aclr mask.val, m1 := m1, m2 := m2, ad := ad })

/-- AADD (R351, R373). -/
def execAadd (e : Fin 16) (d t : Fin 4) (m1 m2 : SeMove) (ad : SeAddr) (s : State) :
    Host.Outcome State Fault Refusal := .next (s.seIssue e.val { arith := .aadd d.val t.val, m1 := m1, m2 := m2, ad := ad })

/-- ANEG (R351, R373). -/
def execAneg (e : Fin 16) (d : Fin 4) (m1 m2 : SeMove) (ad : SeAddr) (s : State) :
    Host.Outcome State Fault Refusal := .next (s.seIssue e.val { arith := .aneg d.val, m1 := m1, m2 := m2, ad := ad })

/-- ALD (R373). -/
def execAld (e : Fin 16) (d : Fin 4) (ra : Fin 64) (m1 m2 : SeMove) (ad : SeAddr) (s : State) :
    Host.Outcome State Fault Refusal := .next (s.seIssue e.val { arith := .ald d.val ra.val, m1 := m1, m2 := m2, ad := ad })

/-- EXP (R353). -/
def execExp (e : Fin 16) (rd : Fin 64) (t : Fin 4) (m1 m2 : SeMove) (ad : SeAddr) (s : State) :
    Host.Outcome State Fault Refusal := .next (s.seIssue e.val { arith := .exp rd.val t.val, m1 := m1, m2 := m2, ad := ad })

/-- NORM (R353). -/
def execNorm (e : Fin 16) (t : Fin 4) (ra : Fin 64) (m1 m2 : SeMove) (ad : SeAddr) (s : State) :
    Host.Outcome State Fault Refusal := .next (s.seIssue e.val { arith := .norm t.val ra.val, m1 := m1, m2 := m2, ad := ad })

/-- SATA (R373). -/
def execSata (e : Fin 16) (d : Fin 4) (m1 m2 : SeMove) (ad : SeAddr) (s : State) :
    Host.Outcome State Fault Refusal := .next (s.seIssue e.val { arith := .sata d.val, m1 := m1, m2 := m2, ad := ad })

/-- AMOV (R352). -/
def execAmov (e : Fin 16) (rd : Fin 64) (t : Fin 4) (h : Bool) (m1 m2 : SeMove) (ad : SeAddr) (s : State) :
    Host.Outcome State Fault Refusal := .next (s.seIssue e.val { arith := .amov rd.val t.val h, m1 := m1, m2 := m2, ad := ad })

/-- SE_BR (R361, R373). -/
def execSeBr (e : Fin 16) (cond : Fin 15) (target : Fin 4096) (m1 m2 : SeMove) (ad : SeAddr) (s : State) :
    Host.Outcome State Fault Refusal := .next (s.seIssue e.val { arith := .br cond.val target.val, m1 := m1, m2 := m2, ad := ad })

/-- SE_CALL (R373). -/
def execSeCall (e : Fin 16) (target : Fin 4096) (m1 m2 : SeMove) (ad : SeAddr) (s : State) :
    Host.Outcome State Fault Refusal := .next (s.seIssue e.val { arith := .call target.val, m1 := m1, m2 := m2, ad := ad })

/-- SE_RET (R373). -/
def execSeRet (e : Fin 16) (m1 m2 : SeMove) (ad : SeAddr) (s : State) :
    Host.Outcome State Fault Refusal := .next (s.seIssue e.val { arith := .ret, m1 := m1, m2 := m2, ad := ad })

/-- RTI (R361, R366, R367). -/
def execRti (e : Fin 16) (m1 m2 : SeMove) (ad : SeAddr) (s : State) :
    Host.Outcome State Fault Refusal := .next (s.seIssue e.val { arith := .rti, m1 := m1, m2 := m2, ad := ad })

/-- LOOP (R360). -/
def execLoop (e : Fin 16) (rot : Fin 4) (count : SeCount) (len : Fin 64) (m1 m2 : SeMove) (ad : SeAddr) (s : State) :
    Host.Outcome State Fault Refusal :=
  .next (s.seIssue e.val { arith := .loop rot.val count (len.val + 1), m1 := m1, m2 := m2, ad := ad })

/-- IDLE (R368). -/
def execIdle (e : Fin 16) (m1 m2 : SeMove) (ad : SeAddr) (s : State) :
    Host.Outcome State Fault Refusal := .next (s.seIssue e.val { arith := .idle, m1 := m1, m2 := m2, ad := ad })

/-- SE_HALT (R373). -/
def execSeHalt (e : Fin 16) (m1 m2 : SeMove) (ad : SeAddr) (s : State) :
    Host.Outcome State Fault Refusal := .next (s.seIssue e.val { arith := .halt, m1 := m1, m2 := m2, ad := ad })

/-- MODE (R350). -/
def execMode (e : Fin 16) (pair : Bool) (m1 m2 : SeMove) (ad : SeAddr) (s : State) :
    Host.Outcome State Fault Refusal := .next (s.seIssue e.val { arith := .mode pair, m1 := m1, m2 := m2, ad := ad })

/-- MOVC (R374). -/
def execMovc (e : Fin 16) (fromCtl : Bool) (reg ctl : Fin 64) (m1 m2 : SeMove) (ad : SeAddr) (s : State) :
    Host.Outcome State Fault Refusal :=
  .next (s.seIssue e.val { arith := .movc fromCtl reg.val ctl.val, m1 := m1, m2 := m2, ad := ad })

/-- SACK (R376, R378). -/
def execSack (e : Fin 16) (port : Fin 4) (n : Fin 1024) (m1 m2 : SeMove) (ad : SeAddr) (s : State) :
    Host.Outcome State Fault Refusal := .next (s.seIssue e.val { arith := .sack port.val n.val, m1 := m1, m2 := m2, ad := ad })

/-- SPUT (R377, R378). -/
def execSput (e : Fin 16) (port : Fin 4) (n : Fin 1024) (m1 m2 : SeMove) (ad : SeAddr) (s : State) :
    Host.Outcome State Fault Refusal := .next (s.seIssue e.val { arith := .sput port.val n.val, m1 := m1, m2 := m2, ad := ad })

/-- ESIG (R373, R197). -/
def execEsig (e : Fin 16) (tgt : Fin 33) (bit : Fin 32) (m1 m2 : SeMove) (ad : SeAddr) (s : State) :
    Host.Outcome State Fault Refusal := .next (s.seIssue e.val { arith := .esig tgt.val bit.val, m1 := m1, m2 := m2, ad := ad })

/-- The word of a move row. -/
def moveWord (second : Bool) (m other : SeMove) (ad : SeAddr) : SeWord :=
  if second then { arith := .nop, m1 := other, m2 := m, ad := ad } else { arith := .nop, m1 := m, m2 := other, ad := ad }

/-- LD_H (R354, R371), in move slot 1 or 2. -/
def execLdH (e : Fin 16) (second : Bool) (reg : Fin 64) (ptr : Fin 8) (mod : Fin 4) (other : SeMove) (ad : SeAddr) (s : State) :
    Host.Outcome State Fault Refusal := .next (s.seIssue e.val (moveWord second (.ldH reg ptr mod) other ad))

/-- LD_W (R354, R371), in move slot 1 or 2. -/
def execLdW (e : Fin 16) (second : Bool) (reg : Fin 64) (ptr : Fin 8) (mod : Fin 4) (other : SeMove) (ad : SeAddr) (s : State) :
    Host.Outcome State Fault Refusal := .next (s.seIssue e.val (moveWord second (.ldW reg ptr mod) other ad))

/-- LD_Q4 (R354, R371), in move slot 1 or 2. -/
def execLdQ4 (e : Fin 16) (second : Bool) (reg : Fin 64) (ptr : Fin 8) (mod : Fin 4) (other : SeMove) (ad : SeAddr) (s : State) :
    Host.Outcome State Fault Refusal := .next (s.seIssue e.val (moveWord second (.ldQ4 reg ptr mod) other ad))

/-- ST_H (R354, R371), in move slot 1 or 2. -/
def execStH (e : Fin 16) (second : Bool) (reg : Fin 64) (ptr : Fin 8) (mod : Fin 4) (other : SeMove) (ad : SeAddr) (s : State) :
    Host.Outcome State Fault Refusal := .next (s.seIssue e.val (moveWord second (.stH reg ptr mod) other ad))

/-- ST_W (R354, R371), in move slot 1 or 2. -/
def execStW (e : Fin 16) (second : Bool) (reg : Fin 64) (ptr : Fin 8) (mod : Fin 4) (other : SeMove) (ad : SeAddr) (s : State) :
    Host.Outcome State Fault Refusal := .next (s.seIssue e.val (moveWord second (.stW reg ptr mod) other ad))

/-- ST_Q4 (R354, R371), in move slot 1 or 2. -/
def execStQ4 (e : Fin 16) (second : Bool) (reg : Fin 64) (ptr : Fin 8) (mod : Fin 4) (other : SeMove) (ad : SeAddr) (s : State) :
    Host.Outcome State Fault Refusal := .next (s.seIssue e.val (moveWord second (.stQ4 reg ptr mod) other ad))

/-- ADDM (R356, R372). -/
def execAddm (e : Fin 16) (p q : Fin 8) (m1 m2 : SeMove) (s : State) :
    Host.Outcome State Fault Refusal := .next (s.seIssue e.val { arith := .nop, m1 := m1, m2 := m2, ad := .addm p q })

/-- ADDI (R356, R372). -/
def execAddi (e : Fin 16) (p : Fin 8) (imm : BitVec 6) (m1 m2 : SeMove) (s : State) :
    Host.Outcome State Fault Refusal := .next (s.seIssue e.val { arith := .nop, m1 := m1, m2 := m2, ad := .addi p imm })

/-- RRBD (R356, R372). -/
def execRrbd (e : Fin 16) (n : Fin 64) (m1 m2 : SeMove) (s : State) :
    Host.Outcome State Fault Refusal := .next (s.seIssue e.val { arith := .nop, m1 := m1, m2 := m2, ad := .rrbd n })

/-! ### Decoding (R369 to R373) -/

/-- A move slot of 14 bits. -/
def seMoveOf (v : Nat) : Option SeMove :=
  let r : Fin 64 := Fin.ofNat 64 (bitsOf v 5 6)
  let p : Fin 8 := Fin.ofNat 8 (bitsOf v 2 3)
  let m : Fin 4 := Fin.ofNat 4 (bitsOf v 0 2)
  match bitsOf v 11 3 with
  | 0 => if v = 0 then some .nop else none
  | 1 => some (.ldH r p m)
  | 2 => some (.ldW r p m)
  | 3 => some (.ldQ4 r p m)
  | 4 => some (.stH r p m)
  | 5 => some (.stW r p m)
  | 6 => some (.stQ4 r p m)
  | _ => none

/-- The address slot of 12 bits. -/
def seAddrOf (v : Nat) : Option SeAddr :=
  let p : Fin 8 := Fin.ofNat 8 (bitsOf v 6 3)
  match bitsOf v 9 3 with
  | 0 => if v = 0 then some .nop else none
  | 1 => if bitsOf v 0 3 = 0 then some (.addm p (Fin.ofNat 8 (bitsOf v 3 3))) else none
  | 2 => some (.addi p (BitVec.ofNat 6 v))
  | 3 => if bitsOf v 6 3 = 0 then some (.rrbd (Fin.ofNat 64 (bitsOf v 0 6))) else none
  | _ => none

/-- `x` where the bits that must be 0 are. -/
def zeros (v lo w : Nat) (x : SeArith) : Option SeArith := if bitsOf v lo w = 0 then some x else none

/-- The arithmetic slot of 24 bits; bit 0 is word bit 40. -/
def seArithOf (v : Nat) : Option SeArith :=
  let hi := bitsOf v 12 6
  let mid := bitsOf v 6 6
  let lo := bitsOf v 0 6
  let two := bitsOf v 16 2
  match bitsOf v 18 6 with
  | 0x01 => zeros v 0 18 .nop
  | 0x02 => some (.mac 0 two (bitsOf v 10 6) (bitsOf v 4 6) (bitsOf v 0 4))
  | 0x03 => some (.mac 1 two (bitsOf v 10 6) (bitsOf v 4 6) (bitsOf v 0 4))
  | 0x04 => some (.mac 2 two (bitsOf v 10 6) (bitsOf v 4 6) (bitsOf v 0 4))
  | 0x05 => zeros v 2 1 (.macp 0 two (bitsOf v 10 6) (bitsOf v 4 6) (bitOf v 3) (bitsOf v 0 2))
  | 0x06 => zeros v 2 1 (.macp 1 two (bitsOf v 10 6) (bitsOf v 4 6) (bitOf v 3) (bitsOf v 0 2))
  | 0x07 => zeros v 2 1 (.macp 2 two (bitsOf v 10 6) (bitsOf v 4 6) (bitOf v 3) (bitsOf v 0 2))
  | 0x08 => some (.alu 0 hi mid lo)
  | 0x09 => some (.alu 1 hi mid lo)
  | 0x0A => some (.alu 2 hi mid lo)
  | 0x0B => some (.alu 3 hi mid lo)
  | 0x0C => some (.alu 4 hi mid lo)
  | 0x0D => some (.alu 5 hi mid lo)
  | 0x0E => some (.alu 6 hi mid lo)
  | 0x0F => some (.alu 7 hi mid lo)
  | 0x10 => zeros v 12 6 (.cmp mid lo)
  | 0x11 => zeros v 0 6 (.mov hi mid)
  | 0x12 => some (.movi hi (BitVec.ofNat 12 v))
  | 0x14 => zeros v 4 14 (.aclr (bitsOf v 0 4))
  | 0x15 => zeros v 0 14 (.aadd two (bitsOf v 14 2))
  | 0x16 => zeros v 0 16 (.aneg two)
  | 0x17 => zeros v 0 10 (.ald two (bitsOf v 10 6))
  | 0x18 => zeros v 0 10 (.exp hi (bitsOf v 10 2))
  | 0x19 => zeros v 0 10 (.norm two (bitsOf v 10 6))
  | 0x1A => zeros v 0 16 (.sata two)
  | 0x1B => zeros v 0 9 (.amov hi (bitsOf v 10 2) (bitOf v 9))
  | 0x20 => if bitsOf v 14 4 = 15 then none else zeros v 12 2 (.br (bitsOf v 14 4) (bitsOf v 0 12))
  | 0x21 => zeros v 12 6 (.call (bitsOf v 0 12))
  | 0x22 => zeros v 0 18 .ret
  | 0x23 => zeros v 0 18 .rti
  | 0x24 =>
    if bitOf v 15 then zeros v 12 3 (.loop two (.reg (Fin.ofNat 64 mid)) (lo + 1))
    else some (.loop two (.imm (Fin.ofNat 512 (bitsOf v 6 9))) (lo + 1))
  | 0x25 => zeros v 0 18 .idle
  | 0x26 => zeros v 0 18 .halt
  | 0x27 => zeros v 1 17 (.mode (bitOf v 0))
  | 0x28 => zeros v 0 5 (.movc (bitOf v 17) (bitsOf v 11 6) (bitsOf v 5 6))
  | 0x29 => zeros v 0 6 (.sack two (bitsOf v 6 10))
  | 0x2A => zeros v 0 6 (.sput two (bitsOf v 6 10))
  | 0x2B => zeros v 0 7 (.esig hi (bitsOf v 7 5))
  | _ => none

/-- An instruction word (R369); none where an opcode or code is reserved or a bit shown as 0 is set. -/
def seDecode (w : Nat) : Option SeWord :=
  match seArithOf (bitsOf w 40 24), seMoveOf (bitsOf w 26 14), seMoveOf (bitsOf w 12 14), seAddrOf (bitsOf w 0 12) with
  | some a, some m1, some m2, some d => some { arith := a, m1 := m1, m2 := m2, ad := d }
  | _, _, _, _ => none

/-- ILLEGAL_INSTRUCTION_WORD (R369): the word faults before any slot acts, and so does fetch past word 4,095. -/
def execIllegalInstructionWord (e : Fin 16) (w : BitVec 64) (s : State) : Host.Outcome State Fault Refusal :=
  let x := (s.engine e.val).iterate
  if s.seState e.val ≠ 1 then .next s
  else
    let t := s.setEngine e.val x
    if 4096 ≤ x.pc then .next (t.seFault e.val 0x0804 [])
    else
      match seDecode w.toNat with
      | none => .next (t.seFault e.val 0x0801 [])
      | some d => if (x.wordFault d).isSome then .next (s.seIssue e.val d) else .next s

/-- STEP of SE.CTRL (R379): one word from HALTED. -/
def State.seStep (s : State) (e : Nat) : State :=
  if s.seState e ≠ 0 then s
  else
    let s := (s.mapEngine e Engine.iterate).setFld SE_STATUS_STATE e 1
    let x := s.engine e
    let s :=
      if 4096 ≤ x.pc then s.seFault e 0x0804 []
      else
        match seDecode (leNat (readBytes x.imem (8 * x.pc) 8)) with
        | none => s.seFault e 0x0801 []
        | some d => s.seIssue e d
    if s.seState e = 3 then s else ((s.mapEngine e Engine.iterate).seLandAll e).setFld SE_STATUS_STATE e 0

/-- A write to an engine's register lands (R375, R379, R384). -/
def State.seWrite (s : State) (who e off v : Nat) : State :=
  if off = 0x34 then s.seAck e v
  else if off = 0x2C then
    if bitOf v 0 then (s.setFld SE_IRQPEND_PEND e (withBit (s.fld SE_IRQPEND_PEND e) 6)).irqCheck e else s
  else
    let p := (off - 0x40) / 16
    let was := s.fldI SE_SCFG_EN e p
    let s := s.classWrite who .se e off v (fun _ _ => false)
    if off = 0 then
      if bitOf v 31 then s.seStart e
      else if bitOf v 30 then s.seResume e
      else if bitOf v 29 then s.seHalt e
      else if bitOf v 28 then s.seStep e
      else s
    else if 0x40 ≤ off ∧ off < 0x80 ∧ off % 16 = 0 then s.scfgWrote e p was
    else s.irqCheck e

end Sys2Proof.Machine
end

