-- ==== Sys2Proof/Machine/Constellation.lean ====
section
/-! DEFINITION. Links and the forming of the constellation (R415 to R431, R438 to R441, R444): training, neighbours,
election, numbering, time alignment, re-forming. -/

namespace Sys2Proof.Machine

open Sys2Proof.F

def linkSrc (l : Nat) : Nat := srcOf 14 l
def constSrc : Nat := srcOf 15 0

/-! ### Records and phases (R422, R444) -/

/-- Write a link record to CONST.RING, with RECEN set. -/
def State.linkRecord (s : State) (l kind payload : Nat) : State :=
  if s.bit CONST_CTRL_RECEN 0 then
    let (r, s) := s.evRec s.now (6 * 1024 + l) kind 0 payload
    (s.mapConst (fun c => { c with buf := c.buf ++ [(l, r)] })).constFlush
  else s

/-- The link of a device event's record: the parent link, or 0 on the root. -/
def State.recLink (s : State) : Nat := (s.const.parent).getD 0

def State.phases (s : State) : Nat := s.fld CONST_STATUS_PHASE 0

/-- Phase P`k` is reached. -/
def State.inPhase (s : State) (k : Nat) : Bool := bitOf s.phases k

/-- Send IDENT on a link. -/
def State.sendIdent (s : State) (l : Nat) : State :=
  let pref := s.fld CONST_PREF_NUM 0 + 2 ^ 15 * s.fld CONST_PREF_VALID 0
  s.sendHop l 0x02 (leBytes 8 s.uid ++ leBytes 1 (s.fld CONST_PRIO_PRIO 0) ++ leBytes 2 pref ++ leBytes 1 l ++
    leBytes 1 s.phases ++ leBytes 3 0)

/-- Every link that is up. -/
def State.upLinks (s : State) : List Nat := (List.range 8).filter s.linkUp

/-- Send IDENT on every up link, as its content has changed (R423). -/
def State.identAll (s : State) : State := s.upLinks.foldl (fun s l => s.sendIdent l) s

/-- The readiness bits that follow phases P1, P5 and P6 (R422). -/
def phaseReady (k : Nat) : Option Nat := if k = 1 then some 8 else if k = 5 then some 6 else if k = 6 then some 9 else none

/-- Enter or leave a phase; IDENT tells the neighbours (R423). -/
def State.setPhase (s : State) (k : Nat) (x : Bool) : State :=
  if s.inPhase k = x then s
  else
    let s := s.setFld CONST_STATUS_PHASE 0 (if x then withBit s.phases k else withoutBit s.phases k)
    let s := match phaseReady k with
      | some b => s.setReady b x
      | none => s
    (s.linkRecord s.recLink 0x45 s.phases).identAll

/-- The device takes part in forming (R422). -/
def State.forming (s : State) : Bool := s.bit CONST_CTRL_EN 0 && s.inPhase 0

/-! ### What the device claims (R419, R424) -/

/-- Send CLAIM on a link. -/
def State.sendClaim (s : State) (l : Nat) : State :=
  match s.const.claim with
  | none => s
  | some c => s.sendHop l 0x03 (leBytes 8 c.uid ++ leBytes 1 c.prio ++ leBytes 1 (b2n c.est) ++
      leBytes 1 c.hops ++ leBytes 1 c.parent ++ leBytes 4 0)

/-- Send CLAIM on every up link (R424). -/
def State.claimAll (s : State) : State := s.upLinks.foldl (fun s l => s.sendClaim l) s

/-! ### Roles (R424, R425, R442) -/

/-- The peer of link `l` has taken this device as its parent. -/
def LinkSide.childHere (x : LinkSide) : Bool :=
  match x.ident, x.claim with
  | some i, some c => decide (c.parent = i.link)
  | _, _ => false

/-- Link `l` leads to a child: its peer has taken this device as its parent, over a link that may be in the tree (R421). -/
def State.childOn (s : State) (l : Nat) : Bool := (s.link l).childHere && !s.bit LINK_CTRL_NOTREE l

/-- HOPQ shows the way to its device (R439, R443). -/
def State.hopqShow (s : State) : State :=
  let d := s.fld CONST_HOPQ_DEV 0
  let h := treeHops s.const.tree s.devNum d
  ((s.setBit CONST_HOPQ_VALID 0 h.isSome).setFld CONST_HOPQ_HOPS 0 (h.getD 0)).setFld CONST_HOPQ_LINK 0 ((s.linkTo d).getD 0)

/-- Bring ROLE of every link up to date, and what HOPQ shows with it. -/
def State.syncRoles (s : State) : State :=
  ((List.range 8).foldl (fun s l =>
    let r := if !s.linkUp l || s.const.claim.isNone then 0
      else if s.const.parent = some l then 1
      else if s.childOn l then 2 else 3
    s.setFld LINK_STATUS_ROLE l r) s).hopqShow

/-! ### The election (R424) -/

/-- A claim is better than another: EST first, then PRIO, then the unique ID. -/
def Claim.better (a b : Claim) : Bool :=
  if a.est ≠ b.est then a.est
  else decide (a.prio < b.prio) || (decide (a.prio = b.prio) && decide (a.uid < b.uid))

/-- No parent link, in a claim. -/
def noLink : Nat := 255

/-- The parent link brings the claim that the device has adopted: the formation stands. -/
def State.formStands (s : State) : Bool :=
  match s.const.claim, s.const.parent with
  | some c, some l => decide ((s.link l).claim.map (fun x => x.uid) = some c.uid)
  | _, _ => false

/-- The claim of the device for itself. EST: it has been at P4 under an earlier formation (R424), or under the one that its parent
has left (log entry 141). -/
def State.ownClaim (s : State) : Claim where
  uid := s.uid
  prio := s.fld CONST_PRIO_PRIO 0
  est := s.const.est || (s.inPhase 4 && !s.formStands)
  hops := 0
  parent := noLink

/-- The neighbour on link `l` lies in this device's own subtree, as the tree map shows, and its claim is that of the map's root:
it came by this device (R439). -/
def State.ownBelow (s : State) (l : Nat) : Bool :=
  match (s.link l).ident, (s.link l).claim with
  | some i, some c =>
    let t := s.const.tree
    t.any (fun d => decide (d.uid = i.uid) && (ancestors t 64 d.num).contains s.devNum) &&
      t.any (fun d => decide (d.uid = c.uid) && decide (d.num = d.parent))
  | _, _ => false

/-- The claim that link `l` brings, if it may lead to a parent: it is up, NOTREE is clear, the peer is not below this device. -/
def State.heard (s : State) (l : Nat) : Option Claim :=
  let x := s.link l
  if s.linkUp l && !s.bit LINK_CTRL_NOTREE l && x.ident.isSome && !s.childOn l && !s.ownBelow l then
    x.claim.bind (fun c => if c.hops < 63 then some c else none)
  else none

/-- Order of the links that bring one claim: hops, neighbour UID, link number. -/
def State.linkFirst (s : State) (a b : Nat) : Bool :=
  let key (l : Nat) : Nat × Nat :=
    (match (s.link l).claim with
      | some c => c.hops
      | none => 64,
     match (s.link l).ident with
      | some i => i.uid
      | none => 0)
  let x := key a
  let y := key b
  decide (x.1 < y.1) || (decide (x.1 = y.1) && (decide (x.2 < y.2) || (decide (x.2 = y.2) && decide (a < b))))

/-- The best of a list, by an order. -/
def bestOf {α : Type} (first : α → α → Bool) : List α → Option α
  | [] => none
  | x :: t =>
    match bestOf first t with
    | none => some x
    | some y => if first y x then some y else some x

/-- The claim to adopt now, and the parent link. -/
def State.choose (s : State) : Claim × Option Nat :=
  let links := (List.range 8).filter (fun l => (s.heard l).isSome)
  let best := (links.filterMap s.heard).foldl (fun b c => if c.better b then c else b) s.ownClaim
  if best.uid = s.uid then (s.ownClaim, none)
  else
    let bring := links.filter (fun l => match s.heard l with
      | some c => decide (c.uid = best.uid) && (c.est == best.est)
      | none => false)
    match bestOf s.linkFirst bring with
    | none => (s.ownClaim, none)
    | some l =>
      let hops := match s.heard l with
        | some c => c.hops + 1
        | none => 0
      ({ best with hops := hops, parent := l }, some l)

/-- TOPO and DEPTH as the tree gives them (R421, R443). -/
def State.syncTopo (s : State) : State :=
  let t := s.const.tree
  let depths := t.map (fun d => (ancestors t 64 d.num).length - 1)
  let diam := t.foldl (fun m a => t.foldl (fun m b => max m ((treeHops t a.num b.num).getD 0)) m) 0
  let s := ((s.setFld CONST_TOPO_COUNT 0 t.length).setFld CONST_TOPO_DEPTHMAX 0 (depths.foldl max 0)).setFld
    CONST_TOPO_DIAM 0 diam
  let s := (List.range 8).foldl (fun s l =>
    match (s.link l).ident.bind (fun i => t.find? (fun d => decide (d.uid = i.uid))) with
    | some d => s.setFld LINK_STATUS_PEERNUM l d.num
    | none => s) s
  let s := s.hopqShow
  if 24 < diam then s.raiseFirst 0x0A10 constSrc [diam] else s

/-- The number of the parent. -/
def State.parentNum (s : State) : Nat :=
  match s.const.parent with
  | some l => s.fld LINK_STATUS_PEERNUM l
  | none => s.devNum

/-- The record of a re-formed tree or a changed root (R445). -/
def State.reformed (s : State) : State :=
  s.raise 0x0A04 constSrc [s.parentNum, s.fld CONST_STATUS_DEPTH 0, s.fld CONST_TOPO_DIAM 0]

/-- What the device keeps of its neighbours' reports under a claim of device `uid` with parent link `p`: nothing by the parent
link, and of who has reported nothing in a new formation or under a new parent. -/
def ConstSide.under (x : ConstSide) (c : Claim) (p : Option Nat) : ConstSide :=
  let same := decide (x.parent = p) && decide (x.claim.map (fun a => a.uid) = some c.uid)
  { x with
    claim := some c, parent := p
    reports := x.reports.filter (fun r => decide (some r.via ≠ p)),
      repComing := x.repComing.filter (fun r => decide (some r.via ≠ p))
    reported := if same then x.reported else [] }

/-- Adopt a claim and a parent link; every change is told to the neighbours. -/
def State.take (s : State) (c : Claim) (p : Option Nat) : State :=
  if s.const.claim = some c ∧ s.const.parent = p then s.syncRoles
  else
    let s := s.mapConst (fun x => { x.under c p with claimAt := s.tickNo })
    let s := (((s.setFld CONST_STATUS_DEPTH 0 c.hops).setFld CONST_ROOT_LO_LO 0 (c.uid % 2 ^ 32)).setFld CONST_ROOT_HI_HI 0
      (c.uid / 2 ^ 32)).setBit CONST_STATUS_ROOT 0 (s.bit CONST_STATUS_ROOT 0 && decide (c.uid = s.uid))
    s.claimAll.syncRoles.barResend

/-- A claim better than the adopted one is heard. -/
def State.betterHeard (s : State) : Bool :=
  match s.const.claim with
  | some c => (List.range 8).any (fun l => (s.heard l).any (fun x => x.better c))
  | none => true

/-- At P4 the device keeps its place while its parent link brings the adopted claim and no better one is heard (log entry 141):
its claim as the parent now has it. -/
def State.keeps (s : State) : Option Claim :=
  if s.inPhase 4 && s.formStands && !s.betterHeard then
    s.const.parent.bind (fun l => (s.link l).claim.map (fun c => { c with hops := min 63 (c.hops + 1), parent := l }))
  else none

/-- The device has lost its parent and waits for REATTACH (R439). -/
def State.adrift (s : State) : Bool :=
  s.inPhase 4 && s.const.parent.isNone && s.const.claim.any (fun c => decide (c.uid ≠ s.uid))

/-- A device at P4 has taken a parent link other than `was`: the record of its attachment (R439, R440, R444). -/
def State.attached (s : State) (was : Option Nat) : State :=
  match s.const.parent with
  | some l => if s.inPhase 4 ∧ was ≠ some l then
      s.linkRecord l 0x42 (s.fld LINK_STATUS_PEERNUM l + 2 ^ 16 * s.fld CONST_STATUS_DEPTH 0) else s
  | none => s

/-- Take part in the election: from P2 on, the best claim heard is adopted (R424); from P4 on, the tree changes where the formation
ends or a better one is met (R440), and by REATTACH (R439). -/
def State.elect (s : State) : State :=
  if !s.forming || !s.inPhase 2 || s.adrift then s
  else
    match s.keeps with
    | some c => s.take c s.const.parent
    | none =>
      let (c, p) := s.choose
      let was := s.const.parent
      let s := if s.inPhase 4 && !s.formStands then s.mapConst (fun x => { x with est := true }) else s
      (s.take c p).attached was

/-! ### P1 and P2 (R422, R423) -/

/-- Judge P1 and P2. -/
def State.judgePhases (s : State) : State :=
  if !s.forming then s
  else
    let enabled := (List.range 8).filter (fun l => s.bit LINK_CTRL_EN l)
    let ended := enabled.all (fun l => decide (s.fld LINK_STATUS_STATE l = 2) || decide (s.fld LINK_STATUS_STATE l = 3))
    let s := if ended && !s.upLinks.isEmpty then s.setPhase 1 true else s
    if s.inPhase 1 && s.upLinks.all (fun l => (s.link l).ident.isSome) && !s.inPhase 2 then (s.setPhase 2 true).elect
    else s

/-! ### Alignment holdover (R438) -/

/-- Enter AHOLD (R438): cause 1 the parent link is down, 2 the parent's TSYNC, 3 the bound of R429. What the slew has still to
absorb is given up, so the frequency stays as it is (log entry 142). -/
def State.enterHold (s : State) (cause : Nat) : State :=
  if s.bit CONST_STATUS_AHOLD 0 || !s.inPhase 5 then s
  else
    let s := s.setBit CONST_STATUS_AHOLD 0 true
    let s : State := { s with time := { s.time with holdRec := true, slewRem := 0, slewAcc := 0 } }
    let s := s.mapConst (fun c => { c with holdAt := s.tickNo, okSince := none })
    (s.raise 0x0A08 constSrc [cause]).linkRecord s.recLink 0x44 s.parentNum

/-- Leave AHOLD: the record names the duration and the offset. -/
def State.leaveHold (s : State) (offset : Nat) : State :=
  if !s.bit CONST_STATUS_AHOLD 0 then s
  else
    let s := s.setBit CONST_STATUS_AHOLD 0 false
    let s : State := { s with time := { s.time with holdRec := s.time.holdover } }
    (s.raise 0x0A09 constSrc [s.tickNo - s.const.holdAt, offset]).linkRecord s.recLink 0x43 0

/-! ### Numbering (R425) -/

/-- REPORT towards the root: the device's own entry, then its subtree's, 10 a frame, and a last frame of fewer (log entry 37). -/
def State.sendReport (s : State) : State :=
  let pref := s.fld CONST_PREF_NUM 0 + 2 ^ 15 * s.fld CONST_PREF_VALID 0
  let parentUid := match s.const.parent.bind (fun l => (s.link l).ident) with
    | some i => i.uid
    | none => s.uid
  let own : RepDev := { uid := s.uid, parent := parentUid, pref := pref, phase := s.phases, via := noLink }
  let all := own :: s.const.reports
  (List.range (all.length / 10 + 1)).foldl (fun s i =>
    s.sendUp 0x04 (((all.drop (10 * i)).take 10).flatMap (fun r =>
      leBytes 8 r.uid ++ leBytes 8 r.parent ++ leBytes 2 r.pref ++ leBytes 1 r.phase ++ leBytes 5 0))) s

/-- ASSIGN to every device: 16 entries a frame, the root's first, and a last frame of fewer (log entry 115). -/
def State.sendAssign (s : State) (t : List TreeDev) : State :=
  (List.range (t.length / 16 + 1)).foldl (fun s i =>
    s.flood 0x05 (((t.drop (16 * i)).take 16).flatMap (fun d =>
      leBytes 8 d.uid ++ leBytes 2 d.num ++ leBytes 2 d.parent ++ leBytes 4 0))) s

/-- The lowest number that is not in a list. -/
def lowestFree (used : List Nat) : Option Nat := (List.range 512).find? (fun n => !used.contains n)

/-- Numbers for the devices in turn that have none: a valid preferred number that is free, else the lowest free one. -/
def numberNew (pref : Bool) : List RepDev → List (Nat × Nat) → List (Nat × Nat)
  | [], have_ => have_
  | r :: t, have_ =>
    let used := have_.map Prod.snd
    if have_.any (fun x => decide (x.1 = r.uid)) then numberNew pref t have_
    else
      let want := r.pref % 512
      if pref ∧ bitOf r.pref 15 ∧ !used.contains want then numberNew pref t (have_ ++ [(r.uid, want)])
      else
        match lowestFree used with
        | some n => numberNew pref t (have_ ++ [(r.uid, n)])
        | none => numberNew pref t have_

/-- The devices of one level below those that have numbers, in the order of parent number, then UID. -/
def nextLevel (devs : List RepDev) (done : List Nat) (have_ : List (Nat × Nat)) : List RepDev :=
  let here := devs.filter (fun r => !done.contains r.uid && done.contains r.parent)
  let num (u : Nat) : Nat := ((have_.find? (fun x => decide (x.1 = u))).map Prod.snd).getD 512
  here.mergeSort (fun a b => decide (num a.parent < num b.parent) ||
    (decide (num a.parent = num b.parent) && decide (a.uid ≤ b.uid)))

/-- Round 2 of the numbering: level by level from the root. -/
def numberLevels (pref : Bool) (devs : List RepDev) : Nat → List Nat → List (Nat × Nat) → List (Nat × Nat)
  | 0, _, have_ => have_
  | fuel + 1, done, have_ =>
    let level := nextLevel devs done have_
    if level.isEmpty then have_
    else numberLevels pref devs fuel (done ++ level.map (fun r => r.uid)) (numberNew pref level have_)

/-- Round 1 from scratch: every valid preferred number is granted, to the lower UID where two ask for it. -/
def grantPrefs (devs : List RepDev) : List (Nat × Nat) :=
  ((devs.filter (fun r => bitOf r.pref 15)).mergeSort (fun a b => decide (a.uid ≤ b.uid))).foldl (fun have_ r =>
    if have_.any (fun x => decide (x.2 = r.pref % 512)) then have_ else have_ ++ [(r.uid, r.pref % 512)]) []

/-- This device's own entry. -/
def State.ownRep (s : State) : RepDev where
  uid := s.uid
  parent := s.uid
  pref := s.fld CONST_PREF_NUM 0 + 2 ^ 15 * s.fld CONST_PREF_VALID 0
  phase := s.phases
  via := noLink

/-- This device has a number (R422, R425). -/
def State.numbered (s : State) (n : Nat) : State :=
  let first := !s.bit CONST_ID_VALID 0
  let s := (s.setBit CONST_ID_VALID 0 true).setFld CONST_ID_NUM 0 n
  let s := if first ∧ s.fld CONST_PREF_VALID 0 = 1 ∧ s.fld CONST_PREF_NUM 0 ≠ n then
    s.raise 0x0A05 constSrc [s.fld CONST_PREF_NUM 0, n] else s
  if first then (s.setPhase 4 true).barCheckAll else s.setPhase 4 true

/-- P5 on this device (R427): records stop carrying LOCAL. -/
def State.aligned (s : State) : State :=
  let s : State := { s with time := { s.time with localRec := false, holdRec := s.time.holdover } }
  s.setPhase 5 true

/-- Payload of STATE (R419). -/
def stateFrame (phase n diam depth : Nat) : List Byte :=
  leBytes 1 phase ++ leBytes 2 n ++ leBytes 1 diam ++ leBytes 1 depth ++ leBytes 3 0

/-- STATE to every device (R431), from a device that has a number. -/
def State.sendState (s : State) : State :=
  if !s.bit CONST_ID_VALID 0 then s
  else s.flood 0x0C (stateFrame s.phases s.const.tree.length (s.fld CONST_TOPO_DIAM 0) (s.fld CONST_TOPO_DEPTHMAX 0))

/-- The root judges P6 (R431). -/
def State.judgeReady (s : State) : State :=
  let n := s.const.tree.length
  let low := decide (n < s.const.p6count) || decide (n < s.fld CONST_EXPECT_COUNT 0)
  if s.inPhase 6 then
    (s.mapConst (fun c => { c with belowAt := if low then some (c.belowAt.getD s.tickNo) else none })).sendState
  else if s.inPhase 5 && s.const.reports.all (fun r => bitOf r.phase 5) && decide (s.fld CONST_EXPECT_COUNT 0 ≤ n) then
    ((s.setPhase 6 true).mapConst (fun c => { c with p6count := n, belowAt := none })).sendState
  else s

/-- The numbers that devices keep: of two that hold the same number, the lower UID keeps it (R440). -/
def keepNumbers (held : List (Nat × Nat)) : List (Nat × Nat) :=
  (held.mergeSort (fun a b => decide (a.1 ≤ b.1))).foldl (fun h x => if h.any (fun y => decide (y.2 = x.2)) then h else h ++ [x]) []

/-- A device that reports P4 and is in no tree that this device knows holds a number of its own part's, which the outside gives: a
free value (R440; log entry 143). -/
def State.meet (s : State) (devs : List RepDev) : State :=
  devs.foldl (fun s r =>
    if bitOf r.phase 4 && !s.const.known.any (fun x => decide (x.1 = r.uid)) then
      let (f, s) := s.freeNat
      s.mapConst (fun c => { c with known := c.known ++ [(r.uid, f % 512)] })
    else s) s

/-- The tree as it is now known; the numbers of its devices are remembered. -/
def ConstSide.learn (c : ConstSide) (t : List TreeDev) : ConstSide :=
  { c with tree := t, known := c.known.filter (fun x => !t.any (fun d => decide (d.uid = x.1))) ++
      t.map (fun d => (d.uid, d.num)) }

/-- The devices on the way from one to another. -/
def treePath (t : List TreeDev) (a b : Nat) : List Nat :=
  let la := ancestors t 64 a
  let lb := ancestors t 64 b
  la.takeWhile (fun x => !lb.contains x) ++ lb.takeWhile (fun x => !la.contains x)

/-- The tree has been `old`: streams whose way has changed go on with their credits restored (R437, R441). -/
def State.newPaths (s : State) (old : List TreeDev) : State :=
  (List.range 8).foldl (fun s k =>
    let dev := s.fldI CONST_XSTR_DEV 0 k
    if s.fldI CONST_XSTR_EN 0 k = 1 ∧ old ≠ [] ∧ treePath old s.devNum dev ≠ treePath s.const.tree s.devNum dev then
      s.setFldI CONST_XSTRS_CREDITS 0 k (storeGet 0 s.const.credits k)
    else s) s

/-- A root that is at P4 claims with EST, so a device that joins later does not take its role (R424). -/
def State.established (s : State) : State :=
  if s.bit CONST_STATUS_ROOT 0 then s.take s.ownClaim none else s

/-- The root holds a REPORT from every child: it assigns numbers and floods the tree (R425, R427, R439). -/
def State.assignAll (s : State) : State :=
  let s := s.meet s.const.reports
  let devs := s.ownRep :: s.const.reports
  let old := s.const.tree
  let held := devs.filterMap (fun r => if bitOf r.phase 4 ∨ old.any (fun d => decide (d.uid = r.uid)) then
    s.const.known.find? (fun x => decide (x.1 = r.uid)) else none)
  let scratch := held.isEmpty
  let have0 := if scratch then grantPrefs devs else keepNumbers held
  let have1 := numberNew (!scratch) [s.ownRep] have0
  let have2 := numberLevels (!scratch) devs 64 [s.uid] have1
  let num (u : Nat) : Option Nat := (have2.find? (fun x => decide (x.1 = u))).map Prod.snd
  let tree := devs.filterMap (fun r => (num r.uid).bind (fun n => (num r.parent).map (fun p =>
    ({ uid := r.uid, num := n, parent := p } : TreeDev))))
  let lost := devs.filter (fun r => (num r.uid).isNone)
  let s := if lost.isEmpty then s
    else s.raise 0x0A06 constSrc ((lost.take 2).flatMap (fun r => two (BitVec.ofNat 64 r.uid)))
  let changed := decide (tree ≠ old)
  let s := s.mapConst (fun c => c.learn tree)
  let s := match num s.uid with
    | some n => s.numbered n
    | none => s
  let s := if changed then ((s.syncTopo).newPaths old).sendAssign tree else s
  let s := if changed && !old.isEmpty then s.reformed else s
  let s := (s.mapConst (fun c => { c with est := true })).established
  (if s.inPhase 5 then s else s.aligned).judgeReady

/-- Every child has reported: a root assigns, another device reports (R425). -/
def State.report (s : State) : State :=
  if !s.inPhase 3 then s
  else if (s.roleLinks 2).all (fun l => s.const.reported.contains l) then
    (if s.bit CONST_STATUS_ROOT 0 then s.assignAll else s.sendReport)
  else s

/-! ### Link states (R415, R417) -/

/-- A link stops being up: what the neighbour said is forgotten. -/
def State.linkForget (s : State) (l : Nat) : State :=
  let s := [LINK_STATUS_ROLE, LINK_STATUS_PEERNUM, LINK_STATUS_PEEROK, LINK_STATUS_PEERPRIO, LINK_STATUS_RATE10,
    LINK_STATUS_LONG].foldl (fun s f => s.setFld f l 0) s
  s.mapLink l (fun x => { x with
    ident := none, claim := none, rx := none, sent := [], delays := [], txSeq := 0, replay := [], rxSeq := 0, naked := none
    peerP5 := false, peerHold := false })

/-- Streams that leave by link `l` have their credits restored (R417, R437). -/
def State.streamsRestored (s : State) (l : Nat) : State :=
  (List.range 8).foldl (fun s k =>
    if s.fldI CONST_XSTR_EN 0 k = 1 ∧ s.linkTo (s.fldI CONST_XSTR_DEV 0 k) = some l then
      s.setFldI CONST_XSTRS_CREDITS 0 k (storeGet 0 s.const.credits k)
    else s) s

/-- What came by link `l` from below is forgotten. -/
def ConstSide.without (c : ConstSide) (l : Nat) : ConstSide :=
  { c with
    reports := c.reports.filter (fun r => decide (r.via ≠ l)), repComing := c.repComing.filter (fun r => decide (r.via ≠ l))
    reported := c.reported.filter (· ≠ l)
    bars := c.bars.map (fun b => (b.1, { b.2 with
      kids := b.2.kids.filter (· ≠ l), last := b.2.last.filter (fun x => decide (x.1 ≠ l)) })) }

/-- The neighbour on link `l` leaves the constellation (R417, R425, R438, R441), and `f` forgets what it said: a lost parent
brings AHOLD; a lost child leaves the subtree, which the root learns. -/
def State.neighbourLeft (s : State) (l : Nat) (f : State → State) : State :=
  let kid := decide (s.fld LINK_STATUS_ROLE l = 2)
  let s := if s.const.parent = some l then (s.enterHold 1).mapConst (fun c => { c with parent := none, windowAt := none }) else s
  let s := ((f s).mapConst (fun c => c.without l)).syncRoles
  if kid then s.report.barCheckAll else s

/-- Link `l`, which was up, leaves the constellation. -/
def State.linkLeft (s : State) (l : Nat) : State := s.neighbourLeft l (fun s => s.linkForget l)

/-- Training of a lane begins. -/
def State.train (s : State) (l : Nat) : State := s.setFld LINK_STATUS_STATE l 1

/-- Link `l`, which is up, goes down; the frames of its replay buffer are lost (R417). -/
def State.linkFalls (s : State) (l cause : Nat) : State :=
  let lost := (s.link l).replay.length
  let s := (s.streamsRestored l).setFld LINK_STATUS_STATE l 0
  let s := ((s.bump LINK_DOWNCNT_COUNT l).raise 0x0A01 (linkSrc l) [l, cause, lost]).linkRecord l 0x41 lost
  s.linkLeft l

/-- A lane that the part itself stops: cause 0. -/
def State.laneStops (s : State) (l : Nat) : State :=
  if s.linkUp l then s.linkFalls l 0 else s.setFld LINK_STATUS_STATE l 0

/-- A link goes down (R417): cause 1 block lock, 2 four TSYNCs missing, 3 eight replays failed. It retrains; the neighbours that
are left may now all be known (R423). -/
def State.linkDown (s : State) (l cause : Nat) : State :=
  if s.linkUp l then (((s.linkFalls l cause).train l).judgePhases).elect else s

/-- TRAINING_END (R415): with block lock the link is up and sends IDENT; without it the lane has failed. -/
def execTrainingEnd (l : Fin 8) (lock rate10 : Bool) (s : State) : Host.Outcome State Fault Refusal :=
  let l := l.val
  if s.fld LINK_STATUS_STATE l ≠ 1 then .next s
  else
    let fixed := s.fld LINK_CTRL_RATE l
    let ten := if fixed = 1 then false else if fixed = 2 then true else rate10
    if lock && !s.vserLost && !s.vserhLost then
      let s := (s.setFld LINK_STATUS_STATE l 2).setBit LINK_STATUS_RATE10 l ten
      let s := s.linkRecord l 0x40 (s.fld LINK_STATUS_PEERNUM l + 2 ^ 9 * b2n ten)
      .next (((s.sendIdent l).sendClaim l).syncRoles).judgePhases
    else
      let s := (s.setFld LINK_STATUS_STATE l 3).mapLink l (fun x => { x with failedAt := s.tickNo })
      .next (s.raise 0x0A02 (linkSrc l) [l, if fixed = 1 then 1 else 2]).judgePhases

/-- TRAINING_RETRY (R415): every 100 ms while EN is set. -/
def execTrainingRetry (l : Fin 8) (s : State) : Host.Outcome State Fault Refusal :=
  let l := l.val
  if decide (s.fld LINK_STATUS_STATE l = 3) && s.bit LINK_CTRL_EN l then
    .next ((s.reachTick ((s.link l).failedAt + 100 * 1250000)).train l)
  else .next s

/-- LINK_DOWN (R417). The frames lost are those of the replay buffer, so the row's own count of them is not used (log entry 119). -/
def execLinkDown (l : Fin 8) (cause : Fin 3) (_lost : Half) (s : State) : Host.Outcome State Fault Refusal :=
  .next (s.linkDown l.val (cause.val + 1))

/-- A write of a LINK register has landed (R415, R442); `was` is EN before. -/
def State.linkWrote (s : State) (l off v : Nat) (was : Bool) : State :=
  if off = 0 then
    let s := if bitOf v 0 then ((s.setFld LINK_ERR_CRCERR l 0).setFld LINK_ERR_REPLAY l 0).setFld LINK_DOWNCNT_COUNT l 0 else s
    let en := s.bit LINK_CTRL_EN l
    let s := if en && !was then s.train l
      else if !en && was then s.laneStops l
      else s
    s.judgePhases.elect
  else s

/-! ### Frames of the forming (R419) -/

/-- The device hears a hop-local frame of the forming on a link. -/
def State.hears (s : State) (l : Nat) : Bool := s.linkUp l

/-- IDENT (R423). A neighbour that shows no phase after P0 any more has left the constellation (R441; log entry 144). -/
def execIdent (l : Fin 8) (uid : BitVec 64) (prio : Byte) (pref : BitVec 16) (peerLink : Fin 8) (phase : Byte) (s : State) :
    Host.Outcome State Fault Refusal :=
  let l := l.val
  if !s.hears l then .next s
  else
    let was := (s.link l).ident
    let s := (s.frameIn l).mapLink l (fun x => { x with
      ident := some (Ident.mk uid.toNat prio.toNat pref.toNat peerLink.val phase.toNat) })
    let s := (((s.setBit LINK_STATUS_PEEROK l true).setFld LINK_STATUS_PEERPRIO l prio.toNat).setFld LINK_PEER_LO_LO l
      (uid.toNat % 2 ^ 32)).setFld LINK_PEER_HI_HI l (uid.toNat / 2 ^ 32)
    let s := match s.const.tree.find? (fun d => decide (d.uid = uid.toNat)) with
      | some d => s.setFld LINK_STATUS_PEERNUM l d.num
      | none => s
    let s := if was.any (fun i => decide (2 ≤ i.phase % 128)) && decide (phase.toNat % 128 < 2) then
      s.neighbourLeft l (fun s => s.mapLink l (fun x => { x with claim := none })) else s
    .next s.judgePhases.elect

/-- CLAIM (R424). -/
def execClaim (l : Fin 8) (uid : BitVec 64) (prio : Byte) (est : Bool) (hops : Fin 64) (parentLink : Byte) (s : State) :
    Host.Outcome State Fault Refusal :=
  let l := l.val
  if !s.hears l then .next s
  else
    let s := (s.frameIn l).mapLink l (fun x => { x with claim := some (Claim.mk uid.toNat prio.toNat est hops.val parentLink.toNat) })
    .next s.syncRoles.elect

/-- ROOT_ELECTED (R424, R440): 200 µs without a change, and training ended on every enabled link. -/
def execRootElected (s : State) : Host.Outcome State Fault Refusal :=
  match s.const.claim with
  | none => .next s
  | some c =>
    if !s.forming || !s.inPhase 2 || (List.range 8).any (fun l => s.bit LINK_CTRL_EN l && decide (s.fld LINK_STATUS_STATE l = 1))
        || (decide (c.uid ≠ s.uid) && s.const.parent.isNone) then .next s
    else
      let s := s.reachTick (s.const.claimAt + 200 * usTicks)
      let again := s.inPhase 4 && decide (c.uid = s.uid) && !s.bit CONST_STATUS_ROOT 0
      let s := s.setBit CONST_STATUS_ROOT 0 (decide (c.uid = s.uid))
      let s := if c.uid = s.uid then s.leaveHold 0 else s
      let s := if again then s.reformed else s
      .next ((s.setPhase 3 true).report)

/-- An entry of a REPORT, as it came by a link. -/
def repOf (l : Nat) (r : BitVec 64 × BitVec 64 × BitVec 16 × Byte) : RepDev where
  uid := r.1.toNat
  parent := r.2.1.toNat
  pref := r.2.2.1.toNat
  phase := r.2.2.2.toNat
  via := l

/-- The REPORTs by link `l` after a frame: one that begins with the neighbour's own entry begins its report anew, and one of fewer
than 10 entries ends it; then the report takes the place of the last one (R425; log entry 37). -/
def ConstSide.reportedBy (c : ConstSide) (l : Nat) (own : Option Nat) (new : List RepDev) : ConstSide :=
  let others := c.repComing.filter (fun r => decide (r.via ≠ l))
  let sofar := (if (new.head?).map (fun r => r.uid) = own then [] else c.repComing.filter (fun r => decide (r.via = l))) ++ new
  if new.length < 10 then
    { c with
      reports := c.reports.filter (fun r => decide (r.via ≠ l)) ++ sofar, repComing := others
      reported := if c.reported.contains l then c.reported else c.reported ++ [l] }
  else { c with repComing := others ++ sofar }

/-- REPORT (R425, R431). -/
def execReport (l : Fin 8) (entries : List (BitVec 64 × BitVec 64 × BitVec 16 × Byte)) (s : State) :
    Host.Outcome State Fault Refusal :=
  let l := l.val
  if 10 < entries.length then .fault (.malformed "REPORT")
  else if !s.hears l then .next s
  else if !s.childOn l then .next (s.frameIn l)
  else
    let s := (s.frameIn l).mapConst (fun c => c.reportedBy l ((s.link l).ident.map (fun i => i.uid)) (entries.map (repOf l)))
    .next (if entries.length < 10 then s.report else s)

/-- An ASSIGN frame: the tree is the flood's once it is whole, from the root's entry to a frame of fewer than 16 (R425, R439,
R440; log entry 115). -/
def ConstSide.assigned (c : ConstSide) (new : List TreeDev) : ConstSide :=
  let starts := new.head?.any (fun d => decide (d.num = d.parent))
  let coming := (if starts then [] else c.coming) ++ new
  let whole := decide (new.length < 16) && coming.head?.any (fun d => decide (d.num = d.parent))
  if whole then { (c.learn coming) with coming := [] } else { c with coming := coming }

/-- ASSIGN (R425, R439): the tree, with this device's number; it goes on to the children. -/
def execAssign (entries : List (BitVec 64 × Fin 512 × Fin 512)) (s : State) : Host.Outcome State Fault Refusal :=
  if 16 < entries.length then .fault (.malformed "ASSIGN")
  else if !s.inPhase 3 || s.const.parent.isNone then .next s.frameDown
  else
    let s := s.frameDown
    let new : List TreeDev := entries.map (fun e => { uid := e.1.toNat, num := e.2.1.val, parent := e.2.2.val })
    let old := s.const.tree
    let s := s.mapConst (fun c => c.assigned new)
    let tree := s.const.tree
    let s := match new.find? (fun d => decide (d.uid = s.uid)) with
      | some d => s.numbered d.num
      | none => s
    let s := if tree = old then s else (s.syncTopo).newPaths old
    let s := if tree ≠ old ∧ old ≠ [] then s.reformed else s
    .next (s.passDown 0x05 (new.flatMap (fun d => leBytes 8 d.uid ++ leBytes 2 d.num ++ leBytes 2 d.parent ++ leBytes 4 0)))

/-! ### Time exchange and alignment (R426 to R429) -/

/-- TSYNC_SEND (R426): a TSYNC leaves at `t`. -/
def execTsyncSend (l : Fin 8) (t : Stamp) (s : State) : Host.Outcome State Fault Refusal :=
  let l := l.val
  if !s.linkUp l then .next s
  else
    let x := s.link l
    let prev := match x.sent with
      | p :: _ => p.2
      | [] => 0
    let rx := (x.rx.map (fun r => (r.seq, r.time))).getD (0, 0)
    let flags := b2n (s.inPhase 5) + 2 * s.fld CONST_STATUS_AHOLD 0 + 4 * s.fld CONST_STATUS_ROOT 0
    let s := s.setLink l { x with tsSeq := (x.tsSeq + 1) % 256, sent := ((x.tsSeq, t) :: x.sent).take 8 }
    .next (s.sendHop l 0x06 (leBytes 1 x.tsSeq ++ leBytes 1 rx.1 ++ leBytes 1 flags ++
      leBytes 1 (s.fld CONST_STATUS_DEPTH 0) ++ leBytes 8 prev.toNat ++ leBytes 8 rx.2.toNat))

/-- The offset and the one-way delay of a round (R426), in steps; halves are rounded down (log entry 61). -/
def tsyncRound (t1 t2 t3 t4 : Stamp) (asym : Int) : Int × Int :=
  ((stampDiff t2 t1 + stampDiff t3 t4 - asym) / 2, (stampDiff t4 t1 - stampDiff t3 t2) / 2)

/-- A signed number, saturated to 32 bits. -/
def sat32 (x : Int) : Nat := word (max (-2147483648) (min 2147483647 x))

/-- A fitted or measured offset is applied as a step (R427, R428). -/
def State.alignStep (s : State) (d : Int) : State :=
  let v : Stamp := BitVec.ofInt 64 d
  ((s.applyStep v).raise 0x0A0A constSrc (two v)).linkRecord s.recLink 0x43 (word d)

/-- The bound of R429 for this device's depth, in steps of 25 ps. -/
def State.alignBound (s : State) : Int := ((60 + 15 * s.fld CONST_STATUS_DEPTH 0) / 25 : Nat)

/-- The offset to the parent has stayed within R429's bound for 1 ms: a device that left holdover is re-aligned (R48; log
entry 98). -/
def State.realigned (s : State) : State :=
  if s.bit CONST_STATUS_AHOLD 0 then s else { s with time := { s.time with holdRec := s.time.holdover } }

/-- From P5, the device follows its parent (R428), unless that is in AHOLD itself (R438); `was` is the offset before. AHOLD comes
where the offset has been beyond the bound for 1 ms without the slew making it smaller. -/
def State.follow (s : State) (l : Nat) (theta was : Int) : State :=
  if !s.inPhase 5 || s.bit CONST_STATUS_ROOT 0 || (s.link l).peerHold then s
  else
    let lim : Int := (40 * s.fld CONST_ALIGN_STEPLIM 0 : Nat)
    let inside := decide (-s.alignBound ≤ theta ∧ theta ≤ s.alignBound)
    let s := s.mapConst (fun c => { c with
      okSince := if inside then some (c.okSince.getD s.tickNo) else none
      badSince := if inside ∨ theta.natAbs < was.natAbs then none else some (c.badSince.getD s.tickNo) })
    let s := match s.const.badSince with
      | some t => if t + 1250000 ≤ s.tickNo then s.enterHold 3 else s
      | none => s
    let s := match s.const.okSince with
      | some t => if t + 1250000 ≤ s.tickNo then s.realigned else s
      | none => s
    if -lim ≤ theta ∧ theta ≤ lim then
      { s with time := { s.time with slewRem := theta, slewAcc := 0 } }
    else s.alignStep theta

/-- TSYNC (R426 to R428, R438): a frame with its stamps arrives at `t`. The frame before it, if it was the first with its RXSEQ,
is the one that the peer sent next: its RXLAST is t2, its arrival t4, and TXPREV of this one is its departure, t3. -/
def execTsync (l : Fin 8) (seq rxseq flags : Byte) (txprev rxlast t : Stamp) (s : State) :
    Host.Outcome State Fault Refusal :=
  let l := l.val
  if !s.linkUp l then .next s
  else
    let s := s.frameIn l
    let x := s.link l
    let before := x.rx
    let first := before.all (fun r => decide (r.rxseq ≠ rxseq.toNat))
    let s := s.setLink l { x with
      rx := some (TsyncRx.mk seq.toNat t rxseq.toNat rxlast first), peerP5 := bitOf flags.toNat 0, peerHold := bitOf flags.toNat 1 }
    let s := if s.const.parent = some l ∧ bitOf flags.toNat 1 ∧ !s.bit CONST_STATUS_ROOT 0 then
      (s.enterHold 2).mapConst (fun c => { c with okSince := none }) else s
    let s := if s.const.parent = some l ∧ s.inPhase 4 ∧ !s.inPhase 5 ∧ bitOf flags.toNat 0 ∧ s.const.windowAt.isNone then
      s.mapConst (fun c => { c with windowAt := some s.tickNo }) else s
    match before, before.bind (fun r => x.sent.find? (fun p => decide (p.1 = r.rxseq))) with
    | some r, some (_, t1) =>
      if (r.seq + 1) % 256 ≠ seq.toNat ∨ !r.first then .next s
      else
        let (theta, delay) := tsyncRound t1 r.rxlast txprev r.time (signedOf 16 (s.fld LINK_ASYM_STEPS l))
        let last := signedOf 32 (s.fld LINK_OFFSET_STEPS l)
        let ds := (delay :: x.delays).take 64
        let avg := ds.foldl (· + ·) 0 / (ds.length : Int)
        let s := s.mapLink l (fun y => { y with delays := ds })
        let s := (s.setFld LINK_OFFSET_STEPS l (sat32 theta)).setFld LINK_DELAY_STEPS l (min 65535 avg.toNat)
        let was := s.bit LINK_STATUS_LONG l
        let s := s.setBit LINK_STATUS_LONG l (decide (480 < avg))
        let s := if decide (480 < avg) && !was then s.raise 0x0A07 (linkSrc l) [l, avg.toNat] else s
        .next (if s.const.parent = some l then s.follow l theta last else s)
    | _, _ => .next s

/-- ALIGNMENT_WINDOW_END (R427): after 8 ms the device steps by the offset that the fit has given, and reaches P5. -/
def execAlignmentWindowEnd (fit : Stamp) (s : State) : Host.Outcome State Fault Refusal :=
  match s.const.windowAt with
  | none => .next s
  | some t0 =>
    if s.inPhase 5 then .next s
    else
      let s := s.reachTick (t0 + 8 * 1250000)
      let s := s.alignStep fit.toInt
      let s := (s.mapConst (fun c => { c with windowAt := none })).aligned
      .next s.report

/-- AHOLD_CLEAR (R438): 1 ms within the bound, below a parent that is not in AHOLD. -/
def execAholdClear (s : State) : Host.Outcome State Fault Refusal :=
  match s.const.okSince, s.const.parent with
  | some t, some l =>
    if s.bit CONST_STATUS_AHOLD 0 && !(s.link l).peerHold then
      let s := s.reachTick (max t s.const.holdAt + 1250000)
      .next (s.leaveHold (s.fld LINK_OFFSET_STEPS l))
    else .next s
  | _, _ => .next s

/-! ### P6 (R431) -/

/-- STATE with the departure of the device that SRC names (R441; log entry 144): it goes on along the tree, and the device is in
it no more. -/
def State.departed (s : State) (payload : List Byte) : State :=
  let x := s.const.head
  let via := s.linkTo x.src
  let s := s.frameFrom x.src
  let s := if 63 ≤ x.hops then s
    else ((s.roleLinks 1 ++ s.roleLinks 2).filter (fun l => decide (some l ≠ via))).foldl (fun s l =>
      s.putFrame l 0x0C 1 0 x.src (x.hops + 1) payload) s
  if x.src = s.devNum then s
  else (s.mapConst (fun c => { c with tree := c.tree.filter (fun d => decide (d.num ≠ x.src)) })).syncTopo

/-- STATE (R431, R441): the root's goes on to the children; P6 comes with it, or the device count is noted. -/
def execState (phase : Byte) (count : BitVec 16) (diam depth : Byte) (s : State) : Host.Outcome State Fault Refusal :=
  let payload := stateFrame phase.toNat count.toNat diam.toNat depth.toNat
  if !s.inPhase 4 then .next s.frameDown
  else if !bitOf phase.toNat 4 then .next (s.departed payload)
  else if s.bit CONST_STATUS_ROOT 0 then .next s
  else
    let s := s.frameDown
    let n := count.toNat
    let low := decide (n < s.const.p6count) || decide (n < s.fld CONST_EXPECT_COUNT 0)
    let s := (s.setFld CONST_TOPO_COUNT 0 n).setFld CONST_TOPO_DIAM 0 diam.toNat
    let s := if s.inPhase 6 then
        s.mapConst (fun c => { c with belowAt := if low then some (c.belowAt.getD s.tickNo) else none })
      else if bitOf phase.toNat 6 && s.inPhase 5 then
        (s.setPhase 6 true).mapConst (fun c => { c with p6count := n, belowAt := none })
      else s
    .next (s.passDown 0x0C payload)

/-- P6_LOSS (R431): the device count has stayed too low for 200 µs. The root judges P6 anew. -/
def execP6Loss (s : State) : Host.Outcome State Fault Refusal :=
  match s.const.belowAt with
  | none => .next s
  | some t =>
    if !s.inPhase 6 then .next s
    else
      let s := s.reachTick (t + 200 * usTicks)
      let s := ((s.setPhase 6 false).barEnd none true).mapConst (fun c => { c with belowAt := none })
      let s := s.raise 0x0A0D constSrc [s.fld CONST_TOPO_COUNT 0, s.fld CONST_EXPECT_COUNT 0]
      .next (if s.bit CONST_STATUS_ROOT 0 then s.judgeReady else s)

/-! ### Re-forming (R439, R440) -/

/-- The links that may become the parent link: up, NOTREE clear, the neighbour in the tree, outside the subtree, and less than 63
hops from the root (R421, R439). -/
def State.newParents (s : State) : List (Nat × Nat × Nat) :=
  (List.range 8).filterMap (fun l =>
    if s.linkUp l && !s.bit LINK_CTRL_NOTREE l then
      ((s.link l).ident.bind (fun i => s.const.tree.find? (fun d => decide (d.uid = i.uid)))).bind (fun d =>
        let up := ancestors s.const.tree 64 d.num
        if up.contains s.devNum || decide (64 ≤ up.length) then none else some (up.length - 1, d.num, l))
    else none)

/-- REATTACH (R439, R440): a device without its parent attaches to a new one, or claims for itself. -/
def execReattach (s : State) : Host.Outcome State Fault Refusal :=
  if s.const.parent.isSome || s.bit CONST_STATUS_ROOT 0 || !s.forming || !s.inPhase 4 then .next s
  else
    let first (a b : Nat × Nat × Nat) : Bool :=
      decide (a.1 < b.1) || (decide (a.1 = b.1) && (decide (a.2.1 < b.2.1) ||
        (decide (a.2.1 = b.2.1) && decide (a.2.2 < b.2.2))))
    match bestOf first s.newParents with
    | some (h, n, l) =>
      let c := s.const.claim.getD s.ownClaim
      let s := s.take { c with hops := h + 1, parent := l } (some l)
      let s := s.mapConst (fun x => { x with reported := s.roleLinks 2 })
      .next (s.linkRecord l 0x42 (n + 2 ^ 16 * (h + 1))).report
    | none =>
      let s := s.mapConst (fun x => { x with est := true })
      .next (s.take s.ownClaim none).elect

/-! ### CONST registers (R422, R441, R443) -/

/-- CONST.CTRL.EN is cleared (R422, R441): the device tells its departure and stands alone; its time runs on. -/
def State.depart (s : State) : State :=
  let s := if s.inPhase 4 then s.mapConst (fun c => { c with est := true }) else s
  let s := ([2, 3, 4, 5, 6, 1].foldl (fun s k => s.setPhase k false) s).sendState
  let s := s.barEnd none true
  let s := [CONST_STATUS_DEPTH, CONST_STATUS_ROOT, CONST_STATUS_AHOLD, CONST_ID_VALID, CONST_ID_NUM, CONST_ROOT_LO_LO,
    CONST_ROOT_HI_HI, CONST_TOPO_COUNT, CONST_TOPO_DEPTHMAX, CONST_TOPO_DIAM].foldl (fun s f => s.setFld f 0 0) s
  let s := (s.mapConst (fun c => { c with
    claim := none, parent := none, tree := [], coming := [], reports := [], repComing := [], reported := [], windowAt := none,
      okSince := none
    badSince := none, belowAt := none, p6count := 0 })).syncRoles
  { s with time := { s.time with holdRec := s.time.holdover } }

end Sys2Proof.Machine
end

