-- ==== Sys2Proof/Machine/Remote.lean ====
section
/-! DEFINITION. Items that cross devices (R236, R239 to R243, R305, R433 to R437), replays, forwarding and unknown frames
(R418 to R420), and what a write of a CONST register does. -/

namespace Sys2Proof.Machine

open Sys2Proof.F

/-! ### Refusals and notes (R435) -/

/-- Tell the issuing device of a refusal. -/
def State.sendNote (s : State) (dev what reason zc tag : Nat) : State :=
  s.sendTo dev 0x0B (leBytes 1 what ++ leBytes 1 reason ++ leBytes 2 zc ++ leBytes 2 tag ++ leBytes 2 0)

/-- What was refused, as a detail word: the kind, and the channel, sequencer or zone (log entry 60). -/
def itemWord (what zc : Nat) : Nat := what + 65536 * zc

/-- Refuse a remote entry (`what` 0) or signal (1). -/
def State.refuseRemote (s : State) (dev what reason zc tag : Nat) : State :=
  (s.raise 0x0A0B constSrc [dev, itemWord what zc, reason]).sendNote dev what reason zc tag

/-- A sill of this device is open to remote entries (R434). -/
def State.remoteOpen (s : State) (n : Nat) : Bool :=
  if n < 1024 then bitOf (s.fld CONST_XPORT_MASK 0) (n / 32) else s.bit CONST_CTRL_XCHAS 0

/-- REMOTE_ENTRY (R434, R435): a device judges an entry that another one has sent. -/
def execRemoteEntry (l : Fin 8) (src : Fin 512) (e : LaunchItem) (s : State) : Host.Outcome State Fault Refusal :=
  let zc := e.target.toNat
  let tag := e.tag.toNat
  let ag := agent 4 l.val
  let s := s.frameIn l.val
  if !s.inPhase 5 then .next (s.refuseRemote src.val 0 1 zc tag)
  else
    match sillOf e.target with
    | none => .next ((s.refuseTarget e.target ag tag).refuseRemote src.val 0 4 zc tag)
    | some n =>
      let x : QEntry := { itemToEntry e ag with remote := true, dev := src.val }
      if !s.remoteOpen n then .next (s.refuseRemote src.val 0 2 zc tag)
      else
        match s.refuseAction n x with
        | some s => .next (s.refuseRemote src.val 0 4 zc tag)
        | none =>
          if !s.sillRuns n then .next ((s.notRunning n x).refuseRemote src.val 0 4 zc tag)
          else .next (s.arrive n (laneLink l.val) x)

/-- REMOTE_SIGNAL (R434, R435). -/
def execRemoteSignal (src : Fin 512) (tgt : Fin 33) (bit : Fin 32) (s : State) : Host.Outcome State Fault Refusal :=
  let s := s.frameFrom src.val
  if !s.inPhase 5 then .next (s.refuseRemote src.val 1 1 tgt.val 0)
  else if tgt.val < 32 ∧ bitOf (s.fld CONST_XSIG_MASK 0) tgt.val = false then .next (s.refuseRemote src.val 1 3 tgt.val 0)
  else .next (s.signalIn tgt.val bit.val)

/-- REMOTE_SWAP_SET (R305): R303's judgement, and XSWAP of every zone; a refusal names the first failing zone. -/
def execRemoteSwapSet (src : Fin 512) (mask : BitVec 64) (t : Stamp) (s : State) : Host.Outcome State Fault Refusal :=
  let m := mask.toNat
  let s := s.frameFrom src.val
  let closed := firstZone m (fun k => if s.bit ZONE_SWCTL_XSWAP k then none else some 5)
  let refused :=
    match s.swapRefused m t (s.inPhase 5), closed with
    | some (k, r), some (j, c) => if k ≤ j then some (k, r) else some (j, c)
    | some x, none => some x
    | none, c => c
  match refused with
  | some (k, r) => .next ((s.raise 0x0412 (srcOf 10 k) [src.val, k, r]).sendNote src.val 2 r k 0)
  | none => if m = 0 then .next s else .next (s.stageSwap m t (s.devNum + 64))

/-- REFUSAL_NOTE (R435, R305): the issuing device learns of a refusal. -/
def execRefusalNote (src : Fin 512) (what : Fin 3) (reason : Byte) (zc tag : Half) (s : State) :
    Host.Outcome State Fault Refusal :=
  let s := s.frameFrom src.val
  if what.val = 2 then .next (s.raise 0x0413 (srcOf 10 (zc.toNat % 64)) [src.val, zc.toNat, reason.toNat])
  else .next (s.raise 0x0A0C constSrc [src.val, itemWord what.val zc.toNat, tag.toNat, reason.toNat])

/-! ### Instructions across the constellation (R236, R239 to R243) -/

/-- The 16 bytes of a launch entry (R105). -/
def entryBytes (e : LaunchItem) : List Byte :=
  leBytes 8 e.time.toNat ++ leBytes 2 e.target.toNat ++ leBytes 2 e.action.toNat ++ leBytes 2 e.width.toNat ++
    leBytes 2 e.tag.toNat

/-- XLAUNCH (R239, R240): to the own device it is a LAUNCH. -/
def execXlaunch (q : Fin 33) (ta : Fin 8) (action : Fin 8) (chassis : Bool) (gc gv : Fin 32) (s : State) :
    Host.Outcome State Fault Refusal :=
  let x := s.seq q.val
  let ch := (x.greg gc.val).toNat % 2 ^ 19
  let e := x.entryOf ta action.val chassis gc gv
  if action = 3 ∧ (x.widthOf gv).toNat < 2 then
    .next (s.issue q.val 4 (fun s => (s.raise 0x070F (seqSrc q.val) [q.val, ch, (x.tagOf gv).toNat]).advance q.val 4))
  else if ch / 1024 = s.devNum then .next (s.issuePost q.val 4 [.entry e])
  else .next (s.issueSelf q.val 4 (.remote (ch / 1024) (leBytes 1 0 ++ leBytes 3 0 ++ entryBytes e)))

/-- XSIG (R239, R241): to the own device it is a SIG. -/
def execXsig (q : Fin 33) (gc : Fin 32) (tgt : Fin 33) (bit : Fin 32) (s : State) : Host.Outcome State Fault Refusal :=
  let dev := ((s.seq q.val).greg gc.val).toNat % 512
  if dev = s.devNum then .next (s.issuePost q.val 4 [.signal tgt.val bit.val])
  else .next (s.issueSelf q.val 4 (.remote dev (leBytes 1 1 ++ leBytes 3 0 ++ leBytes 1 tgt.val ++ leBytes 1 bit.val)))

/-- ZSWAP (R236, R305): with x set the set goes to every device. The ownership of its zones is judged as it arrives (R245). -/
def execZswap (q : Fin 33) (ta : Fin 8) (x : Bool) (gh gl : Fin 32) (s : State) : Host.Outcome State Fault Refusal :=
  let sq := s.seq q.val
  let m := (sq.greg gh.val).toNat * 2 ^ 32 + (sq.greg gl.val).toNat
  let t := sq.treg ta.val
  .next (s.issuePost q.val 4 [.zswap m t x])

/-- Hops to a device: 0 for the own one; none where R243 reads UNKNOWN. -/
def State.hopsTo (s : State) (dev : Nat) : Option Nat :=
  if dev = s.devNum then some 0 else if s.inTree then treeHops s.const.tree s.devNum dev else none

/-- XTIME (R243): which tick boundary of the last 2 ticks is read is a free value. -/
def execXtime (q : Fin 33) (td : Fin 8) (gs gd : Fin 32) (s : State) : Host.Outcome State Fault Refusal :=
  .next (s.issue q.val 4 (fun s =>
    let (f, s) := s.freeNat
    let c := s.nowAgo (f % 3)
    let h := s.hopsTo (((s.seq q.val).greg gs.val).toNat % 512)
    let t := match h with
      | some h => c + ticks (84 + 60 * h)
      | none => c
    let w := h.getD 0 + 2 ^ 8 * b2n (s.inPhase 5) + 2 ^ 9 * b2n s.holdFlag + 2 ^ 10 * b2n h.isNone
    (s.mapSeq q.val (fun x =>
      { ((x.setT td.val t).setG gd.val (BitVec.ofNat 32 w)) with flags := { x.flags with z := h.isNone } })).advance q.val 4))

/-! ### Link streams (R437) -/

/-- Take items from a ring; the errors of their words count and are reported (R328). -/
def State.takeItems (s : State) (ag r : Nat) : Nat → List (BitVec 128) × State
  | 0 => ([], s)
  | n + 1 =>
    let (x, s) := (s.eccRead ag (s.ringAddr r (s.fld RING_RPTR_OFF r)) 16).ringTake ag r
    let (t, s) := takeItems s ag r n
    (x :: t, s)

/-- STREAM_SEND (R437): `n + 1` items leave the source ring in one DATA frame, against as many credits. -/
def execStreamSend (k : Fin 8) (n : Fin 8) (ecc : Ecc) (s : State) : Host.Outcome State Fault Refusal :=
  let k := k.val
  let n := n.val + 1
  let r := s.fldI CONST_XSTRS_SRING 0 k
  let dev := s.fldI CONST_XSTR_DEV 0 k
  let cr := s.fldI CONST_XSTRS_CREDITS 0 k
  let ag := agent 4 k
  if s.fldI CONST_XSTR_EN 0 k ≠ 1 || !s.ready 4 || !s.ringEn r || !s.mayConsume ag r || decide (s.ringFill r < n) ||
      decide (cr < n) || !(List.range n).all (fun i => s.readOpen r i) || (s.linkTo dev).isNone then .next s
  else
    let a := s.ringAddr r (s.fld RING_RPTR_OFF r)
    let (items, s) := s.takeItems ag r n
    let s := (s.eccSeen ecc ag a).setFldI CONST_XSTRS_CREDITS 0 k (cr - n)
    .next (s.sendTo dev 0x09 (leBytes 1 k ++ leBytes 2 (s.fldI CONST_XSTR_DRING 0 k) ++ leBytes 1 n ++
      items.flatMap itemBytes))

/-- NAK: the frame that should come next is to be replayed, and those after it (R420). -/
def State.askAgain (s : State) (l : Nat) : State := s.sendHop l 0x0D (leBytes 1 (s.link l).rxSeq ++ leBytes 3 0)

/-- A frame that came with a bad CRC or after a gap is discarded, and NAK asks for the replay; a poisoned one is discarded (R420).
Else `f` takes the frame. `cut` is what the frame has already left behind where it was being forwarded. -/
def State.sealed (s : State) (l : Nat) (cut : State → State) (f : State → Host.Outcome State Fault Refusal) :
    Host.Outcome State Fault Refusal :=
  let u := s.mapLink l (fun x => { x with coming := .good })
  if !s.linkUp l then .next u
  else
    match (s.link l).coming with
    | .good => f (s.frameIn l)
    | .badCrc => .next (((cut u).bump LINK_ERR_CRCERR l).askAgain l)
    | .gap => .next (u.askAgain l)
    | .poisoned => .next ((cut u).frameIn l)

/-- How the next frame of a link comes in, and how many of the frames kept for replay the neighbour acknowledges, the oldest
first: the outside's, by `f` (log entry 119). -/
def LinkSide.moves (x : LinkSide) (f : Nat) : LinkSide :=
  let kept := x.replay.drop (f / 4 % (x.replay.length + 1))
  { x with
    coming := if f % 4 = 0 then .good else if f % 4 = 1 then .badCrc else if f % 4 = 2 then .gap else .poisoned
    replay := kept
    naked := x.naked.filter (fun n => kept.any (fun k => decide (k.1 = n.1))) }

/-- A tick passes on the lines: what comes next on each link that is up, and the SRC and HOPS of the broadcast that comes next,
are free values (log entry 119). -/
def State.linesMove (s : State) : State :=
  let s := (List.range 8).foldl (fun s l =>
    if s.linkUp l then
      let (f, s) := s.freeNat
      s.mapLink l (fun x => x.moves f)
    else s) s
  let (f, s) := s.freeNat
  s.mapConst (fun c => { c with head := { src := f % 512, hops := f / 512 % 64 } })

/-- A tick passes: a word of the Caldera or a unit of the flash may come to hold an error (R328, R388), a free value (log entry
135). -/
def State.cellsDecay (s : State) : State :=
  let f := (Config.freeWord s.free).toNat
  let g := (Config.freeWord (s.free + 1)).toNat
  { s with
    free := s.free + 2
    flaws := if f % 4 = 0 then s.flaws
      else if f % 4 = 1 then s.flaws ++ [{ flash := false, addr := 16 * (g % 0x300000), bad := decide (f / 4 % 2 = 1) }]
      else s.flaws ++ [{ flash := true, addr := 8 * (g % 2 ^ 22), bad := decide (f / 4 % 2 = 1) }] }

/-- DATA (R437, R331, R334): items reach their ring, which must have room for them; its credits
are owed to the source. -/
def execData (l : Fin 8) (src : Fin 512) (stream : Fin 8) (ring : Fin 1024) (items : List (BitVec 128)) (s : State) :
    Host.Outcome State Fault Refusal :=
  let r := ring.val
  let ag := agent 4 l.val
  if items.isEmpty ∨ 8 < items.length then .fault (.malformed "DATA")
  else s.sealed l.val id fun s =>
  if !s.ready 4 then .next s
  else if s.ringEn r && s.mayProduce ag r && decide (s.ringRoom r < items.length) then .next (s.ringWaitStart ag r)
  else if s.ringEn r && s.mayProduce ag r &&
    !(List.range items.length).all (fun i => s.wordOpen (s.ringAddr r (s.fld RING_WPTR_OFF r + i))) then
    .next s
  else
    let s := items.foldl (fun s x => (s.ringOffer ag r x).1) s
    let s := s.mapConst (fun c => { c with owed := c.owed ++ [Owed.mk src.val stream.val r items.length] })
    .next (s.creditReturn r)

/-- CREDIT (R437): at most 64 credits. -/
def execCredit (stream : Fin 8) (n : Half) (s : State) : Host.Outcome State Fault Refusal :=
  let s := s.frameFrom (s.fldI CONST_XSTR_DEV 0 stream.val)
  .next (s.setFldI CONST_XSTRS_CREDITS 0 stream.val (min 64 (s.fldI CONST_XSTRS_CREDITS 0 stream.val + n.toNat)))

/-! ### Replays, forwarding, unknown frames (R418 to R420) -/

/-- NAK (R420): the frames from the named one on leave again. A NAK that names the same frame again says that its replay has
failed; after 8 failed replays the link goes down (R417). -/
def execNak (l : Fin 8) (lseq : Byte) (s : State) : Host.Outcome State Fault Refusal :=
  let l := l.val
  s.sealed l id fun s =>
  let again := (s.link l).replay.dropWhile (fun f => decide (f.1 ≠ lseq.toNat))
  let failed := match (s.link l).naked with
    | some (q, n) => if q = lseq.toNat then n else 0
    | none => 0
  if again.isEmpty then .next s
  else if 8 ≤ failed then .next (s.linkDown l 3)
  else
    let s := s.mapLink l (fun x => { x with naked := some (lseq.toNat, failed + 1) })
    let s : State := { s with out := s.out ++ again.map (fun f => Out.frame l f.2.1 f.2.2) }
    .next ((s.bump LINK_ERR_REPLAY l).raiseFirst 0x0A03 (linkSrc l) [l])

/-- A frame of unknown TYPE: discarded, counted, and reported once (R419). -/
def State.unknownFrame (s : State) (l type : Nat) : State := (s.bump LINK_ERR_CRCERR l).raiseFirst 0x0A0E (linkSrc l) [l, type]

/-- TYPE is one of R419's. -/
def knownType (type : Nat) : Bool := decide (2 ≤ type) && decide (type ≤ 14)

/-- The links by which a frame that came by link `l` is forwarded (R418): none for one that is for the neighbour only, or whose
HOPS would exceed 63. -/
def State.onward (s : State) (l fl dst hops : Nat) : List Nat :=
  if bitOf fl 2 || decide (63 ≤ hops) then []
  else if bitOf fl 0 then (s.roleLinks 1 ++ s.roleLinks 2).filter (fun o => decide (o ≠ l))
  else if bitOf fl 1 then s.const.parent.toList
  else (s.linkTo dst).toList

/-- A frame that was being forwarded ends with a poisoned terminate block (R420). -/
def State.poison (s : State) (type : Nat) (links : List Nat) : State :=
  links.foldl (fun s o =>
    { (s.mapLink o (fun x => { x with txSeq := (x.txSeq + 1) % 256 })) with out := s.out ++ [.poison o type] }) s

/-- FRAME_FORWARD (R418 to R420): along the tree, cut-through; an unknown TYPE is discarded. `flags` is BCAST, UP, HOPLOCAL
from bit 0 on. -/
def execFrameForward (l : Fin 8) (type : Byte) (flags : Fin 8) (dst src : Fin 512) (hops : Fin 64) (payload : List Byte)
    (s : State) : Host.Outcome State Fault Refusal :=
  let fl := flags.val
  let links := if knownType type.toNat then s.onward l.val fl dst.val hops.val else []
  if 256 < payload.length then .fault (.malformed "FRAME_FORWARD")
  else s.sealed l.val (fun s => s.poison type.toNat links) fun s =>
  if !knownType type.toNat then .next (s.unknownFrame l.val type.toNat)
  else .next (links.foldl (fun s o => s.putFrame o type.toNat fl dst.val src.val (hops.val + 1) payload) s)

/-- UNKNOWN_FRAME_TYPE (R419): discarded, counted, and reported once. -/
def execUnknownFrameType (l : Fin 8) (type : Byte) (s : State) : Host.Outcome State Fault Refusal :=
  if knownType type.toNat then .next s
  else .next ((s.frameIn l.val).unknownFrame l.val type.toNat)

/-! ### CONST registers -/

/-- A link stream starts (R437): with the credits that its destination grants, at most 64, a free value. -/
def State.streamStart (s : State) (k : Nat) : State :=
  let (f, s) := s.freeNat
  (s.mapConst (fun c => { c with credits := storeSet 0 c.credits k (f % 65) })).setFldI CONST_XSTRS_CREDITS 0 k (f % 65)

/-- A write of a CONST register has landed (R422, R436, R437, R443); `en` is its bit 31 before. -/
def State.constWrote (s : State) (off : Nat) (en : Bool) : State :=
  if off = 0 then
    let now := s.bit CONST_CTRL_EN 0
    if now && !en then s.judgePhases.elect
    else if !now && en then s.depart
    else s
  else if off = 0x0C then s.identAll
  else if off = 0x10 then s.identAll.elect
  else if off = 0x20 then if s.bit CONST_STATUS_ROOT 0 then s.judgeReady else s
  else if off = 0x28 then s.hopqShow
  else if 0x100 ≤ off ∧ off < 0x180 then s.barWrote ((off - 0x100) / 8) (en && decide (off % 8 = 0))
  else if 0x200 ≤ off ∧ off < 0x240 ∧ off % 8 = 0 then
    let k := (off - 0x200) / 8
    if !en && decide (s.fldI CONST_XSTR_EN 0 k = 1) then s.streamStart k else s
  else s

end Sys2Proof.Machine
end

