-- ==== Sys2Proof/Machine/Sessions.lean ====
section
/-! DEFINITION. Sessions (R467 to R473). -/

namespace Sys2Proof.Machine

open Sys2Proof.F

def hostSrc : Nat := srcOf 16 0

def State.mapHost (s : State) (f : HostSide → HostSide) : State := { s with hostSide := f s.hostSide }

/-- Ticks of a millisecond. -/
def msTicks : Nat := 1250000

/-- Ticks of a second. -/
def secTicks : Nat := 1250000000

/-- The session of a binding (R470). -/
def State.session (s : State) (t peer : Nat) : Option Nat :=
  (List.range 4).find? (fun k => decide (s.fldI HOST_SESS_OPEN 0 k = 1) && decide (s.fldI HOST_SESS_TRANSPORT 0 k = t) &&
    (decide (t ≠ 2) || decide (s.fldI HOST_SESS_PEER 0 k = peer)))

/-- The privileges of a binding (R468); 0 without a session. -/
def State.sessPriv (s : State) (t peer : Nat) : Nat :=
  match s.session t peer with
  | some k => s.fldI HOST_SESS_PRIV 0 k
  | none => 0

/-- The lowest privilege bit of `need` that `have` lacks. -/
def lacking (have_ need : Nat) : Option Nat := (List.range 6).find? (fun b => bitOf need b && !bitOf have_ b)

/-- Privilege masks (R468): a privilege other than OBSERVE implies OBSERVE (R454). -/
def pObserve : Nat := 1
def pOperate : Nat := 2
def pZones : Nat := 4
def pFlash : Nat := 8
def pProtect : Nat := 16
def pKeys : Nat := 32

/-- Close session `k` (R472). -/
def State.sessClose (s : State) (k : Nat) : State :=
  let s := [HOST_SESS_OPEN, HOST_SESS_TRANSPORT, HOST_SESS_SLOT, HOST_SESS_PEER, HOST_SESS_PRIV].foldl
    (fun s f => s.setFldI f 0 k 0) s
  s.mapHost (fun h => { h with sess := storeErase h.sess k })

/-- The transport of a binding is used: its session's idle time begins anew (R472). -/
def State.sessUse (s : State) (t peer : Nat) : State :=
  match s.session t peer with
  | some k => s.mapHost (fun h => { h with sess := storeSet {} h.sess k { storeGet {} h.sess k with used := s.tickNo } })
  | none => s

def bindKey (t peer : Nat) : Nat := if t = 2 then 2 + peer else t

/-! ### Key slots (R407, R468) -/

def State.slotKey (s : State) (k : Nat) : List Byte := (List.range 16).map (fun i => s.otpByte (0x40 + 32 * k + i))

def State.slotPriv (s : State) (k : Nat) : Nat := s.otpWord (0x50 + 32 * k) % 64

def State.slotUsable (s : State) (k : Nat) : Bool :=
  decide (k < 4) && (s.slotKey k).any (fun b => decide (b ≠ 0)) && !bitOf (s.otpWord (0x54 + 32 * k)) 0

def State.anySlot (s : State) : Bool := (List.range 4).any s.slotUsable

/-! ### Lockouts (R471) -/

/-- Milliseconds of lockout remaining on a transport. -/
def State.lockLeft (s : State) (t : Nat) : Nat :=
  let e := storeGet 0 s.hostSide.lockEnd t
  (e - s.tickNo + (msTicks - 1)) / msTicks

/-- A failed authentication (R471). -/
def State.authFailed (s : State) (t slot : Nat) : State :=
  let n := satAdd 8 (s.fldI HOST_LOCK_FAILS 0 t) 1
  let s := (s.setFldI HOST_LOCK_FAILS 0 t n).raise 0x0B04 hostSrc [t, slot]
  if n < 3 then s
  else
    let sec := 2 ^ min (n - 3) 6
    (s.mapHost (fun h => { h with lockEnd := storeSet 0 h.lockEnd t (s.tickNo + sec * secTicks) })).raise 0x0B05 hostSrc
      [t, 1000 * sec]

/-- The nonce outstanding on a binding, while it is valid (R467). -/
def State.nonce (s : State) (t peer : Nat) : Option (List Byte) :=
  match storeGet (0, 0) s.hostSide.nonces (bindKey t peer) with
  | (0, _) => none
  | (x, at_) => if s.tickNo ≤ at_ + secTicks then some (leBytes 16 (x - 1)) else none

/-- A fresh nonce from the hardware random source, a free value (R467). -/
def State.newNonce (s : State) (t peer : Nat) : List Byte × State :=
  let (a, s) := s.freeNat
  let (b, s) := s.freeNat
  let x := a + 2 ^ 64 * b
  (leBytes 16 x, s.mapHost (fun h => { h with nonces := storeSet (0, 0) h.nonces (bindKey t peer) (x + 1, s.tickNo) }))

/-- What SESSION_AUTH comes to (R467, R470, R471): STATUS and INFO. `p` is its 32 bytes. -/
def State.authenticate (s : State) (t peer : Nat) (p : List Byte) : State × Nat × Nat :=
  if 0 < s.lockLeft t then (s, 4, s.lockLeft t)
  else
    let n := s.nonce t peer
    let s := s.mapHost (fun h => { h with nonces := storeErase h.nonces (bindKey t peer) })
    let slot := pieceNum p 0 1
    let req := pieceNum p 4 4
    let open_ := !s.anySlot
    let ok := decide (pieceNum p 1 1 = t) && decide (pieceNum p 2 2 = (if t = 2 then peer else 0)) &&
      match n with
      | none => false
      | some n => open_ || (s.slotUsable slot && decide ((hmac256 (s.slotKey slot) (n ++ p.take 16)).take 16 = piece p 16 16))
    if !ok then
      let s := s.authFailed t slot
      (s, 6, s.fldI HOST_LOCK_FAILS 0 t)
    else
      let grant := if open_ then 63 else Nat.land req (s.slotPriv slot)
      if grant = 0 then (s, 1, req)
      else
        let old := s.session t peer
        let free := (List.range 4).find? (fun k => decide (s.fldI HOST_SESS_OPEN 0 k = 0))
        match (match old with
          | some k => some k
          | none => free) with
        | none => (s, 5, 0)
        | some k =>
          let s := (s.sessClose k).setFldI HOST_LOCK_FAILS 0 t 0
          let idle := pieceNum p 8 2
          let idle := if idle = 0 then 60 else min idle 3600
          let s := ((((s.setFldI HOST_SESS_OPEN 0 k 1).setFldI HOST_SESS_TRANSPORT 0 k t).setFldI HOST_SESS_SLOT 0 k
            slot).setFldI HOST_SESS_PEER 0 k peer).setFldI HOST_SESS_PRIV 0 k (Nat.lor grant 1)
          (s.mapHost (fun h => { h with sess := storeSet {} h.sess k { idle := idle, used := s.tickNo } }), 0, 0)

/-- IDLE_TIMEOUT (R472): session `k` has not been used for its idle time. -/
def execIdleTimeout (k : Fin 4) (s : State) : Host.Outcome State Fault Refusal :=
  if s.fldI HOST_SESS_OPEN 0 k.val = 0 then .next s
  else
    let x := storeGet {} s.hostSide.sess k.val
    let t := s.fldI HOST_SESS_TRANSPORT 0 k.val
    .next (((s.reachTick (x.used + x.idle * secTicks)).sessClose k.val).raise 0x0B06 hostSrc [k.val, t])

/-- LOCKOUT_END (R471): the lockout of a transport expires. -/
def execLockoutEnd (t : Fin 3) (s : State) : Host.Outcome State Fault Refusal :=
  match storeGet 0 s.hostSide.lockEnd t.val with
  | 0 => .next s
  | e => .next ((s.reachTick e).mapHost (fun h => { h with lockEnd := storeErase h.lockEnd t.val }))

end Sys2Proof.Machine
end

