-- ==== Sys2Proof/Machine/ConfigRead.lean ====
section
/-! DEFINITION. Reads of configuration space (R15, R20 to R22): a register's word, composed of its fields and of what the
state below determines, and what a read does. -/

namespace Sys2Proof.Machine

open Sys2Proof.F

/-- A register lies at an offset of a block (R20, R22). -/
def regExists (b : Blk) (off : Nat) : Bool := !(fieldsAt b off).isEmpty || (decide (b = .mt) && decide (0x1000 ≤ off))

/-- A register composed of its fields; in the staging view A-class fields read their staging copy (R21). -/
def State.fieldWord (s : State) (b : Blk) (n off : Nat) (staging : Bool) : Nat :=
  (fieldsAt b off).foldl (fun v fi =>
    if fi.1.acc = .wo then v
    else v + 2 ^ fi.1.lo * (if staging && decide (fi.1.cls = .a) then s.stagedI fi.1 n fi.2 else s.fldI fi.1 n fi.2)) 0

/-- TIME registers: STATUS, NOW, SLEW (R49), the loops, and TIME.FREQ. -/
def State.timeRead (s : State) (off : Nat) (staging : Bool) : Nat × State :=
  match off with
  | 0x04 => (s.timeStatus, s)
  | 0x10 => (s.now.toNat % 2 ^ 32, s.setTime { s.time with snap := s.now })
  | 0x14 => (s.time.snap.toNat / 2 ^ 32, s)
  | 0x18 => (wrapOf 32 s.time.slewRem, s)
  | 0x30 => (s.fieldWord .time 0 off staging + 2 ^ 7 * b2n s.time.loop0.locked + 2 ^ 6 * b2n s.time.loop0.frozen, s)
  | 0x34 => (s.fieldWord .time 0 off staging + 2 ^ 7 * b2n s.time.loop1.locked + 2 ^ 6 * b2n s.time.loop1.frozen, s)
  | 0x38 =>
    let (x, s) := s.freqShown
    (word x, s)
  | _ => (s.fieldWord .time 0 off staging, s)

/-- Tracker registers (R78, R103). -/
def State.mtRead (s : State) (n off : Nat) (staging : Bool) : Nat × State :=
  if 0x1000 ≤ off then (s.slotWord n ((off - 0x1000) / 16) (off % 16 / 4), s)
  else if off = 0x20 then (s.mtStatus n, s)
  else if off = 0x50 then (s.mtSlots n, s)
  else if off = 0x24 then
    let s := s.snapPos n
    (s.fld MT_POS_LO_PLO n, s)
  else (s.fieldWord .mt n off staging, s)

/-- Attention-line registers (R164, R175). -/
def State.atnRead (s : State) (n off : Nat) (staging : Bool) : Nat × State :=
  match off with
  | 0x14 => ((s.atn n).ts.toNat % 2 ^ 32, s.snapAtn n)
  | 0x18 => ((s.atn n).snap, s)
  | 0x1C => (2 ^ 16 * s.fld ATN_STAT_MISSED n + b2n (s.atnActive n), s)
  | _ => (s.fieldWord .atn n off staging, s)

/-- Sill registers (R143). -/
def State.sillRead (s : State) (n off : Nat) (staging : Bool) : Nat × State :=
  match off with
  | 0x0C => (s.sillStat n, s)
  | 0x18 => ((s.sill n).captTs.toNat % 2 ^ 32, s.snapCapt n)
  | 0x1C => ((s.sill n).captSnap, s)
  | 0x20 => ((s.sillNextTime n).toNat % 2 ^ 32, s.snapNext n)
  | 0x24 => ((s.sill n).nextSnapHi, s)
  | 0x28 => ((s.sill n).nextSnapTag, s)
  | _ => (s.fieldWord .sill n off staging, s)

/-- SE.STATUS (R384). -/
def State.seStatus (s : State) (e : Nat) : Nat :=
  let x := (s.engine e).iterate
  2 ^ 22 * x.cur.rrb + 2 ^ 21 * b2n x.cur.sr.pair + 2 ^ 20 * b2n x.onShadow + 2 ^ 18 * x.level + 2 ^ 15 * x.loops.length +
    2 ^ 11 * x.calls.length + s.seState e

/-- Engine registers (R384). -/
def State.seRead (s : State) (e off : Nat) (staging : Bool) : Nat × State :=
  match off with
  | 0x04 => (s.seStatus e, s)
  | 0x0C => ((s.engine e).iterate.pc % 4096, s)
  | 0x28 => (s.irqPend e, s)
  | _ => (s.fieldWord .se e off staging, s)

/-- Zone registers (R267, R319). -/
def State.zoneRead (s : State) (k off : Nat) (staging : Bool) : Nat × State :=
  match off with
  | 0x04 => (s.fieldWord .zone k off staging + 2 ^ 24 * b2n (s.iclkRuns k 1) + 2 ^ 23 * b2n (s.iclkRuns k 0), s)
  | 0x28 => ((s.swapTime k).toNat % 2 ^ 32, s.snapSwap k)
  | 0x2C => ((s.zone k).snap, s)
  | _ => (s.fieldWord .zone k off staging, s)

/-- SUP registers (R484, R493): the queue's depth and the owner queried. -/
def State.supRead (s : State) (off : Nat) (staging : Bool) : Nat × State :=
  match off with
  | 0x18 => (s.fieldWord .sup 0 off staging + 2 ^ 16 * s.errq.length, s)
  | 0x2C =>
    if s.bit SUP_OWNQ_VALID 0 then
      match cfgDecode (s.fld SUP_OWNQADDR_ADDR 0 % 2 ^ 31) with
      | some (b, n, _) => (2 ^ 31 + s.owner b n, s)
      | none => (32, s)
    else (s.fld SUP_OWNQ_OWNER 0, s)
  | _ => (s.fieldWord .sup 0 off staging, s)

/-- FLASH registers (R396, R410). -/
def State.flashRegRead (s : State) (off : Nat) (staging : Bool) : Nat × State :=
  if off = 0x14 then (s.fieldWord .flash 0 off staging + 2 ^ 12 * s.plevel, s)
  else if 0x60 ≤ off ∧ off < 0x80 then
    let w := s.bankWord ((off - 0x60) / 8)
    (if off % 8 = 0 then w % 2 ^ 32 else w / 2 ^ 32, s)
  else (s.fieldWord .flash 0 off staging, s)

/-- CHASSIS registers (R480). -/
def State.chassisRead (s : State) (off : Nat) (staging : Bool) : Nat × State :=
  match off with
  | 0x14 => (s.hostSide.syncTs.toNat % 2 ^ 32,
      { s with hostSide := { s.hostSide with syncSnap := s.hostSide.syncTs.toNat / 2 ^ 32 } })
  | 0x18 => (s.hostSide.syncSnap, s)
  | _ => (s.fieldWord .chassis 0 off staging, s)

/-- A register's word, and what its read does. -/
def State.regValue (s : State) (b : Blk) (n off : Nat) (staging : Bool) : Nat × State :=
  match b with
  | .time => s.timeRead off staging
  | .mt => s.mtRead n off staging
  | .atn => s.atnRead n off staging
  | .port =>
    let s := s.portSettle n
    if off = 0x18 then s.portIn n else (s.fieldWord .port n off staging, s)
  | .sill => s.sillRead n off staging
  | .seq =>
    if off = 0x04 then (s.seqStatus n, s)
    else if off = 0x0C then ((s.seq n).pc.toNat, s)
    else (s.fieldWord .seq n off staging, s)
  | .se => s.seRead n off staging
  | .zone => s.zoneRead n off staging
  | .ring => if off = 0x1C then (s.ringStat n, s) else (s.fieldWord .ring n off staging, s)
  | .flash => s.flashRegRead off staging
  | .host =>
    if 0x20 ≤ off ∧ off < 0x2C then
      (2 ^ 24 * s.fldI HOST_LOCK_FAILS 0 ((off - 0x20) / 4) + min 65535 (s.lockLeft ((off - 0x20) / 4)), s)
    else (s.fieldWord .host 0 off staging, s)
  | .chassis => s.chassisRead off staging
  | .sup => s.supRead off staging
  | .mpll | .caldera | .link | .const | .fp | .dma => (s.fieldWord b n off staging, s)

/-- A CFGR by sequencer `q` (R15, R21, R22); bit 31 selects the staging view. -/
def State.regRead (s : State) (q addr : Nat) : Nat × State :=
  match cfgDecode (addr % 2 ^ 31) with
  | none => (0, s.raise 0x0708 (seqSrc q) [q, addr])
  | some (b, n, off) =>
    if regExists b off then s.regValue b n off (bitOf addr 31)
    else (0, s.raise 0x0708 (seqSrc q) [q, addr])

end Sys2Proof.Machine
end

