-- ==== Sys2Proof/Machine/DataSpace.lean ====
section
/-! DEFINITION. Data space (R16 to R19): reads, and accesses of any length. -/

namespace Sys2Proof.Machine

open Sys2Proof.F

/-- A master outside the part, whose reads the protection level limits (R17, R409). -/
def Master.external : Master → Bool
  | .seq _ => false
  | _ => true

/-- The bytes of a slot of a pocket RAM: 36 bits in 8 bytes (R17). -/
def State.pocketByte (s : State) (k o : Nat) : Byte := byteOf (storeGet 0 (s.zone k).pocket (o / 8)) (o % 8)

/-- Read at most 16 bytes within one 16-byte word. -/
def State.spaceRead (s : State) (m : Master) (a n : Nat) : List Byte × State :=
  let zero := List.replicate n (0 : Byte)
  match placeOf a with
  | .caldera a => s.calderaRead m.agent a n
  | .seqI q o => (readBytes (s.seq q).imem o n, s)
  | .seqD q o => (readBytes (s.seq q).dmem o n, s)
  | .seI e o => (readBytes (s.engine e).imem o n, s)
  | .seD e o => (readBytes (s.engine e).dmem o n, s)
  | .pocket k o =>
    if !s.pocketOpen k then (zero, s.raise 0x0404 (srcOf 10 k) [k, m.agent, a])
    else if m.external && decide (1 ≤ s.plevel) then (zero, s)
    else ((List.range n).map (fun i => s.pocketByte k (o + i)), s)
  | .none => (zero, s.reservedSpace m a)

/-- Read `n` bytes from `a` on, 16-byte word by 16-byte word; `fuel` bounds the words. -/
def State.spaceReads (m : Master) : Nat → Nat → Nat → State → List Byte × State
  | 0, _, _, s => ([], s)
  | fuel + 1, a, n, s =>
    if n = 0 then ([], s)
    else
      let k := min n (16 - a % 16)
      let (bs, s) := s.spaceRead m a k
      let (rest, s) := State.spaceReads m fuel (a + k) (n - k) s
      (bs ++ rest, s)

/-- Write bytes from `a` on, 16-byte word by 16-byte word. -/
def State.spaceWrites (m : Master) : Nat → Nat → List Byte → State → State
  | 0, _, _, s => s
  | fuel + 1, a, bs, s =>
    if bs.isEmpty then s
    else
      let k := 16 - a % 16
      State.spaceWrites m fuel (a + k) (bs.drop k) (s.spaceWrite m a (bs.take k))

/-- Read any number of bytes; errors in words of the Caldera count and are reported (R328). -/
def State.spaceBytes (s : State) (m : Master) (a n : Nat) : List Byte × State :=
  State.spaceReads m (n / 16 + 2) a n (if a < calderaSize then s.eccRead m.agent a n else s)

/-- Write any number of bytes. -/
def State.spacePut (s : State) (m : Master) (a : Nat) (bs : List Byte) : State :=
  State.spaceWrites m (bs.length / 16 + 2) a bs s

end Sys2Proof.Machine
end

