-- ==== Sys2Proof/Machine/FlashQueue.lean ====
section
/-! DEFINITION. The flash controller's descriptor queue, busy banks and suspended erases, and the operations that the
supervisor carries out: R294, R389 to R397, R400, R406, R408, R410 to R412, R469. -/

namespace Sys2Proof.Machine

open Sys2Proof.F

/-! ### Descriptors (R390, R391) -/

def State.hostQ (s : State) : Bool := s.bit FLASH_QCFG_HOSTQ 0

/-- The master of the queue's accesses in data space: the sequencer that owns the instance, or the host (log entry 55). -/
def State.flashMaster (s : State) : Master := if s.hostQ then .command 1 else .seq (s.owner .flash 0)

/-- Entries of the queue. -/
def State.qsize (s : State) : Nat :=
  let n := s.fld FLASH_QCFG_QSIZE 0
  if n = 0 ∨ 64 < n then 64 else n

/-- Address of descriptor `i`. -/
def State.descAddr (s : State) (i : Nat) : Nat :=
  s.fld FLASH_QBASE_LO_LO 0 / 32 * 32 + 2 ^ 32 * (if s.hostQ then s.fld FLASH_QBASE_HI_HI 0 else 0) + 32 * (i % s.qsize)

/-- The descriptor that 32 bytes spell. -/
def descOf (i : Nat) (l : List Byte) : FlashDesc where
  idx := i
  op := pieceNum l 0 1
  flags := pieceNum l 1 1
  odd := decide (pieceNum l 2 2 ≠ 0)
  faddr := pieceNum l 4 4
  buf := pieceNum l 8 8
  len := pieceNum l 16 4
  arg := pieceNum l 20 4

/-- HBUF: the buffer lies in host memory. -/
def FlashDesc.hbuf (d : FlashDesc) : Bool := bitOf d.flags 2

/-- The byte offset of the first field that breaks a rule (R391, R392). -/
def FlashDesc.bad (d : FlashDesc) (host : Bool) : Option Nat :=
  let buf := decide (d.buf % 16 ≠ 0) || (!d.hbuf && decide (2 ^ 32 ≤ d.buf))
  let otp := bitOf d.faddr 31
  let checks : List (Bool × Nat) := match d.op with
    | 1 => [(decide (d.faddr % 16 ≠ 0) || (!otp && decide (2 ^ 25 ≤ d.faddr)), 4), (buf, 8),
        (decide (d.len % 16 ≠ 0) || decide (d.len < 16) || decide (65536 < d.len) ||
          (if otp then decide (2048 - d.faddr % 2048 < d.len)
           else decide (d.faddr / 2 ^ 23 ≠ (d.faddr + d.len - 1) / 2 ^ 23)), 16)]
    | 2 => [(decide (d.faddr % 512 ≠ 0) || decide (2 ^ 25 ≤ d.faddr), 4), (buf, 8),
        (decide (d.len % 512 ≠ 0) || decide (131072 < d.faddr % 131072 + d.len), 16)]
    | 3 => [(decide (d.faddr % 131072 ≠ 0) || decide (2 ^ 25 ≤ d.faddr), 4), (decide (d.len ≠ 0), 16)]
    | 4 | 5 => [(decide (d.faddr ≠ 0), 4), (decide (d.buf ≠ 0), 8), (decide (d.len ≠ 0), 16)]
    | 6 => [(!otp || decide (d.faddr % 4 ≠ 0), 4), (decide (d.len ≠ 0), 16)]
    | 7 | 8 => [(decide (d.faddr ≠ 0), 4), (decide (d.buf ≠ 0), 8), (decide (d.len ≠ 0), 16)]
    | _ => [(true, 0)]
  let all := (if d.op = 0 ∨ 8 < d.op then [(true, 0)] else []) ++
    [(decide (8 ≤ d.flags) || (d.hbuf && !host), 1), (d.odd, 2)] ++ checks
  (all.find? (fun c => c.1)).map Prod.snd

/-- Offset in the OTP row. -/
def FlashDesc.otpOff (d : FlashDesc) : Nat := d.faddr % 2048

def FlashDesc.block (d : FlashDesc) : Nat := d.faddr / 131072

def FlashDesc.bank (d : FlashDesc) : Nat := d.faddr / 2 ^ 23

/-- A programmable word of a key slot, and of user OTP (R407, R408). -/
def otpKeyWord (a : Nat) : Bool := decide (0x40 ≤ a) && decide (a < 0xC0) && decide ((a - 0x40) % 32 < 24)
def otpUserWord (a : Nat) : Bool := decide (0x400 ≤ a)

/-- The privilege bit that an operation needs (R469). -/
def FlashDesc.needs (d : FlashDesc) : Nat :=
  match d.op with
  | 1 => pObserve
  | 2 | 3 | 4 | 5 | 7 => pFlash
  | 6 => if otpKeyWord d.otpOff then pKeys else if otpUserWord d.otpOff then pFlash else 0
  | 8 => pProtect
  | _ => 0

/-- The status code and INFO with which a descriptor completes before it touches the array, if it does (R389, R392, R409, R469). -/
def State.descRefused (s : State) (d : FlashDesc) (host : Bool) (priv : Nat) : Option (Nat × Nat) :=
  match d.bad host with
  | some o => some (7, o)
  | none =>
    match lacking priv d.needs with
    | some b => some (6, 0x100 + b)
    | none =>
      let act := s.fld FLASH_STATUS_ACTBOOT 0
      let user := decide (195 ≤ d.block)
      match d.op with
      | 1 =>
        if bitOf d.faddr 31 then none
        else if !user && decide (1 ≤ s.plevel) then some (6, s.plevel)
        else none
      | 2 | 3 => if user || (decide (d.block < 16) && decide (d.block / 8 ≠ act)) then none else some (5, d.block)
      | _ => none

/-! ### Banks (R393, R396, R397) -/

/-- Set or clear bit `b` of a field. -/
def State.setFldBit (s : State) (f : Fld) (b : Nat) (x : Bool) : State :=
  s.setFld f 0 (if x then withBit (s.fld f 0) b else withoutBit (s.fld f 0) b)

/-- Change a bank; FLASH.STATUS shows it. -/
def State.setBank (s : State) (b : Nat) (k : FlashBank) : State :=
  let s := s.mapFlash (fun f => { f with banks := storeSet {} f.banks b k })
  (s.setFldBit FLASH_STATUS_BUSY b (decide (k.op ≠ 0))).setFldBit FLASH_STATUS_SUSP b k.held.isSome

/-- A bank can start a PROGRAM or ERASE of a block. -/
def FlashBank.takes (k : FlashBank) (op block : Nat) : Bool :=
  decide (k.op = 0) && (match k.held with
    | none => true
    | some h => decide (op = 2) && decide (h.block ≠ block))

/-! ### The supervisor's own work (R294, R393, R396, R412) -/

/-- Global block of an operation, and its bank. -/
def SupOp.block : SupOp → Nat
  | .erase b => b
  | .program p _ => p / 256
  | .copy p _ _ => p / 256

def SupOp.bank (o : SupOp) : Nat := o.block / 64

def SupOp.erases : SupOp → Bool
  | .erase _ => true
  | _ => false

/-- The data that an operation programs; a page of a copy is filled up with the pattern of erased bytes. -/
def State.supData (s : State) : SupOp → List Byte
  | .erase _ => []
  | .program _ d => d
  | .copy _ src n => imgBytes (s.calderaImage src) 0 n ++ List.replicate (512 - n) 0xFF

/-- The erase of global block `b` has an intent in the journal: that of the journal itself and of the selector blocks is carried
elsewhere (R398). -/
def intended (b : Nat) : Bool := decide (b < 192) || decide (194 < b)

/-- An operation of work `key` runs or is suspended in a bank. -/
def State.supRuns (s : State) (key : Nat) : Bool := (List.range 4).any (fun b =>
  let k := s.bank b
  (decide (k.op ≠ 0) && k.own && decide (k.idx = key)) || (match k.held with
    | some h => h.own && decide (h.idx = key)
    | none => false))

/-- An operation may start: its bank is free (R393), a journal record of its erase can be written, the work's erases come before
its pages, which are programmed one by one, and the journal is erased after everything else. -/
def State.supMay (s : State) (j : SupJob) (o : SupOp) : Bool :=
  (s.bank o.bank).takes (if o.erases then 3 else 2) (o.block % 64) && (match o with
    | .erase b => s.journalOpen && (decide (b ≠ 194) || (decide (j.todo.length = 1) && !s.supRuns j.key))
    | _ => !j.todo.any SupOp.erases && !s.supRuns j.key)

/-- An operation starts in its bank; an erase is journalled first. -/
def State.supStart (s : State) (j : SupJob) (o : SupOp) : State :=
  let s := s.mapFlash (fun f => { f with
    jobs := f.jobs.map (fun x => if x.key = j.key then { x with todo := x.todo.erase o } else x) })
  let s := if o.erases && intended o.block then s.eraseIntent o.block 1 else s
  let s := match o with
    | .copy _ src n => s.eccRead (agent 5 32) src n
    | _ => s
  let page := match o with
    | .erase _ => 0
    | .program p _ => p % 256
    | .copy p _ _ => p % 256
  s.setBank o.bank { s.bank o.bank with
    op := if o.erases then 3 else 2, block := o.block % 64, page := page, resumes := 0, idx := j.key, data := s.supData o,
      own := true }

/-- The next operation of the supervisor's in bank `b` that may start. -/
def State.supNext (s : State) (b : Nat) : Option (SupJob × SupOp) :=
  s.flash.jobs.findSome? (fun j => match j.todo.find? (fun o => decide (o.bank = b)) with
    | some o => if s.supMay j o then some (j, o) else none
    | none => none)

/-- The supervisor takes the banks that are free, and that its work needs; no new operation starts once a warm reset is pending
(R486). -/
def State.supGo (s : State) : State :=
  if s.warm.isSome then s
  else (List.range 4).foldl (fun s b => match s.supNext b with
    | some (j, o) => s.supStart j o
    | none => s) s

/-- A bank has become free: records that waited for it are written, and the supervisor's work goes on, before the queue's (R393). -/
def State.bankFreed (s : State) : State := s.journalFlush.supGo

/-- A piece of work begins. -/
def State.jobStart (s : State) (j : SupJob) : State := (s.mapFlash (fun f => { f with jobs := f.jobs ++ [j] })).supGo

/-- The work of a key. -/
def State.job (s : State) (key : Nat) : Option SupJob := s.flash.jobs.find? (fun j => decide (j.key = key))

/-- All operations of a piece of work have ended. -/
def State.jobOver (s : State) (j : SupJob) : Bool := j.todo.isEmpty && !s.supRuns j.key

/-- A piece of work is over and gone. -/
def State.jobDrop (s : State) (key : Nat) : State :=
  s.mapFlash (fun f => { f with jobs := f.jobs.filter (fun j => decide (j.key ≠ key)) })

/-! ### Completion (R394, R395, R414) -/

/-- Write into the queue's memory. -/
def State.queuePut (s : State) (host : Bool) (a : Nat) (bs : List Byte) : State :=
  if host then { s with out := s.out ++ [.pcie a bs] } else s.spacePut s.flashMaster a bs

/-- Completed descriptors at the front of the queue leave it: QTAIL passes them. -/
def State.flashTail (s : State) : State :=
  let n := (s.flash.queue.takeWhile (fun d => d.done)).length
  (s.mapFlash (fun f => { f with queue := f.queue.drop n })).setFld FLASH_QTAIL_TAIL 0 ((s.fld FLASH_QTAIL_TAIL 0 + n) % 128)

/-- The signal or interrupt of NOTIFY. -/
def State.flashNotify (s : State) (d : FlashDesc) : State :=
  if !bitOf d.flags 0 then s
  else if s.hostQ then s.msix 6
  else s.signalIn (min 32 (s.fld FLASH_NOTIFY_TGT 0)) (s.fld FLASH_NOTIFY_BIT 0)

/-- The record of a refused descriptor. -/
def State.flashReport (s : State) (i code : Nat) : State :=
  if 5 ≤ code ∧ code ≤ 8 then s.raise 0x0901 (srcOf 13 0) [i, code] else s

/-- The STATUS word of a descriptor that has completed (R391). -/
def statusWord (code corr : Nat) : Nat := 2 ^ 31 + 256 * min corr 255 + code

/-- INFO and then STATUS are written back into a descriptor of the queue; a queue in the Caldera is not reachable before its
clearing (R325, R400). -/
def State.descWriteBack (s : State) (i code corr info : Nat) : State :=
  if s.hostQ || s.spaceOpen (s.descAddr i) then
    (s.queuePut s.hostQ (s.descAddr i + 28) (leBytes 4 info)).queuePut s.hostQ (s.descAddr i + 24) (leBytes 4 (statusWord code corr))
  else s

/-- A descriptor completes: `corr` corrected units, code, INFO. -/
def State.flashComplete (s : State) (d : FlashDesc) (code corr info : Nat) : State :=
  let s := s.descWriteBack d.idx code corr info
  let s := s.mapFlash (fun f => { f with
    queue := f.queue.map (fun x => if x.idx = d.idx then { x with done := true, parked := false } else x) })
  let s := s.setFld FLASH_STATUS_DONECNT 0 ((s.fld FLASH_STATUS_DONECNT 0 + 1) % 65536)
  ((s.flashReport d.idx code).flashNotify d).flashTail

/-- Complete the descriptor of an index, if it is in the queue. -/
def State.completeIdx (s : State) (i code info : Nat) : State :=
  match s.flash.queue.find? (fun d => decide (d.idx = i)) with
  | some d => s.flashComplete d code 0 info
  | none => s

/-! ### Reaching descriptors (R393, R469) -/

/-- Privileges that a descriptor of the queue is judged against (R469): a descriptor of SUP's firmware is judged as the
command is on whose behalf it comes, so it is not judged again here. -/
def State.flashPriv (s : State) : Nat :=
  if s.hostQ then s.sessPriv 1 0 else if s.owner .flash 0 = 32 then 63 else s.flash.privs

/-- The controller can reach a descriptor's buffer now: an access to the Caldera waits until it is clear (R325). -/
def State.bufOpen (s : State) (d : FlashDesc) : Bool :=
  d.hbuf || !(decide (d.op = 1) || decide (d.op = 2)) || s.pieceOpen d.buf (max 1 d.len)

/-- The next descriptor to be reached (R325, R411, R483, R486): `w` is what host memory holds where the queue lies there. -/
def State.nextDesc (s : State) (w : BitVec 256) : Option (FlashDesc × State) :=
  let i := s.flash.reach
  if i = s.fld FLASH_QHEAD_HEAD 0 ∨ s.ready 2 = false ∨ s.warm.isSome = true ∨ s.wiping = true ∨
      (!s.hostQ && !s.spaceOpen (s.descAddr i)) = true then none
  else
    let (l, s) := if s.hostQ then (leBytes 32 w.toNat, s) else s.spaceBytes s.flashMaster (s.descAddr i) 32
    let d := descOf i l
    if (bitOf d.flags 1 && s.flash.queue.any (fun x => !x.done)) || !s.bufOpen d then none else some (d, s)

/-- The controller reaches descriptor `d`. -/
def State.reach (s : State) (d : FlashDesc) : State :=
  s.mapFlash (fun f => { f with reach := (d.idx + 1) % 128, queue := f.queue ++ [d] })

/-- Run `f` on a descriptor of the queue; a refused one completes at once. -/
def State.judged (s : State) (d : FlashDesc) (f : FlashDesc → State → State) : State :=
  match s.descRefused d s.hostQ d.priv with
  | some (code, info) => s.flashComplete d code 0 info
  | none => f d s

/-- Reach the next descriptor if `want` names its operation, and run `f` on it. -/
def State.reachNext (s : State) (w : BitVec 256) (want : FlashDesc → Bool) (f : FlashDesc → State → State) : State :=
  match s.nextDesc w with
  | none => s
  | some (d, s1) =>
    if want d then
      let d := { d with priv := s1.flashPriv }
      (s1.reach d).judged d f
    else s

/-- An earlier descriptor of the same bank is parked. -/
def State.parkedBefore (s : State) (d : FlashDesc) : Bool :=
  (s.flash.queue.takeWhile (fun x => decide (x.idx ≠ d.idx))).any (fun x => x.parked && decide (x.bank = d.bank))

/-- What SWAP_BOOT needs of the banks before it checks the firmware: no operation runs in the boot blocks' bank or is suspended
there (R406, R412). -/
def State.swapOpen (s : State) : Bool := decide ((s.bank 0).op = 0) && (s.bank 0).held.isNone

/-- A descriptor that the controller has reached can start now (R393): an ERASE needs its intent in the journal first. -/
def State.canStart (s : State) (d : FlashDesc) : Bool :=
  match d.op with
  | 2 => (s.bank d.bank).takes 2 (d.block % 64) && !s.parkedBefore d
  | 3 => (s.bank d.bank).takes 3 (d.block % 64) && !s.parkedBefore d && s.journalOpen
  | 7 => s.swapOpen || decide (s.fld FLASH_STATUS_ACTBOOT 0 = d.arg % 2)
  | _ => s.bufOpen d

/-- A parked descriptor as its slot stands now (R390). What host memory holds there comes with the command, `w`; a slot that holds
another operation there is taken as it was when it was reached (log entry 137). -/
def State.slotNow (s : State) (w : BitVec 256) (d : FlashDesc) : FlashDesc :=
  let now (l : List Byte) : FlashDesc := { descOf d.idx l with parked := true, priv := d.priv }
  if s.hostQ then (if (now (leBytes 32 w.toNat)).op = d.op then now (leBytes 32 w.toNat) else d)
  else if s.spaceOpen (s.descAddr d.idx) then now (s.spaceBytes s.flashMaster (s.descAddr d.idx) 32).1
  else d

/-- The oldest parked descriptor that `want` names and that can start now. -/
def State.nextParked (s : State) (w : BitVec 256) (want : FlashDesc → Bool) : Option FlashDesc :=
  if s.warm.isSome then none
  else (s.flash.queue.filter (fun d => d.parked)).findSome? (fun d =>
    let n := s.slotNow w d
    if want n && s.canStart n then some n else none)

/-- The entry of the queue that has a descriptor's index takes its present form. -/
def State.putEntry (s : State) (d : FlashDesc) : State :=
  s.mapFlash (fun f => { f with queue := f.queue.map (fun x => if x.idx = d.idx then d else x) })

/-- Run one descriptor that `want` names: a parked one that can start, judged again as it stands (R389, R390), or else the next to
be reached. -/
def State.runNext (s : State) (w : BitVec 256) (want : FlashDesc → Bool) (f : FlashDesc → State → State) : State :=
  match s.nextParked w want with
  | some d =>
    let d := { d with parked := false }
    (s.putEntry d).judged d f
  | none => s.reachNext w want f

/-- Park or unpark a descriptor of the queue. -/
def State.setParked (s : State) (i : Nat) (x : Bool) : State :=
  s.mapFlash (fun f => { f with queue := f.queue.map (fun d => if d.idx = i then { d with parked := x } else d) })

/-- Start a descriptor that the controller has reached, or leave it parked. -/
def State.startOrPark (s : State) (d : FlashDesc) (start : FlashDesc → State → State) : State :=
  if s.canStart d then start d s else s.setParked d.idx true

/-! ### READ (R388, R392, R396, R397, R399, R408) -/

/-- The bytes that a READ of the array or the OTP row gives; key bytes are 0 at protection level 1 or 2. -/
def State.readData (s : State) (d : FlashDesc) : List Byte :=
  if bitOf d.faddr 31 then
    (List.range d.len).map (fun i =>
      let a := d.otpOff + i
      if 1 ≤ s.plevel ∧ 0x40 ≤ a ∧ a < 0xC0 then 0 else s.otpByte a)
  else s.flashBytes d.faddr d.len

/-- The buffer can be reached (R19); `ok` says so of host memory. -/
def FlashDesc.bufOk (d : FlashDesc) (ok : Bool) : Bool :=
  if d.hbuf then ok
  else (List.range ((d.len + 15) / 16)).all (fun i => decide (placeOf (d.buf + 16 * i) ≠ .none))

/-- Put data into the buffer. -/
def State.bufPut (s : State) (m : Master) (d : FlashDesc) (bs : List Byte) : State :=
  if d.hbuf then { s with out := s.out ++ [.pcie d.buf bs] } else s.spacePut m d.buf bs

/-- What a READ that starts comes to: state, code, INFO (R394, R396). -/
def State.flashReadOp (s : State) (m : Master) (d : FlashDesc) (ok : Bool) (uncorr first : Nat) (corr : Nat) :
    State × Nat × Nat :=
  if !d.bufOk ok then (s, 8, d.buf % 2 ^ 32)
  else if bitOf d.faddr 31 then
    let keys := decide (1 ≤ s.plevel) && decide (d.otpOff < 0xC0) && decide (0x40 < d.otpOff + d.len)
    let s := (s.bufPut m d (s.readData d)).eccCount corr uncorr first m.agent
    (s, if keys then (6, s.plevel) else if uncorr = 0 then (1, 0) else (2, first))
  else
    let b := d.bank
    let k := s.bank b
    if k.op ≠ 0 then
      let w := s.bankWord b
      let s := s.bufPut m d ((List.range (d.len / 8)).flatMap (fun _ => leBytes 8 w))
      let s := if s.bit FLASH_STATUS_BUSYREAD 0 then s
        else (s.setBit FLASH_STATUS_BUSYREAD 0 true).raise 0x0905 (srcOf 13 0) [b, w % 2 ^ 32, w / 2 ^ 32]
      (s, 3, w % 2 ^ 32)
    else
      let last := (d.faddr + d.len - 1) / 131072
      let blocks := (List.range (last + 1)).filter (fun x => decide (d.block ≤ x))
      let lost := blocks.find? (fun x => s.undef x || (match k.held with
        | some h => decide (64 * b + h.block = x)
        | none => false))
      let s := (s.bufPut m d (s.readData d)).flashRead
      match lost with
      | some x => (s, 4, x)
      | none => (s.eccCount corr uncorr first m.agent, if uncorr = 0 then (1, 0) else (2, first))

/-- READ (R392): `desc` and `ok` are of host memory; `corr` units were corrected, `uncorr` were not, the first at `first`. -/
def execRead (desc : BitVec 256) (ok : Bool) (corr uncorr : Half) (first : Word) (s : State) :
    Host.Outcome State Fault Refusal :=
  .next (s.runNext desc (fun d => decide (d.op = 1)) (fun d s =>
    let (s, code, info) := s.flashReadOp s.flashMaster d ok uncorr.toNat first.toNat corr.toNat
    s.flashComplete d code (if code = 1 ∨ code = 2 then corr.toNat else 0) info))

/-! ### PROGRAM and ERASE (R393, R394, R397) -/

/-- The data of a PROGRAM: from data space, or what host memory gave. -/
def State.programData (s : State) (m : Master) (d : FlashDesc) (data : Option (List Byte)) : Option (List Byte) × State :=
  if d.hbuf then
    (match data with
    | some l => if d.len ≤ l.length then some (l.take d.len) else none
    | none => none, s)
  else if d.bufOk true then
    let (l, s) := s.spaceBytes m d.buf d.len
    (some l, s)
  else (none, s)

/-- A PROGRAM starts in its bank; of an undefined block it programs nothing (R399). -/
def State.programStart (s : State) (d : FlashDesc) (data : Option (List Byte)) : State :=
  if s.undef d.block then s.flashComplete d 4 0 d.block
  else
    let (l, s) := s.programData s.flashMaster d data
    match l with
    | none => s.flashComplete d 8 0 (d.buf % 2 ^ 32)
    | some l =>
      let k := s.bank d.bank
      s.setBank d.bank { k with
        op := 2, block := d.block % 64, page := d.faddr / 512 % 256, idx := d.idx, data := l, own := false }

/-- An ERASE starts in its bank; its intent is journalled first. -/
def State.eraseStart (s : State) (d : FlashDesc) : State :=
  let s := s.eraseIntent d.block 0
  let k := s.bank d.bank
  s.setBank d.bank { k with op := 3, block := d.block % 64, resumes := 0, idx := d.idx, own := false }

/-- PROGRAM (R392, R393): `data` is what host memory gave, none where its access failed. -/
def execProgram (desc : BitVec 256) (data : Option (List Byte)) (s : State) : Host.Outcome State Fault Refusal :=
  .next (s.runNext desc (fun d => decide (d.op = 2)) (fun d s => s.startOrPark d (fun d s => s.programStart d data)))

/-- ERASE (R392, R393). -/
def execErase (desc : BitVec 256) (s : State) : Host.Outcome State Fault Refusal :=
  .next (s.runNext desc (fun d => decide (d.op = 3)) (fun d s => s.startOrPark d (fun d s => s.eraseStart d)))

/-- A suspended erase goes on (R397): the hundredth resume is reported. -/
def State.eraseResume (s : State) (b : Nat) : State :=
  let k := s.bank b
  match k.held with
  | none => s
  | some h =>
    let s := s.setBank b { k with
      op := 3, block := h.block, resumes := h.resumes + 1, idx := h.idx, own := h.own, held := none, due := false }
    if h.resumes + 1 = 100 then s.raise 0x0907 (srcOf 13 0) [64 * b + h.block] else s

/-- The page that runs in a bank has been programmed: its descriptor has one more page done (R394). -/
def State.pageDone (s : State) (b : Nat) : State :=
  let k := s.bank b
  let s := if k.data.isEmpty then s else s.programPage ((64 * b + k.block) * 256 + k.page) (k.data.take 512)
  if k.own || k.data.isEmpty then s
  else s.mapFlash (fun f => { f with queue := f.queue.map (fun d => if d.idx = k.idx then { d with moved := d.moved + 1 } else d) })

/-- PAGE_PROGRAM_DONE (R394, R400): a page has been programmed, and the next one of the PROGRAM follows. After the last, or once a
warm reset is pending, the bank is free; a PROGRAM that has pages left is then ended by the reset. -/
def execPageProgramDone (bank : Fin 4) (s : State) : Host.Outcome State Fault Refusal :=
  let b := bank.val
  let k := s.bank b
  if k.op ≠ 2 then .next s
  else
    let s := s.pageDone b
    let rest := k.data.drop 512
    if rest.isEmpty || s.warm.isSome then
      let s := s.setBank b { k with op := 0, data := [], own := false }
      let s := if k.own || !rest.isEmpty then s else s.completeIdx k.idx 1 0
      .next (if k.due then s.eraseResume b else s).bankFreed
    else .next (s.setBank b { k with page := k.page + 1, data := rest })

/-- The SUSPENDs that wait for a bank's erase to pause complete with a code. -/
def State.pauseEnds (s : State) (b code info : Nat) : State :=
  let l := s.flash.pausing.filter (fun p => decide (p.1 = b))
  let s := s.mapFlash (fun f => { f with pausing := f.pausing.filter (fun p => decide (p.1 ≠ b)) })
  l.foldl (fun s p => match p.2 with
    | some i => s.completeIdx i code info
    | none => s) s

/-- The block of the selector record in force has been erased: none is in force, as after a power-up that finds none (R403, R411).
-/
def State.selLost (s : State) (g : Nat) : State :=
  if s.flash.sel / 256 = g ∧ g ≠ 0 then
    ((s.mapFlash (fun f => { f with sel := 0 })).setFld FLASH_SELSEQ_SEQ 0 0).setFld FLASH_STATUS_ACTBOOT 0 0
  else s

/-- Global block `g` has been erased (R398, R399): it is defined again, and the journal says so. -/
def State.erased (s : State) (g : Nat) : State :=
  let s := ((s.eraseBlock g).setUndef g false).selLost g
  if intended g then s.eraseDone g else if g = 194 then s.mapFlash (fun f => { f with jpage := 0 }) else s

/-- ERASE_END (R397, R398, R399): the erase of a bank ends. A SUSPEND that it overtook found nothing to pause. -/
def execEraseEnd (bank : Fin 4) (s : State) : Host.Outcome State Fault Refusal :=
  let b := bank.val
  let k := s.bank b
  if k.op ≠ 3 then .next s
  else
    let s := (s.setBank b { k with op := 0, own := false }).erased (64 * b + k.block)
    let s := if k.own then s else s.completeIdx k.idx 1 0
    .next (s.pauseEnds b 0x0A b).bankFreed

/-- The erase that runs in a bank pauses (R397). -/
def State.erasePause (s : State) (b : Nat) : State :=
  let k := s.bank b
  ((s.setBank b { k with
    op := 0, own := false, held := some { block := k.block, resumes := k.resumes, idx := k.idx, own := k.own } }).pauseEnds b 1 0).bankFreed

/-- ERASE_PAUSE (R397): the erase of a bank has paused. -/
def execErasePause (bank : Fin 4) (s : State) : Host.Outcome State Fault Refusal :=
  let b := bank.val
  if decide ((s.bank b).op = 3) && s.flash.pausing.any (fun p => decide (p.1 = b)) then .next (s.erasePause b) else .next s

/-! ### SUSPEND and RESUME (R397, R412) -/

/-- SUSPEND of a bank; false where no erase runs in it. -/
def State.suspendBank (s : State) (b : Nat) (i : Option Nat) : State × Bool :=
  if (s.bank b).op = 3 then (s.mapFlash (fun f => { f with pausing := f.pausing ++ [(b, i)] }), true) else (s, false)

/-- RESUME of a bank; false where no erase is suspended in it. While a page program runs, the erase goes on after it. -/
def State.resumeBank (s : State) (b : Nat) : State × Bool :=
  let k := s.bank b
  if k.held.isSome && !k.due then (if k.op = 0 then s.eraseResume b else s.setBank b { k with due := true }, true)
  else (s, false)

/-- SUSPEND (R397). -/
def execSuspend (desc : BitVec 256) (s : State) : Host.Outcome State Fault Refusal :=
  .next (s.runNext desc (fun d => decide (d.op = 4)) (fun d s =>
    let b := d.arg % 4
    let (s, ok) := s.suspendBank b (some d.idx)
    if ok then s else s.flashComplete d 0x0A 0 b))

/-- RESUME (R397). -/
def execResume (desc : BitVec 256) (s : State) : Host.Outcome State Fault Refusal :=
  .next (s.runNext desc (fun d => decide (d.op = 5)) (fun d s =>
    let b := d.arg % 4
    let (s, ok) := s.resumeBank b
    if ok then s.flashComplete d 1 0 0 else s.flashComplete d 0x0A 0 b))

/-! ### What the supervisor carries out (R406, R408, R410, R411) -/

/-- An OTP word counts as programmed: it reads another value than 0, its programming was interrupted, or runs (R408, R412). -/
def State.otpUsed (s : State) (a : Nat) : Bool :=
  decide (s.otpWord a ≠ 0) || s.flash.burnt.contains a || s.flash.jobs.any (fun j => match j.fin with
    | .otp x _ => decide (x = a)
    | _ => false)

/-- What becomes of an operation that the supervisor carries out: it has ended, with a code and an INFO, or goes on as a piece of
work. -/
abbrev Carried := State × Option (Nat × Nat)

/-- OTP_PROGRAM (R408) starts: the word is programmed at its end. -/
def State.otpStart (s : State) (key : Nat) (d : FlashDesc) : Carried :=
  let a := d.otpOff
  if (otpKeyWord a || otpUserWord a) && !s.otpUsed a &&
    decide (d.arg ≠ 0) then (s.jobStart { key := key, todo := [], fin := .otp a d.arg }, none)
  else (s.raise 0x0908 (srcOf 13 0) [a], some (0x0B, a))

/-- Byte `i` of boot block `b`. -/
def State.bootByte (s : State) (b : Nat) : Nat → Byte := fun i => s.flashByte (0x100000 * b + i)

/-- Firmware bytes lie after the header's page (R404, log entry 57). -/
def fwStart : Nat := 512

/-- The first failed check of the firmware of a boot block (R404, R405): 1 HDRCRC, 2 MAGIC, 3 LOADCRC, 4 FWDIGEST. -/
def State.fwCheck (s : State) (b : Nat) (full : Bool) : Option Nat :=
  let rd := s.bootByte b
  let ilen := imgNum rd 8 4
  let dlen := imgNum rd 12 4
  let total := imgNum rd 16 4
  if crc32c (imgBytes rd 0 508) ≠ imgNum rd 508 4 then some 1
  else if imgNum rd 0 4 ≠ 0x53555046 then some 2
  else if 65536 < ilen ∨ 65536 < dlen ∨ crc32c (imgBytes rd fwStart (ilen + dlen)) ≠ imgNum rd 20 4 then some 3
  else if full ∧ (917504 < total ∨ sha256 (imgBytes rd fwStart (total - fwStart)) ≠ imgBytes rd 24 32) then some 4
  else none

/-- A page of parameter records is written into boot block `b` (R404): its coding is the firmware's (log entry 58). -/
def State.paramPage (s : State) (b : Nat) : State :=
  let p := (8 * b + 7) * 256
  let n := storeGet 0 s.flash.pages (8 * b + 7)
  s.mapFlash (fun f => { f with
    wild := f.wild ++ [p + n % 256], pages := storeSet 0 f.pages (8 * b + 7) (n % 256 + 1) })

/-- SWAP_BOOT (R406) starts with the checks, and then erases the block's parameter block; reason 1 a failed check, 2 the block is
active. -/
def State.swapStart (s : State) (key b : Nat) : Carried :=
  if s.fld FLASH_STATUS_ACTBOOT 0 = b then (s, some (0x0C, 2))
  else
    let bad := s.fwCheck b true
    let s := s.arrayRead [(0x100000 * b, 917504)]
    match bad, s.selector with
    | none, some _ => (s.jobStart { key := key, todo := [.erase (8 * b + 7)], fin := .swap b }, none)
    | _, _ => (s, some (0x0C, 1))

/-- SWAP_BOOT ends: the present parameter records are written, and then the selector record. -/
def State.swapEnd (s : State) (b : Nat) : State :=
  let now := s.flash.params.filter (fun c => decide (c.1 / 16 = s.fld FLASH_STATUS_ACTBOOT 0))
  let s := (s.paramPage b).mapFlash (fun f => { f with
    params := now.foldl (fun m c => storeSet 0 m (16 * b + c.1 % 16) c.2) f.params })
  match s.selector with
  | some x => s.selWrite { x with actboot := b }
  | none => s

/-- The next fuse word of eight that is not blown. -/
def State.nextFuse (s : State) (a : Nat) : Option Nat := (List.range 8).find? (fun k => !s.blown (a + 4 * k))

/-- Blow a fuse word: every bit of it reads 1. -/
def State.blow (s : State) (a : Nat) : State := s.setOtpWord a 0xFFFFFFFF

/-- The level has changed (R410). -/
def State.levelChanged (s : State) (now want : Nat) : State := s.raise 0x0909 (srcOf 13 0) [now, want]

/-- SET_PROTECTION (R410, R411); the reason counts R410's cases. To level 0 the Caldera is cleared, and every block of the array
is to be erased, the banks in parallel, before the fuse is blown. -/
def State.protectStart (s : State) (key want : Nat) : Carried :=
  let now := s.plevel
  if want = now then (s, some (0x0C, 1))
  else if want = 3 then (s, some (0x0C, 0))
  else if now = 2 then (s, some (0x0C, 2))
  else if want = 2 then ((s.blow 0x100).tapSettle.levelChanged now want, some (1, 0))
  else if want = 1 then
    match s.nextFuse 0xC0 with
    | none => (s, some (0x0C, 3))
    | some k => ((s.blow (0xC0 + 4 * k)).levelChanged now want, some (1, 0))
  else
    match s.nextFuse 0xE0 with
    | none => (s, some (0x0C, 4))
    | some _ =>
      ({ s with caldera := [], flaws := s.flaws.filter (fun x => x.flash) }.jobStart
        { key := key, todo := (List.range 256).map .erase, fin := .wipe now }, none)

/-- SET_PROTECTION to 0 ends: the next PL0 word is blown (R411). -/
def State.wipeEnd (s : State) (now : Nat) : State :=
  match s.nextFuse 0xE0 with
  | none => s
  | some k => (s.blow (0xE0 + 4 * k)).levelChanged now 0

/-- No page program runs in a bank that the supervisor is to read (R412); an erase that runs there is suspended meanwhile. -/
def State.bankFree (s : State) (b : Nat) : Bool := decide ((s.bank b).op ≠ 2)

/-- What ends a piece of work whose operations have all ended; none where it must wait for bank 3, or where a long command ends
it. -/
def State.jobFin (s : State) (j : SupJob) : Option State :=
  match j.fin with
  | .plain => some s
  | .swap b => if s.selOpen then some (s.swapEnd b) else none
  | .otp a v => some (s.setOtpWord a v)
  | .wipe now => some (s.wipeEnd now)
  | .long _ => none

/-- A piece of work is ended, if it can be. -/
def State.jobEnd (s : State) (j : SupJob) : Option State :=
  if s.jobOver j && s.warm.isNone then (s.jobDrop j.key).jobFin j else none

/-- An operation that the supervisor carries out for the queue has ended, or goes on. -/
def State.carried (r : Carried) (d : FlashDesc) : State :=
  match r.2 with
  | some (code, info) => r.1.flashComplete d code 0 info
  | none => r.1

/-- The work of a descriptor of the queue whose operation is `op`. -/
def State.queueJob (s : State) (op : Nat) : Option SupJob :=
  s.flash.jobs.find? (fun j => s.flash.queue.any (fun d => decide (d.idx = j.key) && decide (d.op = op)))

/-- Run an operation that the supervisor carries out: one that is in progress goes on, or else the next one begins, or is left
parked. -/
def State.runCarried (s : State) (w : BitVec 256) (op : Nat) (start : FlashDesc → State → Carried) : State :=
  match s.queueJob op with
  | some j =>
    (match s.jobEnd j with
    | some t => t.completeIdx j.key 1 0
    | none => s)
  | none => s.runNext w (fun d => decide (d.op = op)) (fun d s => s.startOrPark d (fun d s => State.carried (start d s) d))

/-- OTP_PROGRAM (R408): the word is programmed when the operation ends. -/
def execOtpProgram (desc : BitVec 256) (s : State) : Host.Outcome State Fault Refusal :=
  .next (s.runCarried desc 6 (fun d s => s.otpStart d.idx d))

/-- SWAP_BOOT (R406, R412): while an operation runs in the boot blocks' bank it is parked. -/
def execSwapBoot (desc : BitVec 256) (s : State) : Host.Outcome State Fault Refusal :=
  .next (s.runCarried desc 7 (fun d s => s.swapStart d.idx (d.arg % 2)))

/-- SET_PROTECTION (R410, R411). -/
def execSetProtection (desc : BitVec 256) (s : State) : Host.Outcome State Fault Refusal :=
  .next (s.runCarried desc 8 (fun d s => s.protectStart d.idx (d.arg % 4)))

/-- INVALID_OPERATION (R392): the next descriptor breaks a rule and completes with BADDESC. -/
def execInvalidOperation (desc : BitVec 256) (s : State) : Host.Outcome State Fault Refusal :=
  .next (s.runNext desc (fun d => (d.bad s.hostQ).isSome) (fun _ s => s))

/-! ### FLASH_DESC (R454, R469): a descriptor that the supervisor runs to its end -/

/-- Key of the work of the long command in progress. -/
def longKey : Nat := 128

/-- A descriptor of a command has ended: the record of a refused one, and the state, corrected units, code and INFO. -/
structure DescEnd where
  state : State
  code : Nat
  corr : Nat := 0
  info : Nat := 0

def State.descEnds (s : State) (d : FlashDesc) (code info : Nat) (corr : Nat := 0) : State × Option DescEnd :=
  let s := s.flashReport d.idx code
  (s, some { state := s, code := code, corr := corr, info := info })

/-- An operation that the supervisor carries out for a command's descriptor. -/
def carriedDesc (r : Carried) (d : FlashDesc) : State × Option DescEnd :=
  match r.2 with
  | some (code, info) => r.1.descEnds d code info
  | none => (r.1, none)

/-- Run a descriptor of a command, whose `mem` the buffer holds in host memory: it ends, or goes on as work of the supervisor;
none where it must wait to begin. -/
def State.flashDesc (s : State) (m : Master) (d : FlashDesc) (host : Bool) (priv : Nat) (mem : Option (List Byte)) :
    Option (State × Option DescEnd) :=
  match s.descRefused d host priv with
  | some (code, info) => some (s.descEnds d code info)
  | none =>
    if !s.bufOpen d then none
    else
    match d.op with
    | 1 =>
      let (corr, uncorr, first) := if bitOf d.faddr 31 then (0, 0, 0) else s.eccFound d.faddr d.len
      let (s, code, info) := s.flashReadOp m d mem.isSome uncorr first corr
      some (s.descEnds d code info (if code = 1 ∨ code = 2 then corr else 0))
    | 2 =>
      if s.undef d.block then some (s.descEnds d 4 d.block)
      else
        let (l, s) := s.programData m d mem
        match l with
        | none => some (s.descEnds d 8 (d.buf % 2 ^ 32))
        | some l =>
          let ops := (List.range (l.length / 512)).map (fun i => SupOp.program (d.faddr / 512 + i) (piece l (512 * i) 512))
          some (s.jobStart { key := longKey, todo := ops, fin := .plain }, none)
    | 3 => some (s.jobStart { key := longKey, todo := [.erase d.block], fin := .plain }, none)
    | 4 =>
      if (s.bank (d.arg % 4)).op = 3 then some ((s.erasePause (d.arg % 4)).descEnds d 1 0) else some (s.descEnds d 0x0A (d.arg % 4))
    | 5 =>
      let (s, ok) := s.resumeBank (d.arg % 4)
      some (if ok then s.descEnds d 1 0 else s.descEnds d 0x0A (d.arg % 4))
    | 6 => some (carriedDesc (s.otpStart longKey d) d)
    | 7 =>
      if s.swapOpen || decide (s.fld FLASH_STATUS_ACTBOOT 0 = d.arg % 2) then some (carriedDesc (s.swapStart longKey (d.arg % 2)) d)
      else none
    | _ => some (carriedDesc (s.protectStart longKey (d.arg % 4)) d)

/-! ### Interruptions (R400, R408) -/

/-- The blocks whose erase runs or is suspended in bank `b`. -/
def State.openErases (s : State) (b : Nat) : List Nat :=
  let k := s.bank b
  (if k.op = 3 then [64 * b + k.block] else []) ++ (match k.held with
    | some h => [64 * b + h.block]
    | none => [])

/-- An erase of global block `g` is interrupted: the block holds no definite data (R400). -/
def State.eraseLost (s : State) (g : Nat) : State :=
  s.mapFlash (fun f => { f with
    wild := f.wild.filter (fun p => decide (p / 256 ≠ g)) ++ (List.range 256).map (fun i => 256 * g + i) })

/-- OTP words whose programming is interrupted hold an undefined value, a free one, and count as programmed (R408). -/
def State.otpLost (s : State) : Flash :=
  ((List.range s.flash.jobs.length).zip s.flash.jobs).foldl (fun f x => match x.2.fin with
    | .otp a _ => { f with
        otp := writeBytes f.otp a (leBytes 4 (Config.freeWord (s.free + x.1)).toNat),
          burnt := f.burnt.filter (fun b => decide (b ≠ a)) ++ [a] }
    | _ => f) s.flash

/-! ### Register writes (R390, R397, R413) -/

/-- A write of a FLASH register lands. -/
def State.flashWrite (s : State) (who off v : Nat) : State :=
  if off = 0x00C ∧ s.hostQ then s
  else
    let s := s.classWrite who .flash 0 off v (fun _ _ => false)
    if off = 0x018 then
      let s := (List.range 4).foldl (fun s b => if bitOf v b then (s.suspendBank b none).1 else s) s
      (List.range 4).foldl (fun s b => if bitOf v (4 + b) then (s.resumeBank b).1 else s) s
    else s

end Sys2Proof.Machine
end

