-- ==== Sys2Proof/Machine/UrsenSystem.lean ====
section
/-! DEFINITION. Ursen, the instructions that reach data space and configuration space, and the privileged ones; the error
queue and the supervisor watchdog: R221, R222, R235, R244 to R248, R484, R490, R493, R494, R498. -/

namespace Sys2Proof.Machine

open Sys2Proof.F

/-- Post-class instructions that act at once still need a slot of the posting buffer (R187). -/
def State.issueSlot (s : State) (q len : Nat) (f : State → State) : State :=
  s.issue q len (fun s => if 8 ≤ (s.seq q).post.length then s else f s)

/-! ### Data space (R221, R222) -/

/-- What an error in the word that is read does; only the Caldera's words carry SEC-DED (R328). -/
def State.spaceEcc (s : State) (e : Ecc) (m : Master) (a : Nat) : State :=
  match placeOf a with
  | .caldera a => s.eccSeen e m.agent a
  | _ => s

/-- Sequencer `q` has a store to the 16-byte word of an address in its posting buffer (R222). -/
def State.storeWaits (s : State) (q a : Nat) : Bool :=
  (s.seq q).post.any (fun p => match p with
    | .stc b _ _ => decide (b / 16 = a / 16)
    | _ => false)

/-- LDC (R221, R222): an access to the Caldera waits until it is clear, and a load follows the sequencer's own stores to its word.
-/
def execLdc (q : Fin 33) (r ga : Fin 32) (item : Bool) (imm : Word) (ecc : Ecc) (s : State) :
    Host.Outcome State Fault Refusal :=
  let q := q.val
  let m : Master := .seq q
  .next (s.issue q 8 (fun s =>
    let x := s.seq q
    let a := x.extAddr ga imm
    let g := (x.greg r.val).toNat
    if item then
      match memFault g 16 with
      | some c => s.seqFault q c
      | none =>
        let a := a / 16 * 16
        if s.spaceOpen a && !s.storeWaits q a then
          let (bs, s) := s.spaceRead m a 16
          ((s.spaceEcc ecc m a).mapSeq q (fun x => x.store g bs)).advance q 8
        else s
    else
      let a := a / 4 * 4
      if s.spaceOpen a && !s.storeWaits q a then
        let (bs, s) := s.spaceRead m a 4
        ((s.spaceEcc ecc m a).mapSeq q (fun x => x.setG r.val (BitVec.ofNat 32 (leNat bs)))).advance q 8
      else s))

/-- STC (R185, R221): the store is posted with the data of its issue. -/
def execStc (q : Fin 33) (r ga : Fin 32) (item : Bool) (imm : Word) (clash : Clash) (s : State) :
    Host.Outcome State Fault Refusal :=
  let q := q.val
  .next (s.issue q 8 (fun s =>
    let x := s.seq q
    let a := x.extAddr ga imm
    let g := (x.greg r.val).toNat
    if item then
      match memFault g 16 with
      | some c => s.seqFault q c
      | none => s.issueSelf q 8 (.stc (a / 16 * 16) (readBytes x.dmem g 16) clash)
    else s.issueSelf q 8 (.stc (a / 4 * 4) (leBytes 4 (x.greg r.val).toNat) clash)))

/-! ### Configuration space (R188, R235) -/

/-- CFGR (R188, R235): after every item the sequencer has posted. -/
def execCfgr (q : Fin 33) (r ga : Fin 32) (imm : Word) (s : State) : Host.Outcome State Fault Refusal :=
  let q := q.val
  .next (s.issue q 8 (fun s =>
    let x := s.seq q
    if x.post.isEmpty then
      let (v, s) := s.regRead q (x.extAddr ga imm / 4 * 4)
      (s.mapSeq q (fun x => x.setG r.val (BitVec.ofNat 32 v))).advance q 8
    else s))

/-! ### Ownership and resets (R245, R246, R484) -/

/-- OWN (R244, R245). -/
def execOwn (q : Fin 33) (gs ga : Fin 32) (imm : Word) (s : State) : Host.Outcome State Fault Refusal :=
  let q := q.val
  .next (s.issuePriv q 8 (fun s =>
    let x := s.seq q
    s.issueSelf q 8 (.own (x.extAddr ga imm / 4 * 4) ((x.greg gs.val).toNat % 64))))

/-- An SRST of kind `m` names an instance that it can reset (R246). -/
def srstOk (m addr : Nat) : Bool :=
  match m, cfgDecode (addr % 2 ^ 31) with
  | 0, some (.seq, n, _) => decide (n < 32)
  | 1, some (.se, _, _) => true
  | 2, some (.zone, _, _) => true
  | 3, _ => true
  | _, _ => false

/-- SRST (R244, R246). -/
def execSrst (q : Fin 33) (m : Fin 4) (ga : Fin 32) (imm : Word) (s : State) : Host.Outcome State Fault Refusal :=
  let q := q.val
  .next (s.issuePriv q 8 (fun s => s.issueSlot q 8 (fun s =>
    let a := (s.seq q).extAddr ga imm
    if srstOk m.val a then (s.mapSeq q (fun x => { x with post := x.post ++ [.srst m.val a] })).advance q 8
    else (s.raise 0x0708 supSrc [32, a]).advance q 8)))

/-- SEQUENCER_RESET (R204, R246): an SRST with m = 0 reaches the sequencer. -/
def execSequencerReset (q : Fin 33) (addr : Word) (s : State) : Host.Outcome State Fault Refusal :=
  .next (s.deliver q.val (fun p => decide (p = .srst 0 addr.toNat)) (fun s =>
    match cfgDecode (addr.toNat % 2 ^ 31) with
    | some (.seq, n, _) => if n < 32 then s.seqReset n else s
    | _ => s))

/-- WARM_RESET (R246, R485): a warm reset is requested; it waits for R486. A fault of SUP and the watchdog have requested
theirs where they occur. -/
def execWarmReset (cause : WarmCause) (s : State) : Host.Outcome State Fault Refusal :=
  match cause with
  | .srst q => .next (s.deliver q.val (fun p => match p with
      | .srst 3 _ => true
      | _ => false) (fun s => s.requestWarm 3))
  | .write q => .next (s.deliver q.val (fun p => match p with
      | .cfgw a v => decide (a % 2 ^ 31 = 0x10) && v.getLsbD 31
      | _ => false) (fun s =>
        if s.owns q.val .sup 0 then s.requestWarm 3 else s.raise 0x0707 (seqSrc q.val) [q.val, 0x10]))
  | .command => .next (s.requestWarm 3)
  | .supFault => .next (if (s.seq 32).st = .faulted then s.requestWarm 5 else s)

/-! ### The error queue (R247, R490, R493, R494) -/

/-- The 32 bytes of a record (R490). -/
def ErrRec.bytes (r : ErrRec) : List Byte :=
  leBytes 2 r.code ++ leBytes 2 r.source ++ leBytes 2 r.count ++ leBytes 1 r.flags ++ leBytes 1 0 ++ leBytes 8 r.ts.toNat ++
    ((List.range 4).flatMap (fun i => leBytes 4 (r.detail.getD i 0)))

/-- Room has appeared after a loss: the 0x0C03 record enters, and LOST and OVF clear (R493). -/
def State.lossRecord (s : State) : State :=
  if s.bit SUP_ERRSTAT_OVF 0 && decide (s.errq.length < 63) then
    let n := s.fld SUP_ERRSTAT_LOST 0
    ((s.setFld SUP_ERRSTAT_LOST 0 0).setBit SUP_ERRSTAT_OVF 0 false).raise 0x0C03 supSrc [n]
  else s

/-- The ring of SUP.ERRRING takes a record: it names SUP as producer, runs, and has room for two items (R496). -/
def State.errRingOpen (s : State) : Bool :=
  let r := s.fld SUP_ERRRING_RING 0
  let a := agent 5 32
  s.bit SUP_ERRRING_EN 0 && s.ringEn r && s.mayProduce a r && decide (2 ≤ s.ringRoom r) &&
    (List.range 2).all (fun i => s.wordOpen (s.ringAddr r (s.fld RING_WPTR_OFF r + i)))

/-- What the firmware does with a record that it has taken (R496): it pushes it to the ring as two items, and it posts note 0x01
after a batch, to the last record of the queue, of which a record was written (log entry 149). -/
def State.errTaken (s : State) (q : Nat) (r : ErrRec) : State :=
  if q ≠ 32 then s
  else
    let n := s.fld SUP_ERRRING_RING 0
    let item (k : Nat) : BitVec 128 := BitVec.ofNat 128 (leNat ((r.bytes.drop (16 * k)).take 16))
    let s := if s.errRingOpen then
        { ((s.ringOffer (agent 5 32) n (item 0)).1.ringOffer (agent 5 32) n (item 1)).1 with errWritten := true }
      else s
    if s.errq.isEmpty && s.errWritten then { s with errWritten := false }.postNote 1 else s

/-- ERRPOP (R244, R247, R494, R496). -/
def execErrpop (q : Fin 33) (g : Fin 32) (s : State) : Host.Outcome State Fault Refusal :=
  let q := q.val
  .next (s.issuePriv q 4 (fun s =>
    let a := ((s.seq q).greg g.val).toNat
    if a % 16 ≠ 0 then s.seqFault q 0x0703
    else if 65536 < a + 32 then s.seqFault q 0x0704
    else
      match s.errq with
      | [] => ((s.setBit SUP_ERRSTAT_HANDLING 0 false).mapSeq q (fun x => { x with flags := { x.flags with z := true } })).advance q 4
      | r :: rest =>
        let s : State := { s with errq := rest }
        let s := s.mapSeq q (fun x => { (x.store a r.bytes) with flags := { x.flags with z := false } })
        (((s.setBit SUP_ERRSTAT_HANDLING 0 true).lossRecord).errTaken q r).advance q 4))

/-! ### SAFE, NOTE, KICK (R248, R498) -/

/-- SAFE (R248, R499). -/
def execSafe (q : Fin 33) (s : State) : Host.Outcome State Fault Refusal :=
  let q := q.val
  .next (s.issuePriv q 4 (fun s => s.issueSelf q 4 .safe))

/-- NOTE (R248, R464). -/
def execNote (q : Fin 33) (g : Fin 32) (s : State) : Host.Outcome State Fault Refusal :=
  let q := q.val
  .next (s.issuePriv q 4 (fun s => s.issueSelf q 4 (.note (((s.seq q).greg g.val).toNat % 256))))

/-- Ticks of a watchdog unit: 10 µs (R498). -/
def wdogTicks : Nat := 10 * usTicks

/-- The watchdog expires (R494, R498): `late` 0 early, 1 late. -/
def State.wdogExpire (s : State) (late : Nat) : State :=
  (s.raise 0x0C11 supSrc [late, min ((s.tickNo - s.kickAt) / usTicks) (2 ^ 32 - 1)] true).fatal 4

/-- A KICK (R498): judged by the window in force; then the written one applies. -/
def State.kick (s : State) : State :=
  let s := if s.tickNo - s.kickAt < wdogTicks * s.fld SUP_WDOG_WMIN 0 then s.wdogExpire 0 else s
  let s : State := { s with kickAt := s.tickNo, wdogOut := false }
  (s.setFld SUP_WDOG_WMAX 0 (s.stagedI SUP_WDOG_WMAX 0 0)).setFld SUP_WDOG_WMIN 0 (s.stagedI SUP_WDOG_WMIN 0 0)

/-- KICK (R244, R248, R498). -/
def execKick (q : Fin 33) (s : State) : Host.Outcome State Fault Refusal :=
  let q := q.val
  .next (s.issuePriv q 4 (fun s => s.kick.advance q 4))

/-- WATCHDOG_EXPIRY (R498): no KICK within WMAX, while SUP runs, once after the last KICK; a warm reset that waits changes nothing
(R486). -/
def execWatchdogExpiry (s : State) : Host.Outcome State Fault Refusal :=
  if s.ready 0 && !s.wdogOut then
    .next { (s.reachTick (s.kickAt + wdogTicks * max 1 (s.fld SUP_WDOG_WMAX 0))).wdogExpire 1 with wdogOut := true }
  else .next s

end Sys2Proof.Machine
end

