-- ==== Sys2Proof/Machine/UrsenStep.lean ====
section
/-! DEFINITION. The Ursen decoder (R209 to R213 and the entries of the instructions), illegal words, and STEP (R182). -/

namespace Sys2Proof.Machine

open Sys2Proof.F

/-- An Ursen instruction as it stands in instruction memory. -/
inductive UrsenInstr where
  | add (rd ra : Fin 32) (b : UrsenOperand)
  | sub (rd ra : Fin 32) (b : UrsenOperand)
  | and (rd ra : Fin 32) (b : UrsenOperand)
  | or (rd ra : Fin 32) (b : UrsenOperand)
  | xor (rd ra : Fin 32) (b : UrsenOperand)
  | shl (rd ra : Fin 32) (b : UrsenOperand)
  | shr (rd ra : Fin 32) (b : UrsenOperand)
  | sar (rd ra : Fin 32) (b : UrsenOperand)
  | mul (rd ra : Fin 32) (b : UrsenOperand)
  | mulh (rd ra : Fin 32) (b : UrsenOperand)
  | cmp (ra : Fin 32) (b : UrsenOperand)
  | mov (rd : Fin 32) (b : UrsenOperand)
  | movi (rd : Fin 32) (imm : Half)
  | movhi (rd : Fin 32) (imm : Half)
  | tadd (td ta : Fin 8) (b : StampOperand)
  | tsub (f : TsubForm)
  | tmov (f : TmovForm)
  | tcmp (ta : Fin 8) (b : TcmpOperand)
  | tnow (td : Fin 8)
  | tpos (td : Fin 8) (mt : Fin 8)
  | ldw (r gb : Fin 32) (off : Half)
  | ldh (r gb : Fin 32) (off : Half)
  | ldb (r gb : Fin 32) (off : Half)
  | stw (r gb : Fin 32) (off : Half)
  | sth (r gb : Fin 32) (off : Half)
  | stb (r gb : Fin 32) (off : Half)
  | ldt (t : Fin 8) (gb : Fin 32) (off : Half)
  | stt (t : Fin 8) (gb : Fin 32) (off : Half)
  | ldc (r ga : Fin 32) (item : Bool) (imm : Word)
  | stc (r ga : Fin 32) (item : Bool) (imm : Word)
  | br (cond : Fin 15) (off : Half)
  | jmp (ga : Fin 32) (off : Half)
  | call (ga : Fin 32) (off : Half)
  | ret
  | halt
  | yield
  | waitt (gd : Fin 32) (ta : Fin 8)
  | waitp (gd : Fin 32) (ta : Fin 8) (mt : Fin 8) (dir : Fin 3)
  | waite (gd : Fin 32) (mask : Half)
  | waits (gd gm : Fin 32)
  | rwait (gd : Fin 32) (port : Fin 4)
  | rpop (gm : Fin 32) (port : Fin 4)
  | rpush (gm : Fin 32) (port : Fin 4)
  | launch (ta : Fin 8) (action : Fin 8) (chassis : Bool) (gc gv : Fin 32)
  | launchp (ta : Fin 8) (action : Fin 8) (dir : Fin 3) (mt : Fin 8) (gc gv : Fin 32)
  | amendTime (ta : Fin 8) (chassis : Bool) (gc gv : Fin 32)
  | amendPosition (ta : Fin 8) (mt : Fin 8) (gc gv : Fin 32)
  | cancel (all chassis : Bool) (gc gv : Fin 32)
  | capt (e : Fin 4) (chassis : Bool) (gc : Fin 32)
  | pset (gm : Fin 32) (port : Fin 32)
  | pclr (gm : Fin 32) (port : Fin 32)
  | ptgl (gm : Fin 32) (port : Fin 32)
  | pfunc (ta : Fin 8) (na : Bool) (pin : Fin 32) (port : Fin 32) (gf : Fin 32)
  | sample (ta : Fin 8) (gc gv : Fin 32)
  | cfgr (r ga : Fin 32) (imm : Word)
  | cfgw (r ga : Fin 32) (imm : Word)
  | cfga (ta : Fin 8) (ga : Fin 32) (imm : Word)
  | zswap (ta : Fin 8) (x : Bool) (gh gl : Fin 32)
  | zload (ga : Fin 32) (imm : Word)
  | sig (tgt : Fin 33) (bit : Fin 32)
  | xlaunch (ta : Fin 8) (action : Fin 8) (chassis : Bool) (gc gv : Fin 32)
  | xsig (gc : Fin 32) (tgt : Fin 33) (bit : Fin 32)
  | barrier (gd : Fin 32) (k : Fin 16)
  | xtime (td : Fin 8) (gs gd : Fin 32)
  | own (gs ga : Fin 32) (imm : Word)
  | srst (m : Fin 4) (ga : Fin 32) (imm : Word)
  | errpop (g : Fin 32)
  | safe
  | note (g : Fin 32)
  | kick
  deriving DecidableEq, Repr

/-- The arithmetic of opcodes 0x01 to 0x03 (R216). -/
def ursenAlu (fn : Nat) (rd ra : Fin 32) (b : UrsenOperand) : Option UrsenInstr :=
  match fn with
  | 0 => some (.add rd ra b)
  | 1 => some (.sub rd ra b)
  | 2 => some (.and rd ra b)
  | 3 => some (.or rd ra b)
  | 4 => some (.xor rd ra b)
  | 5 => some (.shl rd ra b)
  | 6 => some (.shr rd ra b)
  | 7 => some (.sar rd ra b)
  | 8 => some (.mul rd ra b)
  | 9 => some (.mulh rd ra b)
  | 10 => if rd = 0 then some (.cmp ra b) else none
  | 11 => if ra = 0 then some (.mov rd b) else none
  | _ => none

/-- An instruction whose zero fields hold 0 (R210). -/
def onlyIf (c : Bool) (i : UrsenInstr) : Option UrsenInstr := if c then some i else none

/-- The instruction that an instruction word and the word after it spell; none where R210 calls it illegal. -/
def ursenDecode (word ext : Word) : Option UrsenInstr :=
  let w := word.toNat
  let g (lo : Nat) : Fin 32 := Fin.ofNat 32 (bitsOf w lo 5)
  let t (lo : Nat) : Fin 8 := Fin.ofNat 8 (bitsOf w lo 3)
  let z (lo n : Nat) : Bool := decide (bitsOf w lo n = 0)
  let off : Half := BitVec.ofNat 16 w
  let action : Fin 8 := Fin.ofNat 8 (bitsOf w 19 3)
  let dir : Fin 3 := Fin.ofNat 3 (bitsOf w 17 2)
  let ch := bitOf w 13
  let tgt : Fin 33 := Fin.ofNat 33 (bitsOf w 7 6)
  let tgtOk := decide (bitsOf w 7 6 ≤ 32)
  let k := bitsOf w 0 8
  match w / 2 ^ 26 with
  | 0x01 => if z 4 7 then ursenAlu (bitsOf w 0 4) (g 21) (g 16) (.reg (g 11)) else none
  | 0x02 => ursenAlu (bitsOf w 12 4) (g 21) (g 16) (.imm12 (BitVec.ofNat 12 w))
  | 0x03 => if z 0 12 then ursenAlu (bitsOf w 12 4) (g 21) (g 16) (.imm32 ext) else none
  | 0x04 => onlyIf (z 16 5) (.movi (g 21) off)
  | 0x05 => onlyIf (z 16 5) (.movhi (g 21) off)
  | 0x06 =>
    match bitsOf w 13 4 with
    | 0 => onlyIf (z 0 13) (.tadd (t 23) (t 20) (.stamp (t 17)))
    | 1 => onlyIf (z 17 3 && z 0 8) (.tadd (t 23) (t 20) (.reg (g 8)))
    | 2 => onlyIf (z 0 13) (.tsub (.stamp (t 23) (t 20) (t 17)))
    | 3 => onlyIf (z 23 3 && z 0 8) (.tsub (.clamp (g 8) (t 20) (t 17)))
    | 4 => onlyIf (z 17 3 && z 0 13) (.tmov (.stamp (t 23) (t 20)))
    | 5 => onlyIf (z 17 6 && z 5 3) (.tmov (.join (t 23) (g 8) (g 0)))
    | 6 => onlyIf (z 23 3 && z 17 3 && z 1 7) (.tmov (.half (g 8) (t 20) (bitOf w 0)))
    | 7 => onlyIf (z 23 3 && z 0 13) (.tcmp (t 20) (.stamp (t 17)))
    | 8 => onlyIf (z 17 6 && z 0 13) (.tnow (t 23))
    | 9 => onlyIf (z 17 6 && z 8 5 && z 3 5) (.tpos (t 23) (Fin.ofNat 8 k))
    | _ => none
  | 0x07 =>
    match bitsOf w 13 4 with
    | 0 => onlyIf (z 17 3 && z 0 13) (.tadd (t 23) (t 20) (.imm32 ext))
    | 2 => onlyIf (z 17 3 && z 0 13) (.tsub (.imm32 (t 23) (t 20) ext))
    | 7 => onlyIf (z 23 3 && z 17 3 && z 0 13) (.tcmp (t 20) (.imm32 ext))
    | _ => none
  | 0x08 => some (.ldw (g 21) (g 16) off)
  | 0x09 => some (.ldh (g 21) (g 16) off)
  | 0x0A => some (.ldb (g 21) (g 16) off)
  | 0x0B => some (.stw (g 21) (g 16) off)
  | 0x0C => some (.sth (g 21) (g 16) off)
  | 0x0D => some (.stb (g 21) (g 16) off)
  | 0x0E => onlyIf (z 21 2) (.ldt (t 23) (g 16) off)
  | 0x0F => onlyIf (z 21 2) (.stt (t 23) (g 16) off)
  | 0x10 => onlyIf (z 15 1 && z 0 14) (.ldc (g 21) (g 16) (bitOf w 14) ext)
  | 0x11 => onlyIf (z 15 1 && z 0 14) (.stc (g 21) (g 16) (bitOf w 14) ext)
  | 0x12 => onlyIf (z 16 6 && decide (bitsOf w 22 4 ≠ 15)) (.br (Fin.ofNat 15 (bitsOf w 22 4)) off)
  | 0x13 => onlyIf (z 21 5) (.jmp (g 16) off)
  | 0x14 => onlyIf (z 21 5) (.call (g 16) off)
  | 0x15 => onlyIf (z 0 26) .ret
  | 0x16 => onlyIf (z 0 26) .halt
  | 0x17 => onlyIf (z 0 26) .yield
  | 0x18 => onlyIf (z 0 18) (.waitt (g 21) (t 18))
  | 0x19 => onlyIf (z 0 13 && decide (bitsOf w 13 2 ≠ 3)) (.waitp (g 21) (t 18) (t 15) (Fin.ofNat 3 (bitsOf w 13 2)))
  | 0x1A => onlyIf (z 16 5) (.waite (g 21) off)
  | 0x1B => onlyIf (z 0 16) (.waits (g 21) (g 16))
  | 0x1C => onlyIf (z 2 19) (.rwait (g 21) (Fin.ofNat 4 w))
  | 0x1D => onlyIf (z 21 5 && z 2 14) (.rpop (g 16) (Fin.ofNat 4 w))
  | 0x1E => onlyIf (z 21 5 && z 2 14) (.rpush (g 16) (Fin.ofNat 4 w))
  | 0x20 => onlyIf (z 22 1 && z 14 5 && z 10 3) (.launch (t 23) action ch (g 5) (g 0))
  | 0x21 => onlyIf (z 22 1 && decide (bitsOf w 17 2 ≠ 3) && z 10 4) (.launchp (t 23) action dir (t 14) (g 5) (g 0))
  | 0x22 =>
    if bitOf w 12 then onlyIf (z 17 6 && z 13 1 && z 10 2) (.amendPosition (t 23) (t 14) (g 5) (g 0))
    else onlyIf (z 14 9 && z 10 2) (.amendTime (t 23) ch (g 5) (g 0))
  | 0x23 => onlyIf (z 14 12 && z 10 2) (.cancel (bitOf w 12) ch (g 5) (g 0))
  | 0x24 => onlyIf (z 21 5 && z 14 5 && z 10 3 && z 0 5) (.capt (Fin.ofNat 4 (bitsOf w 19 2)) ch (g 5))
  | 0x25 =>
    if z 21 5 && z 13 1 && z 0 8 then
      match bitsOf w 14 2 with
      | 0 => some (.pset (g 16) (g 8))
      | 1 => some (.pclr (g 16) (g 8))
      | 2 => some (.ptgl (g 16) (g 8))
      | _ => none
    else none
  | 0x26 => onlyIf (z 17 5 && z 5 2 && (!bitOf w 22 || z 23 3)) (.pfunc (t 23) (bitOf w 22) (g 12) (g 7) (g 0))
  | 0x27 => onlyIf (z 10 13) (.sample (t 23) (g 5) (g 0))
  | 0x28 => onlyIf (z 0 16) (.cfgr (g 21) (g 16) ext)
  | 0x29 => onlyIf (z 0 16) (.cfgw (g 21) (g 16) ext)
  | 0x2A => onlyIf (z 21 2 && z 0 16) (.cfga (t 23) (g 16) ext)
  | 0x2B => onlyIf (z 21 1 && z 0 11) (.zswap (t 23) (bitOf w 22) (g 16) (g 11))
  | 0x2C => onlyIf (z 21 5 && z 0 16) (.zload (g 16) ext)
  | 0x2D => onlyIf (z 13 13 && z 5 2 && tgtOk) (.sig tgt (g 0))
  | 0x30 => onlyIf (z 22 1 && z 14 5 && z 10 3) (.xlaunch (t 23) action ch (g 5) (g 0))
  | 0x31 => onlyIf (z 21 5 && z 13 3 && z 5 2 && tgtOk) (.xsig (g 16) tgt (g 0))
  | 0x32 => onlyIf (z 4 17) (.barrier (g 21) (Fin.ofNat 16 w))
  | 0x33 => onlyIf (z 21 2 && z 0 11) (.xtime (t 23) (g 16) (g 11))
  | 0x38 => onlyIf (z 0 16) (.own (g 21) (g 16) ext)
  | 0x39 => onlyIf (z 21 5 && z 0 14) (.srst (Fin.ofNat 4 (bitsOf w 14 2)) (g 16) ext)
  | 0x3A => onlyIf (z 21 5 && z 0 16) (.errpop (g 16))
  | 0x3B => onlyIf (z 0 26) .safe
  | 0x3C => onlyIf (z 21 5 && z 0 16) (.note (g 16))
  | 0x3D => onlyIf (z 0 26) .kick
  | _ => none

/-- An instruction word: the opcode in bits 31 to 26, and values at their lowest bits (R209, R210). -/
def ursenWord (op : Nat) (fields : List (Nat × Nat)) : Word :=
  BitVec.ofNat 32 (op * 2 ^ 26 + (fields.map (fun f => f.2 * 2 ^ f.1)).sum)

/-- The arithmetic in its three operand forms (R216): opcode, function, registers, and the extension word of the last form. -/
def ursenAluWord (fn : Nat) (rd ra : Fin 32) (b : UrsenOperand) : Word × Option Word :=
  match b with
  | .reg r => (ursenWord 1 [(21, rd.val), (16, ra.val), (11, r.val), (0, fn)], none)
  | .imm12 i => (ursenWord 2 [(21, rd.val), (16, ra.val), (12, fn), (0, i.toNat)], none)
  | .imm32 i => (ursenWord 3 [(21, rd.val), (16, ra.val), (12, fn)], some i)

/-- The words of an instruction: the instruction word, and the extension word where it takes one. -/
def ursenEncode (i : UrsenInstr) : Word × Option Word :=
  let f (op : Nat) (l : List (Nat × Nat)) : Word × Option Word := (ursenWord op l, none)
  let x (op : Nat) (l : List (Nat × Nat)) (e : Word) : Word × Option Word := (ursenWord op l, some e)
  match i with
  | .add rd ra b => ursenAluWord 0 rd ra b
  | .sub rd ra b => ursenAluWord 1 rd ra b
  | .and rd ra b => ursenAluWord 2 rd ra b
  | .or rd ra b => ursenAluWord 3 rd ra b
  | .xor rd ra b => ursenAluWord 4 rd ra b
  | .shl rd ra b => ursenAluWord 5 rd ra b
  | .shr rd ra b => ursenAluWord 6 rd ra b
  | .sar rd ra b => ursenAluWord 7 rd ra b
  | .mul rd ra b => ursenAluWord 8 rd ra b
  | .mulh rd ra b => ursenAluWord 9 rd ra b
  | .cmp ra b => ursenAluWord 10 0 ra b
  | .mov rd b => ursenAluWord 11 rd 0 b
  | .movi rd imm => f 0x04 [(21, rd.val), (0, imm.toNat)]
  | .movhi rd imm => f 0x05 [(21, rd.val), (0, imm.toNat)]
  | .tadd td ta (.stamp tb) => f 0x06 [(23, td.val), (20, ta.val), (17, tb.val), (13, 0)]
  | .tadd td ta (.reg g) => f 0x06 [(23, td.val), (20, ta.val), (13, 1), (8, g.val)]
  | .tadd td ta (.imm32 e) => x 0x07 [(23, td.val), (20, ta.val), (13, 0)] e
  | .tsub (.stamp td ta tb) => f 0x06 [(23, td.val), (20, ta.val), (17, tb.val), (13, 2)]
  | .tsub (.clamp g ta tb) => f 0x06 [(20, ta.val), (17, tb.val), (13, 3), (8, g.val)]
  | .tsub (.imm32 td ta e) => x 0x07 [(23, td.val), (20, ta.val), (13, 2)] e
  | .tmov (.stamp td ta) => f 0x06 [(23, td.val), (20, ta.val), (13, 4)]
  | .tmov (.join td g k) => f 0x06 [(23, td.val), (13, 5), (8, g.val), (0, k.val)]
  | .tmov (.half g ta high) => f 0x06 [(20, ta.val), (13, 6), (8, g.val), (0, b2n high)]
  | .tcmp ta (.stamp tb) => f 0x06 [(20, ta.val), (17, tb.val), (13, 7)]
  | .tcmp ta (.imm32 e) => x 0x07 [(20, ta.val), (13, 7)] e
  | .tnow td => f 0x06 [(23, td.val), (13, 8)]
  | .tpos td mt => f 0x06 [(23, td.val), (13, 9), (0, mt.val)]
  | .ldw r gb off => f 0x08 [(21, r.val), (16, gb.val), (0, off.toNat)]
  | .ldh r gb off => f 0x09 [(21, r.val), (16, gb.val), (0, off.toNat)]
  | .ldb r gb off => f 0x0A [(21, r.val), (16, gb.val), (0, off.toNat)]
  | .stw r gb off => f 0x0B [(21, r.val), (16, gb.val), (0, off.toNat)]
  | .sth r gb off => f 0x0C [(21, r.val), (16, gb.val), (0, off.toNat)]
  | .stb r gb off => f 0x0D [(21, r.val), (16, gb.val), (0, off.toNat)]
  | .ldt k gb off => f 0x0E [(23, k.val), (16, gb.val), (0, off.toNat)]
  | .stt k gb off => f 0x0F [(23, k.val), (16, gb.val), (0, off.toNat)]
  | .ldc r ga item e => x 0x10 [(21, r.val), (16, ga.val), (14, b2n item)] e
  | .stc r ga item e => x 0x11 [(21, r.val), (16, ga.val), (14, b2n item)] e
  | .br cond off => f 0x12 [(22, cond.val), (0, off.toNat)]
  | .jmp ga off => f 0x13 [(16, ga.val), (0, off.toNat)]
  | .call ga off => f 0x14 [(16, ga.val), (0, off.toNat)]
  | .ret => f 0x15 []
  | .halt => f 0x16 []
  | .yield => f 0x17 []
  | .waitt gd ta => f 0x18 [(21, gd.val), (18, ta.val)]
  | .waitp gd ta mt dir => f 0x19 [(21, gd.val), (18, ta.val), (15, mt.val), (13, dir.val)]
  | .waite gd mask => f 0x1A [(21, gd.val), (0, mask.toNat)]
  | .waits gd gm => f 0x1B [(21, gd.val), (16, gm.val)]
  | .rwait gd port => f 0x1C [(21, gd.val), (0, port.val)]
  | .rpop gm port => f 0x1D [(16, gm.val), (0, port.val)]
  | .rpush gm port => f 0x1E [(16, gm.val), (0, port.val)]
  | .launch ta action ch gc gv => f 0x20 [(23, ta.val), (19, action.val), (13, b2n ch), (5, gc.val), (0, gv.val)]
  | .launchp ta action dir mt gc gv =>
    f 0x21 [(23, ta.val), (19, action.val), (17, dir.val), (14, mt.val), (5, gc.val), (0, gv.val)]
  | .amendTime ta ch gc gv => f 0x22 [(23, ta.val), (13, b2n ch), (5, gc.val), (0, gv.val)]
  | .amendPosition ta mt gc gv => f 0x22 [(23, ta.val), (14, mt.val), (12, 1), (5, gc.val), (0, gv.val)]
  | .cancel all ch gc gv => f 0x23 [(13, b2n ch), (12, b2n all), (5, gc.val), (0, gv.val)]
  | .capt e ch gc => f 0x24 [(19, e.val), (13, b2n ch), (5, gc.val)]
  | .pset gm port => f 0x25 [(16, gm.val), (14, 0), (8, port.val)]
  | .pclr gm port => f 0x25 [(16, gm.val), (14, 1), (8, port.val)]
  | .ptgl gm port => f 0x25 [(16, gm.val), (14, 2), (8, port.val)]
  | .pfunc ta na pin port gf => f 0x26 [(23, ta.val), (22, b2n na), (12, pin.val), (7, port.val), (0, gf.val)]
  | .sample ta gc gv => f 0x27 [(23, ta.val), (5, gc.val), (0, gv.val)]
  | .cfgr r ga e => x 0x28 [(21, r.val), (16, ga.val)] e
  | .cfgw r ga e => x 0x29 [(21, r.val), (16, ga.val)] e
  | .cfga ta ga e => x 0x2A [(23, ta.val), (16, ga.val)] e
  | .zswap ta all gh gl => f 0x2B [(23, ta.val), (22, b2n all), (16, gh.val), (11, gl.val)]
  | .zload ga e => x 0x2C [(16, ga.val)] e
  | .sig tgt bit => f 0x2D [(7, tgt.val), (0, bit.val)]
  | .xlaunch ta action ch gc gv => f 0x30 [(23, ta.val), (19, action.val), (13, b2n ch), (5, gc.val), (0, gv.val)]
  | .xsig gc tgt bit => f 0x31 [(16, gc.val), (7, tgt.val), (0, bit.val)]
  | .barrier gd k => f 0x32 [(21, gd.val), (0, k.val)]
  | .xtime td gs gd => f 0x33 [(23, td.val), (16, gs.val), (11, gd.val)]
  | .own gs ga e => x 0x38 [(21, gs.val), (16, ga.val)] e
  | .srst m ga e => x 0x39 [(16, ga.val), (14, m.val)] e
  | .errpop g => f 0x3A [(16, g.val)]
  | .safe => f 0x3B []
  | .note g => f 0x3C [(16, g.val)]
  | .kick => f 0x3D []

/-- An instruction that the encodings can spell: PFUNC with na set holds 0 in its Ta field (R234). -/
def UrsenInstr.spelled (i : UrsenInstr) : Bool :=
  match i with
  | .pfunc ta na _ _ _ => !na || decide (ta = 0)
  | _ => true

/-- ILLEGAL_INSTRUCTION (R210): a word that is no instruction faults before any effect. -/
def execIllegalInstruction (q : Fin 33) (word : Word) (s : State) : Host.Outcome State Fault Refusal :=
  if (ursenDecode word 0).isSome then .next s else .next (s.issue q.val 4 (fun s => s.seqFault q.val 0x0701))

/-- What SEC-DED finds, where only the outside knows: a free value (R328). -/
def State.freeEcc (s : State) : Ecc × State :=
  let (f, s) := s.freeNat
  (match f % 3 with
    | 0 => .clean
    | 1 => .corrected
    | _ => .uncorrected, s)

/-- Run a decoded instruction on sequencer `q`, as STEP does: what SEC-DED finds is a free value. -/
def ursenRun (q : Fin 33) (i : UrsenInstr) (s : State) : Host.Outcome State Fault Refusal :=
  match i with
  | .add rd ra b => execAdd q rd ra b s
  | .sub rd ra b => execSub q rd ra b s
  | .and rd ra b => execAnd q rd ra b s
  | .or rd ra b => execOr q rd ra b s
  | .xor rd ra b => execXor q rd ra b s
  | .shl rd ra b => execShl q rd ra b s
  | .shr rd ra b => execShr q rd ra b s
  | .sar rd ra b => execSar q rd ra b s
  | .mul rd ra b => execMul q rd ra b s
  | .mulh rd ra b => execMulh q rd ra b s
  | .cmp ra b => execCmp q ra b s
  | .mov rd b => execMov q rd b s
  | .movi rd imm => execMovi q rd imm s
  | .movhi rd imm => execMovhi q rd imm s
  | .tadd td ta b => execTadd q td ta b s
  | .tsub f => execTsub q f s
  | .tmov f => execTmov q f s
  | .tcmp ta b => execTcmp q ta b s
  | .tnow td => execTnow q td s
  | .tpos td mt => execTpos q td mt s
  | .ldw r gb off => execLdw q r gb off s
  | .ldh r gb off => execLdh q r gb off s
  | .ldb r gb off => execLdb q r gb off s
  | .stw r gb off => execStw q r gb off s
  | .sth r gb off => execSth q r gb off s
  | .stb r gb off => execStb q r gb off s
  | .ldt t gb off => execLdt q t gb off s
  | .stt t gb off => execStt q t gb off s
  | .ldc r ga item imm => (let (e, s) := s.freeEcc; execLdc q r ga item imm e s)
  | .stc r ga item imm => execStc q r ga item imm none s
  | .br cond off => execBr q cond off s
  | .jmp ga off => execJmp q ga off s
  | .call ga off => execCall q ga off s
  | .ret => execRet q s
  | .halt => execHalt q s
  | .yield => execYield q s
  | .waitt gd ta => execWaitt q gd ta s
  | .waitp gd ta mt dir => execWaitp q gd ta mt dir s
  | .waite gd mask => execWaite q gd mask s
  | .waits gd gm => execWaits q gd gm s
  | .rwait gd port => execRwait q gd port s
  | .rpop gm port => execRpop q gm port s
  | .rpush gm port => execRpush q gm port s
  | .launch ta action chassis gc gv => execLaunch q ta action chassis gc gv s
  | .launchp ta action dir mt gc gv => execLaunchp q ta action dir mt gc gv s
  | .amendTime ta chassis gc gv => execAmendTime q ta chassis gc gv s
  | .amendPosition ta mt gc gv => execAmendPosition q ta mt gc gv s
  | .cancel all chassis gc gv => execCancel q all chassis gc gv s
  | .capt e chassis gc => execCapt q e chassis gc s
  | .pset gm port => execPset q gm port s
  | .pclr gm port => execPclr q gm port s
  | .ptgl gm port => execPtgl q gm port s
  | .pfunc ta na pin port gf => execPfunc q ta na pin port gf s
  | .sample ta gc gv => execSample q ta gc gv s
  | .cfgr r ga imm => execCfgr q r ga imm s
  | .cfgw r ga imm => execCfgw q r ga imm s
  | .cfga ta ga imm => execCfga q ta ga imm s
  | .zswap ta x gh gl => execZswap q ta x gh gl s
  | .zload ga imm => execZload q ga imm s
  | .sig tgt bit => execSig q tgt bit s
  | .xlaunch ta action chassis gc gv => execXlaunch q ta action chassis gc gv s
  | .xsig gc tgt bit => execXsig q gc tgt bit s
  | .barrier gd k => execBarrier q gd k s
  | .xtime td gs gd => execXtime q td gs gd s
  | .own gs ga imm => execOwn q gs ga imm s
  | .srst m ga imm => execSrst q m ga imm s
  | .errpop g => execErrpop q g s
  | .safe => execSafe q s
  | .note g => execNote q g s
  | .kick => execKick q s

/-- The instruction at PC, as STEP runs it. -/
def State.fetched (s : State) (q : Fin 33) : Option UrsenInstr :=
  let x := s.seq q.val
  let a := x.pc.toNat
  ursenDecode (BitVec.ofNat 32 (leNat (readBytes x.imem a 4))) (BitVec.ofNat 32 (leNat (readBytes x.imem (a + 4) 4)))

/-- The instruction sets PC itself, so that it may stay where it is. -/
def UrsenInstr.jumps : UrsenInstr → Bool
  | .br .. => true
  | .call .. => true
  | .ret => true
  | .jmp .. => true
  | _ => false

/-- STEP from HALTED (R182): one instruction, then HALTED again; a wait ends at once with TIMEOUT. An instruction that must wait
for a slot or for earlier items (R187, R188, R222) leaves the sequencer RUNNING until it has been executed (log entry 46). -/
def State.seqStep (s : State) (q : Fin 33) : State :=
  if (s.seq q.val).st ≠ .halted then s
  else
    let s := s.mapSeq q.val (fun x => { x with st := .running, stepping := true, runStart := s.tickNo })
    match s.fetched q with
    | none => s.seqFault q.val 0x0701
    | some i =>
      match ursenRun q i s with
      | .next t => if (t.seq q.val).stepping && i.jumps then t.mapSeq q.val Seq.stepped else t
      | _ => s

end Sys2Proof.Machine
end

