-- ==== Sys2Proof/Machine/HostPort.lean ====
section
/-! DEFINITION. How commands come in and completions go out: the PCIe function, the front page, the command queue, the control
port: R446 to R456, R461 to R466, R479. -/

namespace Sys2Proof.Machine

open Sys2Proof.F

/-! ### Commands and completions (R452, R453, R455, R456) -/

/-- The command that a 32-byte header spells, with its attached data. -/
def cmdOf (t peer : Nat) (h data : List Byte) : HostCmd where
  transport := t
  peer := peer
  op := pieceNum h 0 2
  tag := pieceNum h 2 2
  flags := pieceNum h 4 1
  odd := decide (pieceNum h 5 3 ≠ 0)
  addr := pieceNum h 8 8
  len := pieceNum h 16 4
  arg0 := pieceNum h 20 4
  arg1 := pieceNum h 24 4
  arg2 := pieceNum h 28 4
  data := data

def HostCmd.dspace (c : HostCmd) : Bool := bitOf c.flags 0

def HostCmd.quiet (c : HostCmd) : Bool := bitOf c.flags 1

/-- The long commands (R454). -/
def longOp (op : Nat) : Bool := [0x30, 0x31, 0x32, 0x40, 0x41, 0x42].contains op

/-- A command arrives: its session's idle time begins anew (R472), it wakes the part from RETAIN (R504), and it joins its
lane. -/
def State.cmdIn (s : State) (c : HostCmd) : State :=
  let s := (s.sessUse c.transport c.peer).wakeRetain 4
  s.mapHost (fun h => if longOp c.op then { h with long := h.long ++ [c] } else { h with quick := h.quick ++ [c] })

/-- The 16 bytes of a completion. -/
def HostCmd.completion (c : HostCmd) (status info outLen : Nat) (phase : Bool) : List Byte :=
  leBytes 2 c.tag ++ leBytes 1 status ++ leBytes 1 (b2n phase) ++ leBytes 4 info ++ leBytes 4 outLen ++ leBytes 4 0

/-- Entries of the queues: 0 and 1 act as 2. -/
def State.cqSize (s : State) : Nat := max 2 (s.fld FP_QCFG_SIZE 0)

/-- Entries between a head and a tail. -/
def State.cqUsed (s : State) (head tail : Nat) : Nat := (tail + s.cqSize - head % s.cqSize) % s.cqSize

/-- Free entries of the completion ring (log entry 65). -/
def State.cpFree (s : State) : Nat := s.cqSize - s.cqUsed (s.fld FP_CPHEAD_HEAD 0) (s.fld FP_CPTAIL_TAIL 0)

/-- The PCIe queues run. -/
def State.queuesRun (s : State) : Bool := s.bit HOST_PCIE_DLUP 0 && s.bit FP_QCFG_EN 0

/-- Write a completion into the PCIe ring, and raise vector 1 (R456, R461). -/
def State.cpWrite (s : State) (c : HostCmd) (status info outLen : Nat) : State :=
  let t := s.fld FP_CPTAIL_TAIL 0
  let a := s.fld FP_CPBASE_LO_LO 0 / 16 * 16 + 2 ^ 32 * s.fld FP_CPBASE_HI_HI 0 + 16 * t
  let s : State := { s with out := s.out ++ [.pcie a (c.completion status info outLen s.hostSide.phase)] }
  let s := if t + 1 < s.cqSize then s.setFld FP_CPTAIL_TAIL 0 (t + 1)
    else (s.setFld FP_CPTAIL_TAIL 0 0).mapHost (fun h => { h with phase := !h.phase })
  s.msix 1

/-- A completion for the PCIe ring is written, or waits, behind those that wait, until the ring has room (R456). -/
def State.cpPut (s : State) (c : HostCmd) (status info outLen : Nat) : State :=
  if s.hostSide.cpWait.isEmpty && decide (2 ≤ s.cpFree) then s.cpWrite c status info outLen
  else s.mapHost (fun h => { h with cpWait := h.cpWait ++ [CpWait.mk c status info outLen] })

/-- Completions that waited are written as far as the ring has room. -/
def State.cpFlushGo : List CpWait → State → State
  | [], s => s.mapHost (fun h => { h with cpWait := [] })
  | w :: t, s =>
    if 2 ≤ s.cpFree then State.cpFlushGo t (s.cpWrite w.cmd w.status w.info w.len)
    else s.mapHost (fun h => { h with cpWait := w :: t })

def State.cpFlush (s : State) : State := if s.queuesRun then State.cpFlushGo s.hostSide.cpWait s else s

/-- A message goes out in SESSION frames of at most 256 bytes (R418, log entry 64); `n` bounds them. -/
def State.sendPieces (dev : Nat) : Nat → List Byte → State → State
  | 0, _, s => s
  | n + 1, l, s => if l.isEmpty then s else State.sendPieces dev n (l.drop 256) (s.sendTo dev 0x0E (l.take 256))

/-- A response joins the control port's queue (R463, R465). -/
def State.respond (s : State) (r : List Byte) : State :=
  (s.mapHost (fun h => { h with responses := h.responses ++ [r] })).blink

/-- A command ends: its output, of at most LEN bytes, and its completion (R453); SESSION frames carry a remote one (R472,
log entry 64). -/
def State.complete (s : State) (c : HostCmd) (status info : Nat) (out : List Byte) : State :=
  let out := out.take c.len
  match c.transport with
  | 0 => if c.quiet && decide (status = 0) then s else s.respond (c.completion status info out.length false ++ out)
  | 1 =>
    if !s.queuesRun then s
    else
      let s := if out.isEmpty then s
        else if c.dspace then s.spacePut (.command 1) (c.addr % 2 ^ 32) out
        else { s with out := s.out ++ [.pcie c.addr out] }
      if c.quiet && decide (status = 0) then s else s.cpPut c status info out.length
  | _ =>
    if c.quiet && decide (status = 0) then s
    else State.sendPieces c.peer 17 (c.completion status info out.length false ++ out) s

/-- The supervisor reads command entries while it runs and two completion entries are free (R456, R489): `entries` is what
host memory holds from CQHEAD on. -/
def State.fetchCmds : List (BitVec 256) → State → State
  | [], s => s
  | h :: t, s =>
    let hd := s.fld FP_CQHEAD_HEAD 0
    if s.queuesRun && s.ready 0 && decide (hd ≠ s.fld FP_CQTAIL_TAIL 0) && decide (2 ≤ s.cpFree) then
      let s := s.setFld FP_CQHEAD_HEAD 0 (if hd + 1 < s.cqSize then hd + 1 else 0)
      State.fetchCmds t (s.cmdIn (cmdOf 1 0 (leBytes 32 h.toNat) []))
    else s

/-! ### The front page (R448 to R451, R479) -/

/-- The record of an access without the privilege (R448). -/
def State.barRefused (s : State) (off rid : Nat) : State := s.raise 0x0B01 hostSrc [off, rid]

/-- FP.STATUS. -/
def State.fpStatus (s : State) : Nat :=
  2 ^ 16 * s.sessPriv 1 0 + 2 ^ 15 * b2n (decide (0 < s.lockLeft 1)) + 2 ^ 14 * b2n (s.session 1 0).isSome +
    2 ^ 13 * b2n s.recovery + 2 ^ 12 * b2n (s.bit SUP_BOOT_CFGERR 0) + 2 ^ 10 * s.plevel + 2 ^ 9 * b2n s.pcNoteOvf +
    2 ^ 4 * s.pcNotes.length

/-- A read of FP.NOTE (R464, R479): the note it returns leaves the queue, and the overflow clears. -/
def State.fpNote (s : State) : Nat × State :=
  match s.pcNotes with
  | [] => (0, { s with pcNoteOvf := false })
  | n :: rest => (2 ^ 8 + n, { s with pcNotes := rest, pcNoteOvf := false })

/-- The word of BAR 0 at an offset, and what its read does; reserved offsets read 0. -/
def State.fpRead (s : State) (off : Nat) : Nat × State :=
  if off = 0x04 then (s.fld SUP_READY_READY 0, s)
  else if off = 0x08 then (s.fpStatus, s)
  else if off = 0x0C then s.fpNote
  else if off < 0x1000 then (s.fieldWord .fp 0 off false, s)
  else if off < 0x1400 then (s.fieldWord .dma ((off - 0x1000) / 0x100) (off % 0x100) false, s)
  else if 0x80000 ≤ off ∧ off < 0x80200 then
    let i := (off - 0x80000) / 4
    (if i % 4 = 3 then b2n (bitOf s.msixMask (i / 4)) else storeGet 0 s.hostSide.msixTable i, s)
  else if off = 0x81000 then (s.msixPend, s)
  else (0, s)

/-- Read bytes of BAR 0, word by word. -/
def State.fpReads : Nat → Nat → Nat → State → List Byte × State
  | 0, _, _, s => ([], s)
  | fuel + 1, off, n, s =>
    if n = 0 then ([], s)
    else
      let k := min n (4 - off % 4)
      let (v, s) := s.fpRead (off / 4 * 4)
      let (rest, s) := State.fpReads fuel (off + k) (n - k) s
      (((leBytes 4 v).drop (off % 4)).take k ++ rest, s)

/-- A vector is unmasked: a pending one is sent (R461). -/
def State.unmask (s : State) (v : Nat) : State :=
  let s : State := { s with msixMask := withoutBit s.msixMask v }
  if bitOf s.msixPend v then { s with msixPend := withoutBit s.msixPend v }.msix v else s

/-- A write into the MSI-X table. -/
def State.msixWrite (s : State) (i v : Nat) : State :=
  if i % 4 ≠ 3 then s.mapHost (fun h => { h with msixTable := storeSet 0 h.msixTable i v })
  else if bitOf v 0 then { s with msixMask := withBit s.msixMask (i / 4) }
  else s.unmask (i / 4)

/-- Doorbell `n` rings (R451, R194). -/
def State.ring (s : State) (n : Nat) : State := (List.range 33).foldl (fun s q => s.pendVectors q 5 n) s

/-! ### DMA registers (R457, R458) -/

def dmaSrc (d : Nat) : Nat := srcOf 18 d

/-- Why setting EN of an engine is refused (R457): 1 the ring names another agent, 2 HLEN is 0. -/
def State.dmaRefused (s : State) (d : Nat) : Option Nat :=
  let m := s.fld DMA_CTRL_MODE d
  let r := s.fld DMA_CTRL_RING d
  let named := if m = 0 then s.fld RING_CTRL_CONS r else s.fld RING_CTRL_PROD r
  if 2 ≤ m then none
  else if named ≠ agent 8 d then some 1
  else if s.fld DMA_HLEN_ITEMS d = 0 then some 2
  else none

/-- EN of an engine has been set (R457, R458). -/
def State.dmaStart (s : State) (d : Nat) : State :=
  match s.dmaRefused d with
  | some r => (s.setBit DMA_CTRL_EN d false).raise 0x0B07 (dmaSrc d) [d, r]
  | none =>
    ((s.setBit DMA_CTRL_ERR d false).setBit DMA_CTRL_DONE d false).mapHost (fun h => { h with dma := storeErase h.dma d })

/-- A host write to a DMA register. The pointer that the engine owns is refused (R457). -/
def State.dmaWrite (s : State) (d off v : Nat) : State :=
  let m := s.fld DMA_CTRL_MODE d
  if (off = 0x10 ∧ m = 0) ∨ (off = 0x14 ∧ m = 1) then s.raise 0x0B07 (dmaSrc d) [d, 3]
  else
    let was := s.bit DMA_CTRL_EN d
    let s := s.classWrite (agent 9 1) .dma d off v (fun _ _ => false)
    if off = 0 ∧ was = false ∧ s.bit DMA_CTRL_EN d = true then s.dmaStart d else s

/-- A write of a front-page word that has the privilege for it; `entries` is the command queue in host memory. -/
def State.fpTake (s : State) (rid off v : Nat) (entries : List (BitVec 256)) : State :=
  if off = 0x10 then s.ring (v % 1024)
  else if off = 0x14 then
    if bitOf (s.sessPriv 1 0) 3 then
      (if s.hostQ then s.setFld FLASH_QHEAD_HEAD 0 (v % 128) else s)
    else s.barRefused off rid
  else if off < 0x1000 then
    if regExists .fp off then State.fetchCmds entries (s.classWrite (agent 9 1) .fp 0 off v (fun _ _ => false)).cpFlush
    else s.raise 0x0B02 hostSrc [1, off]
  else if off < 0x1400 ∧ regExists .dma (off % 0x100) = true then s.dmaWrite ((off - 0x1000) / 0x100) (off % 0x100) v
  else s.raise 0x0B02 hostSrc [1, off]

/-- A host write of a front-page word (R448, R450, R472, R504). -/
def State.fpWrite (s : State) (rid off v : Nat) (entries : List (BitVec 256)) : State :=
  let s := (s.sessUse 1 0).wakeRetain 3
  if 0x80000 ≤ off ∧ off < 0x80200 then s.msixWrite ((off - 0x80000) / 4) v
  else if 0x81000 ≤ off ∧ off < 0x81008 then s
  else if !bitOf (s.sessPriv 1 0) 1 then s.barRefused off rid
  else s.fpTake rid off v entries

/-- Write bytes of BAR 0, word by word; bytes that a word's write leaves out stand as they read (log entry 66). -/
def State.fpWrites (rid : Nat) : Nat → Nat → List Byte → State → State
  | 0, _, _, s => s
  | fuel + 1, off, bs, s =>
    if bs.isEmpty then s
    else
      let k := min bs.length (4 - off % 4)
      let a := off / 4 * 4
      let old := if k = 4 ∨ a = 0x0C then leBytes 4 0 else leBytes 4 (s.fpRead a).1
      let w := leNat (old.take (off % 4) ++ bs.take k ++ old.drop (off % 4 + k))
      State.fpWrites rid fuel (off + k) (bs.drop k) (s.fpWrite rid a w [])

/-! ### BARs (R447 to R450) -/

/-- Data-space address of a BAR's offset. -/
def barAddr (bar off : Nat) : Nat := if bar = 1 then off % 2 ^ 26 else 0x10000000 + off % 2 ^ 24

/-- BAR 4 reads 0 under the recovery loader (R466). -/
def State.barShut (s : State) (bar : Nat) : Bool := s.recovery && decide (bar = 2)

/-- BAR_READ (R447, R448, R450): `bar` 0, 1 or 2 is BAR 0, 2 or 4. An access to the Caldera waits until it is clear. -/
def execBarRead (rid : Half) (bar : Fin 3) (offset : BitVec 26) (len : BitVec 13) (s : State) :
    Host.Outcome State Fault Refusal :=
  let n := min 4096 len.toNat
  let o := offset.toNat
  if s.bit HOST_PCIE_DLUP 0 = false then .next s
  else if bar = 0 then
    let (bs, s) := State.fpReads (n / 4 + 2) (o % 2 ^ 20) n s
    .next { s with out := s.out ++ [.bar bs] }
  else
    let a := barAddr bar.val o
    let t := s.sessUse 1 0
    if !bitOf (t.sessPriv 1 0) 0 then
      let t := t.barRefused o rid.toNat
      .next { t with out := t.out ++ [.bar (List.replicate n 0)] }
    else if t.barShut bar.val then .next { t with out := t.out ++ [.bar (List.replicate n 0)] }
    else if !t.pieceOpen a (max 1 n) then .next s
    else
      let (bs, t) := t.spaceBytes .bar a n
      .next { t with out := t.out ++ [.bar bs] }

/-- BAR_WRITE (R447, R448, R450). -/
def execBarWrite (rid : Half) (bar : Fin 3) (offset : BitVec 26) (data : List Byte) (s : State) :
    Host.Outcome State Fault Refusal :=
  let o := offset.toNat
  if s.bit HOST_PCIE_DLUP 0 = false then .next s
  else if bar = 0 then .next (State.fpWrites rid.toNat (data.length / 4 + 2) (o % 2 ^ 20) data s)
  else
    let a := barAddr bar.val o
    let t := s.sessUse 1 0
    if !bitOf (t.sessPriv 1 0) 1 then .next (t.barRefused o rid.toNat)
    else if t.barShut bar.val then .next t
    else if !t.pieceOpen a (max 1 data.length) then .next s
    else .next (t.spacePut .bar a data)

/-- A front-page write reaches the part while the link is up. -/
def State.fpEvent (s : State) (rid : Half) (off : Nat) (v : Word) (entries : List (BitVec 256)) : State :=
  if s.bit HOST_PCIE_DLUP 0 then s.fpWrite rid.toNat off v.toNat entries else s

/-- DOORBELL (R451). -/
def execDoorbell (rid : Half) (v : Word) (s : State) : Host.Outcome State Fault Refusal := .next (s.fpEvent rid 0x10 v [])

/-- FLASHDB (R451). -/
def execFlashdb (rid : Half) (v : Word) (s : State) : Host.Outcome State Fault Refusal := .next (s.fpEvent rid 0x14 v [])

/-- QUEUE_EN (R456): a write of FP.QCFG. -/
def execQueueEn (rid : Half) (v : Word) (entries : List (BitVec 256)) (s : State) : Host.Outcome State Fault Refusal :=
  .next (s.fpEvent rid 0x30 v entries)

/-- CQTAIL (R456): new commands become visible. -/
def execCqtail (rid : Half) (v : Word) (entries : List (BitVec 256)) (s : State) : Host.Outcome State Fault Refusal :=
  .next (s.fpEvent rid 0x34 v entries)

/-- CPHEAD (R456): completion entries are freed. -/
def execCphead (rid : Half) (v : Word) (entries : List (BitVec 256)) (s : State) : Host.Outcome State Fault Refusal :=
  .next (s.fpEvent rid 0x3C v entries)

/-- FP_NOTE (R479): a read of FP.NOTE. -/
def execFpNote (s : State) : Host.Outcome State Fault Refusal :=
  if s.bit HOST_PCIE_DLUP 0 then
    let (v, s) := s.fpNote
    .next { s with out := s.out ++ [.bar (leBytes 4 v)] }
  else .next s

/-- MSIX_UNMASK (R461). -/
def execMsixUnmask (vec : Fin 32) (s : State) : Host.Outcome State Fault Refusal :=
  if s.bit HOST_PCIE_DLUP 0 then .next (s.unmask vec.val) else .next s

/-! ### The link (R446, R449, R516) -/

/-- The identity that the endpoint's configuration header shows (R446): vendor, device, revision, class code, and the subsystem
IDs of HOST.PCIEID. -/
def State.pcieIdentity (s : State) : List Nat :=
  [0x1EA7, 0x1024, 0xB1, 0x118000, s.fld HOST_PCIEID_SSVID 0, s.fld HOST_PCIEID_SSID 0]

/-- PERST_RISE (R449). -/
def execPerstRise (s : State) : Host.Outcome State Fault Refusal :=
  .next (s.setBit HOST_PCIE_PERST 0 false)

/-- DATA_LINK_UP (R449, R482, R529): `width` 1, 2, 4 or 8 lanes, `speed` code 1 to 4. -/
def execDataLinkUp (width speed : Fin 4) (s : State) : Host.Outcome State Fault Refusal :=
  if s.bit HOST_PCIE_PERST 0 || decide (s.modePins % 2 = 1) || s.vserLost || s.vserhLost ||
    decide (3 ≤ s.fld SUP_PWR_STATE 0) || s.bit HOST_PCIE_DLUP 0 then
    .next s
  else
    .next ((((s.setBit HOST_PCIE_DLUP 0 true).setFld HOST_PCIE_WIDTH 0 (2 ^ width.val)).setFld HOST_PCIE_SPEED 0
      (speed.val + 1)).setReady 7 true)

/-- Every front-page register returns to its reset value: front page, DMA engines, MSI-X table and pending bits. -/
def State.fpReset (s : State) : State :=
  let s : State := { s with
    regs := s.regs.filter (fun c => decide (c.1 < cfgBase .fp 0 * 32)), msixMask := 2 ^ 32 - 1, msixPend := 0 }
  s.mapHost (fun h => { h with phase := true, msixTable := [], dma := [], cpWait := [] })

/-- The endpoint stops (R449); `cause` 1 PCIE_PERST_N, 2 link lost. -/
def State.pcieDown (s : State) (cause : Nat) : State :=
  let s := s.fpReset
  let s := match s.session 1 0 with
    | some k => s.sessClose k
    | none => s
  let s := s.mapHost (fun h => { h with
    quick := h.quick.filter (fun c => decide (c.transport ≠ 1)), long := h.long.filter (fun c => decide (c.transport ≠ 1)) })
  let s : State := { s with pcNotes := [], pcNoteOvf := false }
  let s := ((s.setBit HOST_PCIE_DLUP 0 false).setFld HOST_PCIE_WIDTH 0 0).setFld HOST_PCIE_SPEED 0 0
  (s.setReady 7 false).raise 0x0B0A hostSrc [cause]

/-- PERST_ASSERT (R449). -/
def execPerstAssert (linkLost : Bool) (s : State) : Host.Outcome State Fault Refusal :=
  if linkLost then (if s.bit HOST_PCIE_DLUP 0 then .next (s.pcieDown 2) else .next s)
  else if s.bit HOST_PCIE_PERST 0 then .next s
  else .next ((s.setBit HOST_PCIE_PERST 0 true).pcieDown 1)

/-! ### The control port (R462 to R466) -/

/-- The status byte (R464). -/
def State.cpStatus (s : State) : Nat :=
  128 * b2n (!s.hostSide.responses.isEmpty) + 64 * b2n (!s.cpNotes.isEmpty) + 32 * b2n s.hostSide.reject +
    16 * b2n (s.session 0 0).isSome + 8 * b2n (decide (0 < s.lockLeft 0)) + 4 * b2n (s.bit SUP_BOOT_CFGERR 0) +
    2 * b2n s.recovery

/-- A frame begins (R463, R465): the port answers once SUP.READY bit 1 is set. A frame that begins while HRDY is low for busy is
ignored and counted, and the device drives nothing. What was due of a blink before it is over; nothing is due where the frame has
taken what came. -/
def State.cpFrame (s : State) (quad : Bool) (f : State → State) : State :=
  if !s.hrdy then s
  else if s.tickNo < s.hostSide.busyEnd then s.bump HOST_CP_REJECTS 0
  else
    let s := f (s.blinkCatch.setBit HOST_CP_QUAD 0 quad)
    if s.cpNotes.isEmpty && s.hostSide.responses.isEmpty then s.mapHost (fun h => { h with blinkDue := false }) else s

/-- HRDY is low for busy at the end of a SEND, for at most 20 µs, a free value (R465). -/
def State.portBusy (s : State) : State :=
  let (f, s) := s.freeNat
  s.mapHost (fun h => { h with busyEnd := s.tickNo + 1 + f % 25000 })

/-- Send on the control port what a frame's device part holds, after the status byte, with its CRC. -/
def State.cpSend (s : State) (body : List Byte) : State :=
  let l := leBytes 1 s.cpStatus ++ body
  { s with out := s.out ++ [.port (l ++ leBytes 4 (crc32c l))] }

/-- NOTE of a STATUS frame: the oldest note; none waiting, a free value. -/
def State.cpNote (s : State) : Nat × State :=
  match s.cpNotes with
  | n :: _ => (n, s)
  | [] =>
    let (f, s) := s.freeNat
    (f % 256, s)

/-- STATUS (R463, R464): `whole` says that CS_N rises after the last byte, and only then the note leaves. -/
def execStatus (quad whole : Bool) (s : State) : Host.Outcome State Fault Refusal :=
  .next (s.cpFrame quad (fun s =>
    let (n, s) := s.cpNote
    let rest := s.cpNotes.drop 1
    let s := s.cpSend (leBytes 1 n ++ leBytes 1 (128 * b2n s.cpNoteOvf + rest.length))
    if whole then { s with cpNotes := rest, cpNoteOvf := false }.mapHost (fun h => { h with lastNote := leBytes 1 n }) else s))

/-- RESTATUS (R463): the last note again. -/
def execRestatus (quad : Bool) (s : State) : Host.Outcome State Fault Refusal :=
  .next (s.cpFrame quad (fun s =>
    let (n, s) := match s.hostSide.lastNote with
      | b :: _ => (b.toNat, s)
      | [] =>
        let (f, s) := s.freeNat
        (f % 256, s)
    s.cpSend (leBytes 1 n ++ leBytes 1 (128 * b2n s.cpNoteOvf + s.cpNotes.length))))

/-- FETCH (R463): the oldest response, or RLEN 0. -/
def execFetch (quad whole : Bool) (s : State) : Host.Outcome State Fault Refusal :=
  .next (s.cpFrame quad (fun s =>
    match s.hostSide.responses with
    | [] => s.cpSend (leBytes 2 0)
    | r :: rest =>
      let s := s.cpSend (leBytes 2 r.length ++ r)
      if whole then s.mapHost (fun h => { h with responses := rest, lastResp := r }) else s))

/-- REFETCH (R463): the last response again. -/
def execRefetch (quad : Bool) (s : State) : Host.Outcome State Fault Refusal :=
  .next (s.cpFrame quad (fun s => s.cpSend (leBytes 2 s.hostSide.lastResp.length ++ s.hostSide.lastResp)))

/-- OTHER_COMMAND_BYTE (R463): the frame ends and is counted. -/
def execOtherCommandByte (b : Byte) (s : State) : Host.Outcome State Fault Refusal :=
  let n := b.toNat
  if 1 ≤ n % 64 ∧ n % 64 ≤ 5 ∧ n < 128 then .next s
  else if s.hrdy && decide (s.tickNo < s.hostSide.busyEnd) then .next (s.bump HOST_CP_REJECTS 0)
  else if s.hrdy then
    let s : State := { s with out := s.out ++ [Out.port (leBytes 1 s.cpStatus)] }
    .next (s.bump HOST_CP_REJECTS 0)
  else .next s

/-- Why a SEND is rejected (R466), by the place in its list; a frame that ends early has shown neither CRC nor message. -/
def State.sendRejected (s : State) (whole : Bool) (len : Nat) (message : List Byte) (crc : Nat) : Option Nat :=
  if whole = false ∨ message.length < len then some 3
  else if len < 32 ∨ 4128 < len then some 2
  else if crc32c (leBytes 2 len ++ message.take len) ≠ crc then some 1
  else if 16 ≤ s.hostSide.responses.length then some 4
  else none

/-- SEND (R463, R465, R466). -/
def execSend (quad whole : Bool) (len : Half) (message : List Byte) (crc : Word) (s : State) :
    Host.Outcome State Fault Refusal :=
  .next (s.cpFrame quad (fun s =>
    let s : State := { s.portBusy with out := s.out ++ [.port (leBytes 1 s.cpStatus)] }
    match s.sendRejected whole len.toNat message crc.toNat with
    | some r =>
      ((s.mapHost (fun h => { h with reject := true })).bump HOST_CP_REJECTS 0).raiseFirst 0x0B09 hostSrc [r]
    | none =>
      (s.mapHost (fun h => { h with reject := false })).cmdIn
        (cmdOf 0 0 (message.take 32) ((message.take len.toNat).drop 32))))

end Sys2Proof.Machine
end

