-- ==== Sys2Proof/Machine/Dma.lean ====
section
/-! DEFINITION. The DMA engines (R457 to R460): ring bridges, copies, interrupts, and what a failed access of host memory does. -/

namespace Sys2Proof.Machine

open Sys2Proof.F

/-- DMA_EN (R457, R458): a write of DMA.CTRL. -/
def execDmaEn (rid : Half) (d : Fin 4) (v : Word) (s : State) : Host.Outcome State Fault Refusal :=
  .next (s.fpEvent rid (0x1000 + 0x100 * d.val) v [])

/-- HWPTR (R457). -/
def execHwptr (rid : Half) (d : Fin 4) (v : Word) (s : State) : Host.Outcome State Fault Refusal :=
  .next (s.fpEvent rid (0x1010 + 0x100 * d.val) v [])

/-- HRPTR (R457). -/
def execHrptr (rid : Half) (d : Fin 4) (v : Word) (s : State) : Host.Outcome State Fault Refusal :=
  .next (s.fpEvent rid (0x1014 + 0x100 * d.val) v [])

/-- Items in the host ring (R332, R457). -/
def State.hostFill (s : State) (d : Nat) : Nat :=
  let w := s.fld DMA_HWPTR_OFF d
  let r := s.fld DMA_HRPTR_OFF d
  if s.fld DMA_HWPTR_LAP d = s.fld DMA_HRPTR_LAP d then w - r else s.fld DMA_HLEN_ITEMS d - r + w

/-- Address of an item of the host ring. -/
def State.hostSlot (s : State) (d i : Nat) : Nat :=
  s.fld DMA_HBASE_LO_LO d + 2 ^ 32 * s.fld DMA_HBASE_HI_HI d + 16 * (i % max 1 (s.fld DMA_HLEN_ITEMS d))

/-- Advance a host-ring pointer by `k` items, at most a whole ring (R332). -/
def State.hostAdvance (s : State) (d : Nat) (lap off : Fld) (k : Nat) : State :=
  let n := s.fld DMA_HLEN_ITEMS d
  let o := s.fld off d + k
  if o < n then s.setFld off d o else (s.setFld off d (o - n)).setFld lap d (1 - s.fld lap d)

/-- A write into host memory. -/
def State.hostPut (s : State) (a : Nat) (bs : List Byte) : State := { s with out := s.out ++ [.pcie a bs] }

/-- The engine's pointer goes to HWB, where that is not 0 (R457). -/
def State.writeBack (s : State) (d : Nat) (lap off : Fld) : State :=
  let a := s.fld DMA_HWB_LO_LO d + 2 ^ 32 * s.fld DMA_HWB_HI_HI d
  if a = 0 then s else s.hostPut a (leBytes 4 (s.fld off d + 2 ^ 31 * s.fld lap d))

/-- The engine interrupts; its count begins anew. -/
def State.dmaSignal (s : State) (d : Nat) : State :=
  (s.msix (2 + d)).mapHost (fun h => { h with dma := storeErase h.dma d })

/-- `k` items have moved: the engine interrupts at BATCH (R460). -/
def State.dmaMoved (s : State) (d k : Nat) : State :=
  let c := storeGet {} s.hostSide.dma d
  let c : DmaCount := { moved := c.moved + k, since := if c.moved = 0 then s.tickNo else c.since }
  let s := s.mapHost (fun h => { h with dma := storeSet {} h.dma d c })
  let b := s.fld DMA_IRQ_BATCH d
  if b ≠ 0 ∧ b ≤ c.moved then s.dmaSignal d else s

/-- An access of host memory fails (R459). -/
def State.dmaFail (s : State) (d : Nat) (a : Stamp) (status : Nat) : State :=
  (((s.setBit DMA_CTRL_EN d false).setBit DMA_CTRL_ERR d true).dmaSignal d).raise 0x0B08 (dmaSrc d) ([d] ++ two a ++ [status])

/-- Items of the Caldera ring go into host memory from host slot `o` on; the ring's read pointer stays. -/
def State.dmaOutGo (d r o : Nat) : Nat → Nat → State → State
  | 0, _, s => s
  | k + 1, i, s =>
    let a := s.ringAddr r (s.aheadOff r i)
    let (bs, s) := (s.eccRead (agent 8 d) a 16).calderaRead (agent 8 d) a 16
    State.dmaOutGo d r o k (i + 1) (s.hostPut (s.hostSlot d (o + i)) bs)

/-- Mode 0: `n` items at most, as far as both rings allow. -/
def State.dmaOut (s : State) (d n : Nat) : State :=
  let r := s.fld DMA_CTRL_RING d
  let ag := agent 8 d
  if !s.ringEn r then s.ringOff ag r
  else if !s.mayConsume ag r then s.ringNotMine ag r
  else
    let k := min n (min (s.ringFill r) (s.fld DMA_HLEN_ITEMS d - s.hostFill d))
    let k := ((List.range k).takeWhile (fun i => s.readOpen r i)).length
    if k = 0 then s
    else
      let s := State.dmaOutGo d r (s.fld DMA_HWPTR_OFF d) k 0 s
      let s := (s.hostAdvance d DMA_HWPTR_LAP DMA_HWPTR_OFF k).writeBack d DMA_HWPTR_LAP DMA_HWPTR_OFF
      (s.ringSkip r k).dmaMoved d k

/-- Items of host memory are offered to the Caldera ring; how many it took or discarded. -/
def State.dmaInGo (d r : Nat) : List (BitVec 128) → Nat → State → Nat × State
  | [], n, s => (n, s)
  | x :: t, n, s =>
    match s.ringOffer (agent 8 d) r x with
    | (s, .waits) => (n, s)
    | (s, _) => State.dmaInGo d r t (n + 1) s

/-- Mode 1: the items that host memory held at HRPTR and after it. -/
def State.dmaIn (s : State) (d n : Nat) (items : List (BitVec 128)) : State :=
  let r := s.fld DMA_CTRL_RING d
  let (k, s) := State.dmaInGo d r (items.take (min n (s.hostFill d))) 0 s
  if k = 0 then s
  else
    ((s.hostAdvance d DMA_HRPTR_LAP DMA_HRPTR_OFF k).writeBack d DMA_HRPTR_LAP DMA_HRPTR_OFF).dmaMoved d k

/-- DMA_BATCH (R457, R459, R460): `n` items set out, `items` what host memory held in mode 1, `failed` the address and the
completion status of an access that failed. Before the Caldera is clear every access waits (R325). -/
def execDmaBatch (d : Fin 4) (n : Half) (items : List (BitVec 128)) (failed : Option (Stamp × Word)) (s : State) :
    Host.Outcome State Fault Refusal :=
  let d := d.val
  if !s.bit DMA_CTRL_EN d then .next s
  else
    match failed with
    | some (a, st) => .next (s.dmaFail d a st.toNat)
    | none =>
      if !s.ready 4 then .next s
      else
        match s.fld DMA_CTRL_MODE d with
        | 0 => .next (s.dmaOut d n.toNat)
        | 1 => .next (s.dmaIn d n.toNat items)
        | _ => .next s

/-- What a mode 2 copy writes: within the Caldera; each 16 bytes beyond it are refused (R19, R458). -/
def State.dmaCopyIn (d : Nat) : Nat → List Byte → Nat → State → State
  | _, _, 0, s => s
  | a, bs, k + 1, s =>
    State.dmaCopyIn d (a + 16) (bs.drop 16) k
      (if a < calderaSize then s.spaceWrite (.dma d) a (bs.take 16) else s.reservedSpace (.dma d) (a % 2 ^ 32))

/-- DMA_COPY_DONE (R458): `data` is what host memory held at HBASE in mode 2. -/
def execDmaCopyDone (d : Fin 4) (data : List Byte) (s : State) : Host.Outcome State Fault Refusal :=
  let d := d.val
  let m := s.fld DMA_CTRL_MODE d
  let a := s.fld DMA_DADDR_ADDR d / 16 * 16
  let n := s.fld DMA_LEN_BYTES d / 16
  if !s.bit DMA_CTRL_EN d || decide (m < 2) || !s.pieceOpen a (16 * max 1 n) then .next s
  else
    let s :=
      if m = 2 then State.dmaCopyIn d a data (min n ((data.length + 15) / 16)) s
      else
        let (bs, s) := s.spaceBytes (.dma d) a (16 * n)
        s.hostPut ((s.fld DMA_HBASE_LO_LO d / 16 * 16) + 2 ^ 32 * s.fld DMA_HBASE_HI_HI d) bs
    .next ((s.setBit DMA_CTRL_EN d false).setBit DMA_CTRL_DONE d true)

/-- DMA_IRQ_TIMEOUT (R460). -/
def execDmaIrqTimeout (d : Fin 4) (s : State) : Host.Outcome State Fault Refusal :=
  let d := d.val
  let c := storeGet {} s.hostSide.dma d
  let t := s.fld DMA_IRQ_TIMEOUT d
  if s.bit DMA_CTRL_EN d && decide (s.fld DMA_CTRL_MODE d < 2) && decide (c.moved ≠ 0) && decide (t ≠ 0) then
    .next ((s.reachTick (c.since + t * usTicks)).dmaSignal d)
  else .next s

end Sys2Proof.Machine
end

