-- ==== Sys2Proof/Machine/Power.lean ====
section
/-! DEFINITION. Power-on reset, power states and wakes: R172, R400, R478, R485, R487, R502 to R508, R516. -/

namespace Sys2Proof.Machine

open Sys2Proof.F

/-! ### What a power-on reset leaves (R290, R400, R485, R487) -/

/-- What a plane pair keeps without power: its routing and the tag. -/
def Plane.unpowered (p : Plane) : Plane :=
  { data := p.data.filter (fun c => decide (128 ≤ c.1 % 512)), tag := p.tag }

/-- The zones without power. -/
def zonesUnpowered (m : Store Zone) : Store Zone :=
  m.foldl (fun acc c => storeSet {} acc c.1 { a := c.2.a.unpowered, b := c.2.b.unpowered }) []

/-- What the flash keeps without power: a page program that ran leaves its page undefined, an erase its block, and the programming
of an OTP word the word (R400, R408). -/
def State.flashUnpowered (s : State) : Flash :=
  let s := (List.range 4).foldl (fun s b =>
    let k := s.bank b
    let s := (s.openErases b).foldl (fun s g => s.eraseLost g) s
    if decide (k.op = 2) && !k.data.isEmpty then
      let p := (64 * b + k.block) * 256 + k.page
      (s.programPage p (k.data.take 512)).mapFlash (fun f => { f with wild := f.wild ++ [p] })
    else s) s
  let f := s.otpLost
  { mem := f.mem, otp := f.otp, wild := f.wild, pages := f.pages, params := f.params, burnt := f.burnt }

/-- The state of power-on reset: every register at its reset value, every memory empty. What is non-volatile stays. The
commands that wait, what has left the block and the free values used so far are the model's own. -/
def State.powerOn (s : State) : State :=
  { pending := s.pending, free := s.free + s.flash.jobs.length, out := s.out, flash := s.flashUnpowered
    flaws := s.flaws.filter (fun x => x.flash), zones := zonesUnpowered s.zones
    tap := { trst := s.tap.trst } }

/-- POWER_ON_RESET (R485, R516): power-good is lost, or PORST_N is low for 1 µs. -/
def execPowerOnReset (porst : Bool) (s : State) : Host.Outcome State Fault Refusal :=
  .next (s.powerOn.setFld SUP_RESET_CAUSE 0 (b2n porst))

/-- POWER_GOOD (R482, R529): the boot ROM starts, and the MODE pins are read; `cause` 1 says that PORST_N was the cause. -/
def execPowerGood (cause : Fin 2) (mode : Fin 4) (vctl33 : Bool) (s : State) : Host.Outcome State Fault Refusal :=
  if s.booting.isSome || s.ready 0 || decide (s.fld SUP_PWR_STATE 0 ≠ 0) then .next s
  else
    let s := (s.setFld SUP_RESET_CAUSE 0 cause.val).setBit CHASSIS_STATUS_VCTL33 0 vctl33
    .next { s with modePins := mode.val, booting := some true }

/-! ### Links and PCIe without their lanes (R417, R449, R505, R516) -/

/-- Every lane stops: links that are up go down, and none trains. How many items of a replay buffer are lost is the
outside's to say: a free value. -/
def State.lanesStop (s : State) : State :=
  (List.range 8).foldl (fun s l => s.laneStops l) s

/-- Every enabled lane that stands still trains again. -/
def State.lanesStart (s : State) : State :=
  if s.vserLost || s.vserhLost then s
  else (List.range 8).foldl (fun s l =>
    if s.bit LINK_CTRL_EN l && decide (s.fld LINK_STATUS_STATE l = 0) then s.train l else s) s

/-- The PCIe link, if it is up, is lost by a cause of R449. -/
def State.pcieLost (s : State) (cause : Nat) : State := if s.bit HOST_PCIE_DLUP 0 then s.pcieDown cause else s

/-- SERDES_SUPPLY_LOSS (R516). -/
def execSerdesSupplyLoss (vserh : Bool) (s : State) : Host.Outcome State Fault Refusal :=
  let s : State := if vserh then { s with vserhLost := true } else { s with vserLost := true }
  .next (s.lanesStop.pcieLost 2)

/-- SERDES_SUPPLY_RETURN (R516): the lanes train again; the PCIe link comes up by DATA_LINK_UP. -/
def execSerdesSupplyReturn (vserh : Bool) (s : State) : Host.Outcome State Fault Refusal :=
  let s : State := if vserh then { s with vserhLost := false } else { s with vserLost := false }
  .next (if s.asleep then s else s.lanesStart)

/-! ### Requests (R502, R503) -/

/-- Condition `c` of R503's list, counted from 1. -/
def State.powerCond (s : State) (c : Nat) : Bool :=
  match c with
  | 1 => (List.range 32).all (fun q => decide ((s.seq q).st ≠ .running)) && decide ((s.seq 32).st = .waiting)
  | 2 => (List.range 16).all (fun e => decide (s.seState e ≠ 1))
  | 3 => (List.range 4).all (fun d => !s.bit DMA_CTRL_EN d) && !s.hostSide.quick.any (fun c => c.sent) && (s.job longKey).isNone &&
      s.load.isNone && !s.loadDue && s.rebuilds.isEmpty
  | 4 => (List.range 8).all (fun n => !s.bit MT_CTRL_EN n && !s.bit MPLL_CTRL_EN n)
  | 5 => (List.range 1036).all (fun n => decide (s.sillFill n = 0) && (s.sill n).pulse.isNone)
  | _ => (List.range 4).all (fun b => decide ((s.bank b).op = 0) && (s.bank b).held.isNone) && s.flash.jobs.isEmpty

/-- How many conditions of R503 a state asks for: 2 RETAIN, 3 SLEEP, 4 STANDBY. -/
def powerConds (req : Nat) : List Nat := if req = 2 then [1, 2, 3] else if req = 3 then [1, 2, 3, 4, 5] else [1, 2, 3, 4, 5, 6]

/-- The groups of RMASK enter retention (R504). -/
def State.retainGroups (s : State) : State :=
  (List.range 8).foldl (fun s g =>
    if bitOf (s.fld SUP_PWR_RMASK 0) g && decide (s.group g = 0) then s.setGroup g 1 else s) s

/-- The groups of RMASK return to ON at a wake (R504). -/
def State.wakeGroups (s : State) : State :=
  (List.range 8).foldl (fun s g => if bitOf (s.fld SUP_PWR_RMASK 0) g then s.wakeGroup g else s) s

/-- The time base stops: the counter holds its value, the loops lose lock and the references are not judged (R505). -/
def State.timeStop (s : State) : State :=
  let t := s.time
  let kept : TimeState := {
    counter := t.counter, snap := t.snap, slewRem := t.slewRem, slewAcc := t.slewAcc, stepCnt := t.stepCnt
    stepped := t.stepped, emitted := t.emitted, trim := t.trim
    localRec := !s.bit TIME_CTRL_LOCALOFF 0 }
  (s.islandsSettle.setTime kept).iclkHalt.showRefs

/-- Entry to SLEEP (R505). -/
def State.enterSleep (s : State) : State :=
  let s := ((s.retainGroups.lanesStop.depart).pcieLost 1).timeStop
  ([5, 6, 7, 8, 9, 15].foldl (fun s k => s.setReady k false) s).setFld SUP_PWR_STATE 0 3

/-- Pin `i` of a port wakes the part (R172). -/
def State.wakeEn (s : State) (p i : Nat) : Bool :=
  decide (i = 0) && s.bit PORT_WAKE_EN0 p || decide (i = 1) && s.bit PORT_WAKE_EN1 p

/-- Register fields that the VAUX domain keeps in STANDBY (R172, R466, R478, R507), by key: the wake pins' set-up, of an enabled
one its input buffer, threshold, hysteresis and pull; the chassis wake lines, the control port and its sessions, the unique ID. -/
def State.standbyKeeps (s : State) (key : Nat) : Bool :=
  match cfgDecode (key / 32) with
  | some (.port, p, off) =>
    decide (off = 0) || decide (off = 0x1C) || decide (off = 0x40) ||
      (decide (0x100 ≤ off) && s.wakeEn p ((off - 0x100) / 4) &&
        [PORT_PIN_INEN, PORT_PIN_THSEL, PORT_PIN_HYS, PORT_PIN_PULL].any (fun f => decide (f.lo = key % 32)))
  | some (.chassis, _, off) => decide (off = 4) || decide (off = 0x20)
  | some (.host, _, _) => true
  | some (.flash, _, off) => decide (off = FLASH_UID_LO_LO.off) || decide (off = FLASH_UID_HI_HI.off)
  | _ => false

/-- Entry to STANDBY (R507). -/
def State.enterStandby (s : State) : State :=
  let s := s.pcieLost 1
  let s := (List.range 4).foldl (fun s k => if s.fldI HOST_SESS_TRANSPORT 0 k = 2 then s.sessClose k else s) s
  let n : State := { s.powerOn with
    regs := s.regs.filter (fun c => s.standbyKeeps c.1), hostSide := s.hostSide, cpNotes := s.cpNotes, cpNoteOvf := s.cpNoteOvf
    hrdy := s.hrdy, blinks := s.blinks, fwVersion := s.fwVersion, modePins := s.modePins, tickNo := s.tickNo
    vserLost := s.vserLost, vserhLost := s.vserhLost }
  ([1, 2, 3].foldl (fun s k => s.setReady k true) n).setFld SUP_PWR_STATE 0 4

/-! ### Wakes (R504 to R508); `source` is the place in R504's list -/

/-- A wake from SLEEP (R506). -/
def State.wakeSleep (s : State) (source : Nat) : State :=
  ((s.setFld SUP_PWR_STATE 0 0).wakeGroups.lanesStart).raise 0x0C31 supSrc [3, source]

/-- A wake from STANDBY is a power-on reset (R508); its record waits for the supervisor. -/
def State.wakeStandby (s : State) (source : Nat) : State :=
  { (s.powerOn.setFld SUP_RESET_CAUSE 0 2).setBit CHASSIS_STATUS_VCTL33 0 (s.bit CHASSIS_STATUS_VCTL33 0) with
    modePins := s.modePins, vserLost := s.vserLost, vserhLost := s.vserhLost, booting := some true, wokeBy := some source }

/-- A source wakes the part from any low-power state; without VCTL nothing wakes it from STANDBY (R517). -/
def State.wake (s : State) (source : Nat) : State :=
  match s.fld SUP_PWR_STATE 0 with
  | 2 => s.wakeRetain source
  | 3 => s.wakeSleep source
  | 4 => if s.hostSide.vctlLost then s else s.wakeStandby source
  | _ => s

/-- A write of SUP.PWR.REQ (R502, R503). -/
def State.powerRequest (s : State) (req : Nat) : State :=
  if req = 0 then s.wakeRetain 6
  else if (req = 2 ∨ req = 3 ∨ req = 4) ∧ s.fld SUP_PWR_STATE 0 = 0 then
    match (powerConds req).find? (fun c => !s.powerCond c) with
    | some c => s.raise 0x0C30 supSrc [req, c]
    | none =>
      if req = 2 then s.retainGroups.setFld SUP_PWR_STATE 0 2
      else if req = 3 then s.enterSleep
      else s.enterStandby
  else s

/-- WAKE_PIN (R172, R504): pins 00 and 01 of a port whose VIO is in class. -/
def execWakePin (port pin : Fin 32) (rise : Bool) (s : State) : Host.Outcome State Fault Refusal :=
  let p := port.val
  let (en, edge) := if pin.val = 0 then (PORT_WAKE_EN0, PORT_WAKE_EDGE0) else (PORT_WAKE_EN1, PORT_WAKE_EDGE1)
  if decide (pin.val < 2) && s.bit en p && (s.bit edge p != rise) && s.vioOk p then .next (s.wake 5) else .next s

/-- CHASSIS_WAKE_LINE (R478, R504): while VCTL stays up. -/
def execChassisWakeLine (line : Fin 8) (rise : Bool) (s : State) : Host.Outcome State Fault Refusal :=
  if bitOf (s.fld CHASSIS_WAKE_EN 0) line.val && (bitOf (s.fld CHASSIS_WAKE_EDGE 0) line.val != rise) &&
    !s.hostSide.vctlLost then .next (s.wake 5)
  else .next s

/-! ### Monitors (R501) -/

/-- SUPPLY_OUT_OF_RANGE (R501): the reading is the outside's, a free value. -/
def execSupplyOutOfRange (supply : Fin 6) (s : State) : Host.Outcome State Fault Refusal :=
  let (f, s) := s.freeNat
  .next ((s.setFld SUP_MON_OUT 0 (withBit (s.fld SUP_MON_OUT 0) supply.val)).raise 0x0C20 supSrc [supply.val, f % 2 ^ 16])

/-- OVERTEMPERATURE (R501): `tj` in signed °C. -/
def execOvertemperature (tj : Byte) (s : State) : Host.Outcome State Fault Refusal :=
  .next (((s.setFld SUP_MON_TJ 0 tj.toNat).setBit SUP_MON_HOT 0 true).raise 0x0C21 supSrc [word tj.toInt])

end Sys2Proof.Machine
end

