-- ==== Sys2Proof/Machine/ConfigWrite.lean ====
section
/-! DEFINITION. Configuration writes land (R15, R20 to R30, R201, R202): each block's registers, and the commands that name one
write. A write lands with the whole word it carries, whatever bit its command's name puts first. -/

namespace Sys2Proof.Machine

open Sys2Proof.F

/-- No field is left out of a write. -/
def noSkip : Fld → Nat → Bool := fun _ _ => false

/-! ### What a write does, block by block -/

/-- A write to a TIME register (R54, R56): the constellation's time base ignores some, and no write clears LOCALOFF. -/
def State.timeRegWrite (s : State) (who off v : Nat) : State :=
  if s.constOwn && timeOwnedOff off then s.raise 0x0109 timeSrc [0x10000 + off]
  else (s.classWrite who .time 0 off v (fun f x => decide (f = TIME_CTRL_LOCALOFF) && decide (x = 0))).timeWrote off v
    (s.bit TIME_PPSCFG_EN 0)

/-- A write to a multiplying loop's register (R60): while EN is clear, values not accepted leave their field as it was. What the
guarded clock has done up to now stands. -/
def State.mpllRegWrite (s : State) (who n off v : Nat) : State :=
  let s := (s.islandsSettle.guardedStir n).notePos n s.now
  let was := s.bit MPLL_CTRL_EN n
  let held := s.bit MPLL_CTRL_HOLD n
  let s := if off = 0 ∧ was = false ∧ mpllBad MPLL_CTRL_REFSRC (bitsOf v 16 4) then s.mpllRefuse n MPLL_CTRL_REFSRC else s
  (s.classWrite who .mpll n off v (fun f x => !was && mpllBad f x)).mpllWrote n off v was held

/-- A write to a tracker's register. -/
def State.mtRegWrite (s : State) (who n off v : Nat) : State :=
  (s.classWrite who .mt n off v noSkip).mtWrote n off (s.bit MT_CTRL_EN n)

/-- OD is a field of CSILL_0 to CSILL_7 only (R141, R143). -/
def odAbsent (n : Nat) (f : Fld) : Bool := decide (f = SILL_CTRL_OD) && !(decide (1024 ≤ n) && decide (n < 1032))

/-- A write to a sill's register. -/
def State.sillRegWrite (s : State) (who n off v : Nat) : State :=
  (s.classWrite who .sill n off v (fun f _ => odAbsent n f)).sillWrote n off v (s.bit SILL_CTRL_EN n)

/-- A write to an attention line's register. -/
def State.atnRegWrite (s : State) (who n off v : Nat) : State :=
  (s.classWrite who .atn n off v noSkip).atnWrote n off (s.bit ATN_CTRL_EN n)

/-- SEQ.CTRL (R182): of several bits written 1 the first of START, RESUME, HALT and STEP acts; for SUP none does. -/
def State.seqCtrl (s : State) (n v : Nat) : State :=
  if h : n < 32 then
    if bitOf v 31 then s.seqStart n
    else if bitOf v 30 then s.seqResume n
    else if bitOf v 29 then s.seqHalt n
    else if bitOf v 28 then s.seqStep ⟨n, Nat.lt_succ_of_lt h⟩
    else s
  else s

/-- Writing 1 to WPEND bits clears their vectors (R194). -/
def State.wpendWrite (s : State) (n v : Nat) : State :=
  (List.range 16).foldl (fun s k => if bitOf v k then s.clearVector n k else s) s

/-- A write to a sequencer's register (R182, R194, R196, R199, R207). -/
def State.seqRegWrite (s : State) (who n off v : Nat) : State :=
  if off = 0x1C then s.wpendWrite n v
  else if 0x30 ≤ off ∧ off < 0x40 then s.streamBind n ((off - 0x30) / 4) v
  else
    let w := if off = 8 ∨ 0x100 ≤ off then v / 4 * 4 else v
    let s := s.classWrite who .seq n off w noSkip
    if off = 0 then s.seqCtrl n v
    else if off = 0x18 then
      (if Nat.land (s.fld SEQ_WPEND_PEND n) (s.fld SEQ_WEN_EN n) = 0 then s else s.wakeRetain 1)
    else if off = 0x24 then
      s.setSeq n { s.seq n with alarm := some (BitVec.ofNat 64 (v % 2 ^ 32 + 2 ^ 32 * s.fld SEQ_ALARM_HI_AHI n)) }
    else s

/-- A write to a link's register. -/
def State.linkRegWrite (s : State) (who l off v : Nat) : State :=
  (s.classWrite who .link l off v noSkip).linkWrote l off v (s.bit LINK_CTRL_EN l)

/-- A write to a CONST register. -/
def State.constRegWrite (s : State) (who off v : Nat) : State :=
  (s.classWrite who .const 0 off v noSkip).constWrote off (bitOf (s.fieldWord .const 0 off false) 31)

/-- A write to a HOST register (R461). -/
def State.hostRegWrite (s : State) (who off v : Nat) : State :=
  if off = 8 then (if 7 ≤ v % 32 then s.msix (v % 32) else s) else s.classWrite who .host 0 off v noSkip

/-- CHASSIS.SYNC (R54, R476): writing 1 to ARM arms the alignment, which only the alignment itself ends. -/
def State.syncWrite (s : State) (who v : Nat) : State :=
  let s := s.classWrite who .chassis 0 8 v (fun f _ => decide (f = CHASSIS_SYNC_ARM))
  if !bitOf v 31 then s
  else if s.constOwn then s.raise 0x0109 timeSrc [0x810008]
  else
    let s := (s.setBit CHASSIS_SYNC_ARM 0 true).setBit CHASSIS_STATUS_ARMED 0 true
    { s with hostSide := { s.hostSide with armAt := s.tickNo } }

/-- A write to a CHASSIS register. -/
def State.chassisRegWrite (s : State) (who off v : Nat) : State :=
  if off = 8 then s.syncWrite who v else s.classWrite who .chassis 0 off v noSkip

/-- The safe state ends (R500). -/
def State.safeEnd (s : State) : State :=
  ((s.setBit SUP_SAFE_ACTIVE 0 false).setBit SUP_SAFE_FAULTN 0 false).setFld SUP_RESET_FATALCNT 0 0

/-- A write to a SUP register (R286, R484, R485, R500, R503). -/
def State.supRegWrite (s : State) (who off v : Nat) : State :=
  let s := s.classWrite who .sup 0 off v noSkip
  if off = 0x10 then (if bitOf v 31 then s.requestWarm 3 else s)
  else if off = 0x20 then (if bitOf v 0 then s.safeEnd else s)
  else if off = 0x24 then s.powerRequest (bitsOf v 29 3)
  else if off = 0x28 then s.setBit SUP_OWNQ_VALID 0 (cfgDecode (v % 2 ^ 31)).isSome
  else if off = 0x808 then (if bitOf v 0 then s.loadAbort 2 else s)
  else s

/-- The records that a sill holds for a ring are offered to it, until the ring makes them wait. -/
def State.sillOffers (n r : Nat) : List EvRec → State → State
  | [], s => s.mapSill n (fun x => { x with fifo := [] })
  | e :: rest, s =>
    match s.ringOffer (agent 1 (laneOf n)) r e.item with
    | (s, .waits) => s.mapSill n (fun x => { x with fifo := e :: rest })
    | (s, _) => State.sillOffers n r rest s

/-- The committed items of engine `e`'s port `p` are offered to their ring. -/
def State.seOffers (s : State) (e p : Nat) : State :=
  (List.range (storeGet {} (s.engine e).ports p).items.length).foldl (fun s _ => s.seCopyOut e p) s

/-- Items that wait for a ring whose EN clears are discarded under R331 (R337). -/
def State.ringDiscards (s : State) (r : Nat) : State :=
  let s := s.ringRoomed r
  let s := (List.range 33).foldl (fun s q => (List.range 4).foldl (fun s p =>
    if s.fldI SEQ_STREAM_RING q p = r then s.flushPort q p else s) s) s
  let s := (List.range 16).foldl (fun s e => (List.range 4).foldl (fun s p => if s.seRing e p = r then s.seOffers e p else s) s) s
  s.sills.foldl (fun s x => if s.fld SILL_RING_CRING x.1 = r then State.sillOffers x.1 r x.2.fifo s else s) s

/-- A write to a descriptor's register, with what it does to the items that wait for the ring (R334, R337). -/
def State.ringRegWrite (s : State) (who n off v : Nat) : State :=
  let waited := s.ringEn n && (s.ringWaits.any (fun w => decide (w.1 = n)) || decide (s.ringRoom n = 0))
  let s := s.ringWrite who n off v
  if waited && !s.ringEn n then s.ringDiscards n else s

/-- A write to a register of an instance; `who` is the master. -/
def State.regWrite (s : State) (who : Nat) (b : Blk) (n off v : Nat) : State :=
  match b with
  | .sup => s.supRegWrite who off v
  | .time => s.timeRegWrite who off v
  | .mpll => s.mpllRegWrite who n off v
  | .mt => s.mtRegWrite who n off v
  | .atn => s.atnRegWrite who n off v
  | .port => s.portWrite who n off v
  | .sill => s.sillRegWrite who n off v
  | .seq => s.seqRegWrite who n off v
  | .se => s.seWrite who n off v
  | .zone => s.zoneWrite who n off v
  | .caldera => s.calderaRegWrite who off v
  | .ring => s.ringRegWrite who n off v
  | .flash => s.flashWrite who off v
  | .link => s.linkRegWrite who n off v
  | .const => s.constRegWrite who off v
  | .host => s.hostRegWrite who off v
  | .chassis => s.chassisRegWrite who off v
  | .fp | .dma => s.classWrite who b n off v noSkip

/-! ### Who may write what (R15, R22, R202) -/

/-- Registers that a sequencer writes in its own instance without owning it (R202). -/
def seqOwnReg (off : Nat) : Bool :=
  [0x18, 0x1C, 0x20, 0x24, 0x28, 0x2C].contains off || (decide (0x30 ≤ off) && decide (off < 0x40)) ||
    (decide (0x100 ≤ off) && decide (off < 0x140))

/-- Sequencer `q` may write a register. -/
def State.mayWrite (s : State) (q : Nat) (b : Blk) (n off : Nat) : Bool :=
  s.owns q b n || (decide (b = .seq) && decide (n = q) && seqOwnReg off)

/-- A CFGW of sequencer `q` lands (R15, R22): reserved addresses and foreign instances are refused. -/
def State.regLand (s : State) (q addr v : Nat) : State :=
  match cfgDecode (addr % 2 ^ 31) with
  | none => s.raise 0x0708 (seqSrc q) [q, addr]
  | some (b, n, off) =>
    if !regExists b off then s.raise 0x0708 (seqSrc q) [q, addr]
    else if s.mayWrite q b n off then s.regWrite (agent 5 q) b n off v
    else s.raise 0x0707 (seqSrc q) [q, addr]

/-- The posted item is the CFGW of a word to an address, through either view. -/
def isWrite (addr v : Nat) (p : Posted) : Bool :=
  match p with
  | .cfgw a w => decide (a % 2 ^ 31 = addr % 2 ^ 31) && decide (w.toNat = v)
  | _ => false

/-- The posted item is the static write of a mask to a port, by CFGW or by PSET, PCLR or PTGL (R231). -/
def isMask (p fn : Nat) (mask : Word) (x : Posted) : Bool :=
  isWrite (cfgBase .port p + 4 + 4 * fn) mask.toNat x || decide (x = .portMask p fn mask)

/-- A write of SEQ.STREAM_s that has to wait for a flush (R199). -/
def State.streamWaits (s : State) (q addr v : Nat) : Bool :=
  match cfgDecode (addr % 2 ^ 31) with
  | some (.seq, n, off) => decide (0x30 ≤ off) && decide (off < 0x40) && s.mayWrite q .seq n off &&
      s.streamStays n ((off - 0x30) / 4) v
  | _ => false

/-- Sequencer `q`'s write of a word to an address lands; one that has to wait stays posted. -/
def State.cfgLands (s : State) (q : Fin 33) (addr : Nat) (v : Word) : State :=
  if s.streamWaits q.val addr v.toNat then s
  else s.deliver q.val (isWrite addr v.toNat) (fun s => s.regLand q.val addr v.toNat)

/-! ### Arming (R25 to R28) -/

/-- Ticks from now to the first tick boundary at or after a timestamp, as a signed number. -/
def State.leadTicks (s : State) (t : Stamp) : Int := (stampDiff t s.now + 31) / 32

/-- A CFGA reaches an instance (R26, R27): a short lead is reported, and the instance arms at the next tick boundary. -/
def State.cfgaCame (s : State) (b : Blk) (n : Nat) (t : Stamp) : State :=
  let k := ownerKey b n
  let lead := s.leadTicks t
  if 50 ≤ lead then { s with arms := storeInsert s.arms k t }
  else
    let at_ := if s.time.counting then s.now + ticks 1 else s.now
    { s with arms := storeInsert s.arms k at_ }.raise 0x0C02 (blkSrc b n)
      [cfgBase b n, min (2 ^ 32 - 1) (50 - lead).toNat]

/-- CFGA_ARRIVAL (R15, R22, R26, R27). -/
def execCfgaArrival (q : Fin 33) (addr : Word) (t : Stamp) (s : State) : Host.Outcome State Fault Refusal :=
  let a := addr.toNat
  .next (s.deliver q.val (fun p => decide (p = .cfga a t)) (fun s =>
    match cfgDecode (a % 2 ^ 31) with
    | none => s.raise 0x0708 (seqSrc q.val) [q.val, a]
    | some (b, n, _) => if s.owns q.val b n then s.cfgaCame b n t else s.raise 0x0707 (seqSrc q.val) [q.val, a]))

/-- An instance arms: every staged A-class field becomes active in one tick (R25). -/
def State.armInstance (s : State) (b : Blk) (n : Nat) : State :=
  match b with
  | .time => s.timeArm
  | .mpll => s.mpllArm n
  | .mt => s.mtArm n
  | .port => s.portArm n
  | .atn => s.atnArm n
  | .zone => s.zoneArm n
  | _ => if ownerKey b n = 0 then (s.armCopy .sup 0 noSkip).armCopy .seq 32 noSkip else s.armCopy b n noSkip

/-- ARM (R25): the arm instant of an instance comes. -/
def execArm (addr : Word) (s : State) : Host.Outcome State Fault Refusal :=
  match cfgDecode (addr.toNat % 2 ^ 31) with
  | none => .next s
  | some (b, n, _) =>
    match s.arms.find? (fun c => decide (c.1 = ownerKey b n)) with
    | none => .next s
    | some (k, t) =>
      if s.time.counting = false ∧ inFuture t s.now ∧ t ≠ s.now then .next s
      else .next ({ s.reachStamp t with arms := storeErase s.arms k }.armInstance b n)

/-! ### The commands that name one write -/

/-- REGISTER_WRITE (R22, R30). -/
def execRegisterWrite (q : Fin 33) (addr v : Word) (s : State) : Host.Outcome State Fault Refusal :=
  .next (s.cfgLands q addr.toNat v)

/-- STREAM_BIND (R199): a change of a bound produce port waits until its buffer has been flushed. -/
def execStreamBind (q : Fin 33) (tgt : Fin 33) (port : Fin 4) (v : Word) (s : State) : Host.Outcome State Fault Refusal :=
  .next (s.cfgLands q (cfgBase .seq tgt.val + 0x30 + 4 * port.val) v)

/-- FORCESW (R42, R46). -/
def execForcesw (q : Fin 33) (v : Word) (s : State) : Host.Outcome State Fault Refusal :=
  .next (s.cfgLands q (cfgBase .time 0) v)

/-- SLEW (R49, R54). -/
def execSlew (q : Fin 33) (v : Word) (s : State) : Host.Outcome State Fault Refusal :=
  .next (s.cfgLands q (cfgBase .time 0 + 0x18) v)

/-- STEPGO (R50, R54). -/
def execStepgo (q : Fin 33) (v : Word) (s : State) : Host.Outcome State Fault Refusal :=
  .next (s.cfgLands q (cfgBase .time 0) v)

/-- MPLL_EN (R58). -/
def execMpllEn (q : Fin 33) (n : Fin 8) (v : Word) (s : State) : Host.Outcome State Fault Refusal :=
  .next (s.cfgLands q (cfgBase .mpll n.val) v)

/-- SEARCH (R58). -/
def execSearch (q : Fin 33) (n : Fin 8) (v : Word) (s : State) : Host.Outcome State Fault Refusal :=
  .next (s.cfgLands q (cfgBase .mpll n.val) v)

/-- HOLD (R66). -/
def execHold (q : Fin 33) (n : Fin 8) (v : Word) (s : State) : Host.Outcome State Fault Refusal :=
  .next (s.cfgLands q (cfgBase .mpll n.val) v)

/-- TRACKER_EN (R101). -/
def execTrackerEn (q : Fin 33) (n : Fin 8) (v : Word) (s : State) : Host.Outcome State Fault Refusal :=
  .next (s.cfgLands q (cfgBase .mt n.val) v)

/-- SILL_EN (R110). -/
def execSillEn (q : Fin 33) (sill : Fin 1036) (v : Word) (s : State) : Host.Outcome State Fault Refusal :=
  .next (s.cfgLands q (cfgBase .sill sill.val) v)

/-- CLRCNT (R143). -/
def execClrcnt (q : Fin 33) (sill : Fin 1036) (v : Word) (s : State) : Host.Outcome State Fault Refusal :=
  .next (s.cfgLands q (cfgBase .sill sill.val + 0x2C) v)

/-- CANCELALL (R118). -/
def execCancelall (q : Fin 33) (sill : Fin 1036) (v : Word) (s : State) : Host.Outcome State Fault Refusal :=
  .next (s.cfgLands q (cfgBase .sill sill.val + 0x2C) v)

/-- CONV_EN (R163). -/
def execConvEn (q : Fin 33) (port : Fin 32) (v : Word) (s : State) : Host.Outcome State Fault Refusal :=
  .next (s.cfgLands q (cfgBase .port port.val + 0x24) v)

/-- LOCK (R170). -/
def execLock (q : Fin 33) (port : Fin 32) (v : Word) (s : State) : Host.Outcome State Fault Refusal :=
  .next (s.cfgLands q (cfgBase .port port.val + 0x28) v)

/-- LOCKMASK (R170). -/
def execLockmask (q : Fin 33) (port : Fin 32) (v : Word) (s : State) : Host.Outcome State Fault Refusal :=
  .next (s.cfgLands q (cfgBase .port port.val + 0x2C) v)

/-- ATN_EN (R167). -/
def execAtnEn (q : Fin 33) (line : Fin 32) (v : Word) (s : State) : Host.Outcome State Fault Refusal :=
  .next (s.cfgLands q (cfgBase .atn line.val) v)

/-- ALARM_LO (R196). -/
def execAlarmLo (q : Fin 33) (tgt : Fin 33) (v : Word) (s : State) : Host.Outcome State Fault Refusal :=
  .next (s.cfgLands q (cfgBase .seq tgt.val + 0x24) v)

/-- WPEND (R194). -/
def execWpend (q : Fin 33) (tgt : Fin 33) (v : Word) (s : State) : Host.Outcome State Fault Refusal :=
  .next (s.cfgLands q (cfgBase .seq tgt.val + 0x1C) v)

/-- SEQ_CTRL_START (R182). -/
def execSeqCtrlStart (q : Fin 33) (tgt : Fin 33) (v : Word) (s : State) : Host.Outcome State Fault Refusal :=
  .next (s.cfgLands q (cfgBase .seq tgt.val) v)

/-- SEQ_CTRL_RESUME (R182). -/
def execSeqCtrlResume (q : Fin 33) (tgt : Fin 33) (v : Word) (s : State) : Host.Outcome State Fault Refusal :=
  .next (s.cfgLands q (cfgBase .seq tgt.val) v)

/-- SEQ_CTRL_HALT (R182). -/
def execSeqCtrlHalt (q : Fin 33) (tgt : Fin 33) (v : Word) (s : State) : Host.Outcome State Fault Refusal :=
  .next (s.cfgLands q (cfgBase .seq tgt.val) v)

/-- SEQ_CTRL_STEP (R182). -/
def execSeqCtrlStep (q : Fin 33) (tgt : Fin 33) (v : Word) (s : State) : Host.Outcome State Fault Refusal :=
  .next (s.cfgLands q (cfgBase .seq tgt.val) v)

/-- ATNPEND (R261). -/
def execAtnpend (q : Fin 33) (zone : Fin 64) (v : Word) (s : State) : Host.Outcome State Fault Refusal :=
  .next (s.cfgLands q (cfgBase .zone zone.val + 0x1C) v)

/-- ZONE_HOLD (R269). -/
def execZoneHold (q : Fin 33) (zone : Fin 64) (v : Word) (s : State) : Host.Outcome State Fault Refusal :=
  .next (s.cfgLands q (cfgBase .zone zone.val) v)

/-- ABORT (R286). -/
def execAbort (q : Fin 33) (v : Word) (s : State) : Host.Outcome State Fault Refusal :=
  .next (s.cfgLands q (cfgBase .sup 0 + 0x808) v)

/-- UNSTAGE (R304). -/
def execUnstage (q : Fin 33) (zone : Fin 64) (v : Word) (s : State) : Host.Outcome State Fault Refusal :=
  .next (s.cfgLands q (cfgBase .zone zone.val + 0x30) v)

/-- RELOAD (R311). -/
def execReload (q : Fin 33) (zone : Fin 64) (v : Word) (s : State) : Host.Outcome State Fault Refusal :=
  .next (s.cfgLands q (cfgBase .zone zone.val + 0x30) v)

/-- RING_EN (R329). -/
def execRingEn (q : Fin 33) (ring : Fin 1024) (v : Word) (s : State) : Host.Outcome State Fault Refusal :=
  .next (s.cfgLands q (cfgBase .ring ring.val) v)

/-- WPTR (R336). -/
def execWptr (q : Fin 33) (ring : Fin 1024) (v : Word) (s : State) : Host.Outcome State Fault Refusal :=
  .next (s.cfgLands q (cfgBase .ring ring.val + 0x10) v)

/-- RPTR (R336). -/
def execRptr (q : Fin 33) (ring : Fin 1024) (v : Word) (s : State) : Host.Outcome State Fault Refusal :=
  .next (s.cfgLands q (cfgBase .ring ring.val + 0x14) v)

/-- NEWLEN (R338). -/
def execNewlen (q : Fin 33) (ring : Fin 1024) (v : Word) (s : State) : Host.Outcome State Fault Refusal :=
  .next (s.cfgLands q (cfgBase .ring ring.val + 0xC) v)

/-- PWR (R340). -/
def execPwr (q : Fin 33) (v : Word) (s : State) : Host.Outcome State Fault Refusal :=
  .next (s.cfgLands q (cfgBase .caldera 0 + 4) v)

/-- STREAM_PORT_EN (R375). -/
def execStreamPortEn (q : Fin 33) (e : Fin 16) (port : Fin 4) (v : Word) (s : State) : Host.Outcome State Fault Refusal :=
  .next (s.cfgLands q (cfgBase .se e.val + 0x40 + 16 * port.val) v)

/-- IRQSET (R365). -/
def execIrqset (q : Fin 33) (e : Fin 16) (v : Word) (s : State) : Host.Outcome State Fault Refusal :=
  .next (s.cfgLands q (cfgBase .se e.val + 0x2C) v)

/-- SE_ATNPEND (R365). -/
def execSeAtnpend (q : Fin 33) (e : Fin 16) (v : Word) (s : State) : Host.Outcome State Fault Refusal :=
  .next (s.cfgLands q (cfgBase .se e.val + 0x34) v)

/-- SE_CTRL_START (R379). -/
def execSeCtrlStart (q : Fin 33) (e : Fin 16) (v : Word) (s : State) : Host.Outcome State Fault Refusal :=
  .next (s.cfgLands q (cfgBase .se e.val) v)

/-- SE_CTRL_RESUME (R379). -/
def execSeCtrlResume (q : Fin 33) (e : Fin 16) (v : Word) (s : State) : Host.Outcome State Fault Refusal :=
  .next (s.cfgLands q (cfgBase .se e.val) v)

/-- SE_CTRL_HALT (R379). -/
def execSeCtrlHalt (q : Fin 33) (e : Fin 16) (v : Word) (s : State) : Host.Outcome State Fault Refusal :=
  .next (s.cfgLands q (cfgBase .se e.val) v)

/-- SE_CTRL_STEP (R379). -/
def execSeCtrlStep (q : Fin 33) (e : Fin 16) (v : Word) (s : State) : Host.Outcome State Fault Refusal :=
  .next (s.cfgLands q (cfgBase .se e.val) v)

/-- QHEAD (R390). -/
def execQhead (q : Fin 33) (v : Word) (s : State) : Host.Outcome State Fault Refusal :=
  .next (s.cfgLands q (cfgBase .flash 0 + 0xC) v)

/-- CMD_SUSPEND (R397). -/
def execCmdSuspend (q : Fin 33) (v : Word) (s : State) : Host.Outcome State Fault Refusal :=
  .next (s.cfgLands q (cfgBase .flash 0 + 0x18) v)

/-- CMD_RESUME (R397). -/
def execCmdResume (q : Fin 33) (v : Word) (s : State) : Host.Outcome State Fault Refusal :=
  .next (s.cfgLands q (cfgBase .flash 0 + 0x18) v)

/-- LINK_EN (R442). -/
def execLinkEn (q : Fin 33) (l : Fin 8) (v : Word) (s : State) : Host.Outcome State Fault Refusal :=
  .next (s.cfgLands q (cfgBase .link l.val) v)

/-- LINK_CLRCNT (R442). -/
def execLinkClrcnt (q : Fin 33) (l : Fin 8) (v : Word) (s : State) : Host.Outcome State Fault Refusal :=
  .next (s.cfgLands q (cfgBase .link l.val) v)

/-- BAR_EN (R436). -/
def execBarEn (q : Fin 33) (k : Fin 16) (v : Word) (s : State) : Host.Outcome State Fault Refusal :=
  .next (s.cfgLands q (cfgBase .const 0 + 0x100 + 8 * k.val) v)

/-- CONST_EN (R422). -/
def execConstEn (q : Fin 33) (v : Word) (s : State) : Host.Outcome State Fault Refusal :=
  .next (s.cfgLands q (cfgBase .const 0) v)

/-- HOPQ (R443). -/
def execHopq (q : Fin 33) (v : Word) (s : State) : Host.Outcome State Fault Refusal :=
  .next (s.cfgLands q (cfgBase .const 0 + 0x28) v)

/-- XSTR_EN (R437). -/
def execXstrEn (q : Fin 33) (k : Fin 8) (v : Word) (s : State) : Host.Outcome State Fault Refusal :=
  .next (s.cfgLands q (cfgBase .const 0 + 0x200 + 8 * k.val) v)

/-- MSIXRAISE (R461). -/
def execMsixraise (q : Fin 33) (v : Word) (s : State) : Host.Outcome State Fault Refusal :=
  .next (s.cfgLands q (cfgBase .host 0 + 8) v)

/-- SYNC_ARM (R476). -/
def execSyncArm (q : Fin 33) (v : Word) (s : State) : Host.Outcome State Fault Refusal :=
  .next (s.cfgLands q (cfgBase .chassis 0 + 8) v)

/-- SAFE_CLR (R500). -/
def execSafeClr (q : Fin 33) (v : Word) (s : State) : Host.Outcome State Fault Refusal :=
  .next (s.cfgLands q (cfgBase .sup 0 + 0x20) v)

/-- OWNQADDR (R484). -/
def execOwnqaddr (q : Fin 33) (v : Word) (s : State) : Host.Outcome State Fault Refusal :=
  .next (s.cfgLands q (cfgBase .sup 0 + 0x28) v)

/-- RUN (R503). -/
def execRun (q : Fin 33) (v : Word) (s : State) : Host.Outcome State Fault Refusal :=
  .next (s.cfgLands q (cfgBase .sup 0 + 0x24) v)

/-- RETAIN (R503, R504). -/
def execRetain (q : Fin 33) (v : Word) (s : State) : Host.Outcome State Fault Refusal :=
  .next (s.cfgLands q (cfgBase .sup 0 + 0x24) v)

/-- SLEEP (R503, R505). -/
def execSleep (q : Fin 33) (v : Word) (s : State) : Host.Outcome State Fault Refusal :=
  .next (s.cfgLands q (cfgBase .sup 0 + 0x24) v)

/-- STANDBY (R503, R507). -/
def execStandby (q : Fin 33) (v : Word) (s : State) : Host.Outcome State Fault Refusal :=
  .next (s.cfgLands q (cfgBase .sup 0 + 0x24) v)

/-- PORT_SET (R150): by CFGW, or by the instruction of its name. -/
def execPortSet (q : Fin 33) (port : Fin 32) (mask : Word) (s : State) : Host.Outcome State Fault Refusal :=
  .next (s.deliver q.val (isMask port.val 0 mask) (fun s => s.regLand q.val (cfgBase .port port.val + 4) mask.toNat))

/-- PORT_CLR (R150): by CFGW, or by the instruction of its name. -/
def execPortClr (q : Fin 33) (port : Fin 32) (mask : Word) (s : State) : Host.Outcome State Fault Refusal :=
  .next (s.deliver q.val (isMask port.val 1 mask) (fun s => s.regLand q.val (cfgBase .port port.val + 8) mask.toNat))

/-- PORT_TGL (R150): by CFGW, or by the instruction of its name. -/
def execPortTgl (q : Fin 33) (port : Fin 32) (mask : Word) (s : State) : Host.Outcome State Fault Refusal :=
  .next (s.deliver q.val (isMask port.val 2 mask) (fun s => s.regLand q.val (cfgBase .port port.val + 12) mask.toNat))

/-- SAFESET (R169). -/
def execSafeset (q : Fin 33) (port : Fin 32) (mask : Word) (s : State) : Host.Outcome State Fault Refusal :=
  .next (s.cfgLands q (cfgBase .port port.val + 0x34) mask)

/-- SAFECLR (R169). -/
def execSafeclr (q : Fin 33) (port : Fin 32) (mask : Word) (s : State) : Host.Outcome State Fault Refusal :=
  .next (s.cfgLands q (cfgBase .port port.val + 0x38) mask)

end Sys2Proof.Machine
end

