-- ==== Sys2Proof/Machine/Commands.lean ====
section
/-! DEFINITION. Host commands: when one runs, what refuses it, and the quick ones (R206, R383, R452 to R455, R466 to R473). -/

namespace Sys2Proof.Machine

open Sys2Proof.F

/-! ### The lanes (R453, R455) -/

/-- What a command comes to: the state, STATUS, INFO, output; with `on` it goes on. -/
structure Done where
  state : State
  status : Nat
  info : Nat := 0
  out : List Byte := []
  on : Bool := false

/-- A transport's commands can run now: the supervisor runs, or the control port alone does in STANDBY; PCIe has two free
completion entries. -/
def State.runnable (s : State) (t : Nat) : Bool :=
  (s.ready 0 || decide (s.fld SUP_PWR_STATE 0 = 4)) && (decide (t ≠ 1) || (s.queuesRun && decide (2 ≤ s.cpFree)))

/-- The oldest command of a transport in the quick lane, unless it is a RELAY that waits for its answer. -/
def State.quickHead (s : State) (t : Nat) : Option HostCmd :=
  match s.hostSide.quick.find? (fun c => decide (c.transport = t)) with
  | some c => if c.sent then none else some c
  | none => none

/-- The command ends as `d` says. -/
def HostCmd.ends (c : HostCmd) (d : Done) : State := d.state.complete c d.status d.info d.out

/-- Run the oldest quick command of a transport, if `want` names its operation; `f` answers none where it must wait. -/
def State.runQuick (s : State) (t : Nat) (want : Nat → Bool) (f : HostCmd → State → Option Done) : State :=
  match s.quickHead t with
  | none => s
  | some c =>
    if want c.op && s.runnable t then
      match f c (s.mapHost (fun h => { h with quick := h.quick.erase c })) with
      | some d => c.ends d
      | none => s
    else s

/-- Run the oldest long command: one at a time across all transports. One that goes on stays the oldest. -/
def State.runLong (s : State) (op : Nat) (f : HostCmd → State → Option Done) : State :=
  match s.hostSide.long with
  | [] => s
  | c :: rest =>
    if decide (c.op = op) && s.runnable c.transport then
      match f c (s.mapHost (fun h => { h with long := rest })) with
      | some d => if d.on then d.state.mapHost (fun h => { h with long := c :: h.long }) else c.ends d
      | none => s
    else s

/-! ### What refuses a command (R452, R454, R466, R483) -/

/-- SUP.BOOT bits [31:24]. -/
def State.bootBits (s : State) : Nat := s.fieldWord .sup 0 0x800 false / 2 ^ 24 % 256

/-- The command names one instance of a block in ADDR[31:0]. -/
def HostCmd.blk (c : HostCmd) : Option (Blk × Nat × Nat) := cfgDecode (c.addr % 2 ^ 31)

/-- The privileges that a command needs (R454); that of FLASH_DESC is its descriptor's. -/
def HostCmd.needs (c : HostCmd) : Nat :=
  match c.op with
  | 0x10 => pObserve
  | 0x11 | 0x20 | 0x21 | 0x22 | 0x23 | 0x25 | 0x50 => pOperate
  | 0x24 =>
    match c.blk with
    | some (.zone, _, _) => pOperate + pZones
    | some (.flash, _, _) => pOperate + pFlash
    | _ => pOperate
  | 0x30 | 0x31 => pZones + pFlash
  | 0x32 => pZones
  | 0x41 | 0x42 => pFlash
  | _ => 0

/-- Operations that the table gives. -/
def knownOp (op : Nat) : Bool :=
  [1, 2, 3, 4, 5, 0x10, 0x11, 0x20, 0x21, 0x22, 0x23, 0x24, 0x25, 0x30, 0x31, 0x32, 0x40, 0x41, 0x42, 0x50].contains op

/-- The recovery loader takes the command (R466); whether a FLASH_DESC carries SET_PROTECTION is judged when it is read. -/
def HostCmd.inRecovery (c : HostCmd) : Bool :=
  [1, 2, 3, 4, 0x30, 0x31, 0x40, 0x42].contains c.op ||
    ((decide (c.op = 0x10) || decide (c.op = 0x11)) && decide (c.addr + c.len ≤ calderaSize))

/-- The readiness bit that a command needs (R483). -/
def readyFor (op : Nat) : Option Nat :=
  match op with
  | 2 | 3 => some 3
  | 0x20 | 0x21 => some 11
  | 0x22 | 0x23 => some 12
  | _ => none

/-- The power state, the recovery loader and readiness refuse a command. -/
def State.notNow (s : State) (c : HostCmd) : Option (Nat × Nat) :=
  let p := s.fld SUP_PWR_STATE 0
  if (p = 3 ∨ p = 4) ∧ !(decide (1 ≤ c.op) && decide (c.op ≤ 5)) then some (0x0A, p)
  else if s.recovery && !c.inRecovery then some (7, s.bootBits)
  else
    match readyFor c.op with
    | some k => if s.ready k || decide (p = 4) then none else some (7, s.bootBits)
    | none => none

/-- The session refuses a command: there is none, or it lacks a privilege. -/
def State.noPriv (s : State) (c : HostCmd) : Option (Nat × Nat) :=
  if c.op ≤ 5 then none
  else if (s.session c.transport c.peer).isNone then some (2, 0)
  else
    let miss := c.needs - Nat.land c.needs (s.sessPriv c.transport c.peer)
    if miss = 0 then none else some (1, miss)

/-- The byte offset of the first field of the header that no command may carry. -/
def HostCmd.badHeader (c : HostCmd) : Option Nat :=
  if 4 ≤ c.flags then some 4 else if c.odd then some 5 else none

/-- The byte offset of the field that makes ADDR or LEN unusable for a command that takes `least` to `most` bytes. -/
def HostCmd.badData (c : HostCmd) (least most : Nat) (input : Bool) : Option Nat :=
  if c.transport = 2 ∧ c.dspace = false ∧ input = true then some 4
  else if c.dspace then (if 2 ^ 32 ≤ c.addr then some 8 else if c.len < least ∨ most < c.len then some 16 else none)
  else if c.transport = 1 ∧ c.addr % 16 ≠ 0 then some 8
  else if c.transport ≠ 1 ∧ c.addr ≠ 0 then some 8
  else if c.len < least ∨ most < c.len then some 16
  else if input = true ∧ c.transport ≠ 1 ∧ c.data.length < c.len then some 16
  else none

/-- A command that nothing has refused so far runs `f`. -/
def State.gated (s : State) (c : HostCmd) (f : State → Option Done) : Option Done :=
  match s.notNow c with
  | some (st, info) => some { state := s, status := st, info := info }
  | none =>
    match s.noPriv c with
    | some (st, info) => some { state := s, status := st, info := info }
    | none =>
      match c.badHeader with
      | some o => some { state := s, status := 3, info := o }
      | none => f s

/-- BADCMD naming a byte offset. -/
def State.badCmd (s : State) (o : Nat) : Option Done := some { state := s, status := 3, info := o }

/-- The command goes on. -/
def State.goesOn (s : State) : Option Done := some { state := s, status := 0, on := true }

/-- OK. -/
def State.okay (s : State) (out : List Byte := []) : Option Done := some { state := s, status := 0, out := out }

/-- BUSERR at an address. -/
def State.busErr (s : State) (a : Nat) : Option Done := some { state := s, status := 9, info := a % 2 ^ 32 }

/-- REFUSED, with the code of the record. -/
def State.refusedBy (s : State) (code : Nat) : Option Done := some { state := s, status := 8, info := code }

/-- `n` bytes of data space from `a` on are all backed. -/
def spaceBacked (a n : Nat) : Bool := (List.range ((a + n + 15) / 16 - a / 16)).all (fun i => decide (placeOf (a / 16 * 16 + 16 * i) ≠ .none))

/-- Who makes the accesses of a command's memory transfer: on the control port READ_MEM and WRITE_MEM are the port's own (R541). -/
def HostCmd.mover (c : HostCmd) : Master :=
  if c.transport = 0 ∧ (c.op = 0x10 ∨ c.op = 0x11) then .port else .command c.transport

/-- The input of a command: `n` bytes from data space, attached, or from host memory, where `mem` is what it held. -/
def State.withInput (s : State) (c : HostCmd) (n : Nat) (mem : Option (List Byte)) (f : List Byte → State → Option Done) :
    Option Done :=
  if c.dspace then
    if !s.pieceOpen c.addr (max 1 n) then none
    else
      let (l, s) := s.spaceBytes c.mover c.addr n
      if spaceBacked c.addr n then f l s else s.busErr c.addr
  else if c.transport = 1 then
    match mem with
    | none => s.busErr c.addr
    | some l => f ((l ++ List.replicate n 0).take n) s
  else f (c.data.take n) s

/-- A command with output ends OK where the output can be written: `ok` says so of host memory. -/
def State.withOutput (s : State) (c : HostCmd) (ok : Bool) (out : List Byte) : Option Done :=
  if c.transport = 1 then
    if c.dspace then
      if !s.pieceOpen c.addr (max 1 (min c.len out.length)) then none
      else if spaceBacked c.addr (min c.len out.length) then s.okay out
      else (s.reservedSpace (.command 1) c.addr).busErr c.addr
    else if ok then s.okay out
    else s.busErr c.addr
  else s.okay out

/-! ### Identity and sessions (R454, R467, R472) -/

/-- The 32 bytes of INFO. -/
def State.infoBytes (s : State) (c : HostCmd) : List Byte :=
  leBytes 8 s.uid ++ leBytes 4 (s.fld SUP_READY_READY 0) ++ leBytes 4 (s.fieldWord .sup 0 0x800 false) ++
    leBytes 4 (s.fieldWord .const 0 8 false) ++ leBytes 2 s.fwVersion ++ leBytes 1 (s.fld SUP_PWR_STATE 0) ++
    leBytes 1 s.plevel ++ leBytes 1 (s.sessPriv c.transport c.peer) ++ leBytes 7 0

/-- INFO (R454). -/
def execInfo (t : Fin 3) (ok : Bool) (s : State) : Host.Outcome State Fault Refusal :=
  .next (s.runQuick t.val (fun op => decide (op = 1)) (fun c s => s.gated c (fun s =>
    match c.badData 0 (2 ^ 32) false with
    | some o => s.badCmd o
    | none => s.withOutput c ok (s.infoBytes c))))

/-- SESSION_OPEN (R467, R471). -/
def execSessionOpen (t : Fin 3) (ok : Bool) (s : State) : Host.Outcome State Fault Refusal :=
  .next (s.runQuick t.val (fun op => decide (op = 2)) (fun c s => s.gated c (fun s =>
    match c.badData 0 (2 ^ 32) false with
    | some o => s.badCmd o
    | none =>
      if 0 < s.lockLeft t.val then some { state := s, status := 4, info := s.lockLeft t.val }
      else
        let (n, s) := s.newNonce c.transport c.peer
        s.withOutput c ok n)))

/-- SESSION_AUTH (R467, R470, R471). -/
def execSessionAuth (t : Fin 3) (mem : Option (List Byte)) (s : State) : Host.Outcome State Fault Refusal :=
  .next (s.runQuick t.val (fun op => decide (op = 3)) (fun c s => s.gated c (fun s =>
    match c.badData 32 (2 ^ 32) true with
    | some o => s.badCmd o
    | none => s.withInput c 32 mem (fun l s =>
      let (s, st, info) := s.authenticate c.transport c.peer l
      some { state := s, status := st, info := info }))))

/-- SESSION_CLOSE (R472). -/
def execSessionClose (t : Fin 3) (s : State) : Host.Outcome State Fault Refusal :=
  .next (s.runQuick t.val (fun op => decide (op = 4)) (fun c s => s.gated c (fun s =>
    match s.session c.transport c.peer with
    | some k => (s.sessClose k).okay
    | none => s.okay)))

/-- WAKE (R454, R504, R505). -/
def execWake (t : Fin 3) (s : State) : Host.Outcome State Fault Refusal :=
  .next (s.runQuick t.val (fun op => decide (op = 5)) (fun c s => s.gated c (fun s => (s.wake 4).okay)))

/-! ### Data space (R19, R454) -/

/-- READ_MEM and WRITE_MEM: the byte offset of the field that refuses them. -/
def HostCmd.badMem (c : HostCmd) (write : Bool) : Option Nat :=
  if c.transport = 1 then some 0
  else if c.dspace = false then some 4
  else if 2 ^ 32 ≤ c.addr then some 8
  else if c.len < 16 ∨ 4096 < c.len ∨ c.len % 16 ≠ 0 then some 16
  else if write = true ∧ c.data.length < c.len then some 16
  else none

/-- READ_MEM (R454). -/
def execReadMem (t : Fin 3) (s : State) : Host.Outcome State Fault Refusal :=
  .next (s.runQuick t.val (fun op => decide (op = 0x10)) (fun c s => s.gated c (fun s =>
    match c.badMem false with
    | some o => s.badCmd o
    | none => s.withInput c c.len none (fun l s => s.okay l))))

/-- WRITE_MEM (R454). -/
def execWriteMem (t : Fin 3) (s : State) : Host.Outcome State Fault Refusal :=
  .next (s.runQuick t.val (fun op => decide (op = 0x11)) (fun c s => s.gated c (fun s =>
    match c.badMem true with
    | some o => s.badCmd o
    | none =>
      if !s.pieceOpen c.addr (max 1 c.len) then none
      else
        let s := s.spacePut c.mover c.addr (c.data.take c.len)
        if spaceBacked c.addr c.len then s.okay else s.busErr c.addr)))

/-! ### Programs (R205, R206, R382, R383) -/

/-- The failed check of an Ursen program file for sequencer `q`, by its place in R206's order. -/
def State.seqFileBad (s : State) (q : Nat) (l : List Byte) : Option Nat :=
  let entry := pieceNum l 8 4
  let ilen := pieceNum l 12 4
  let dlen := pieceNum l 16 4
  let doff := pieceNum l 20 4
  if crc32c (piece l 0 28) ≠ pieceNum l 28 4 then some 1
  else if pieceNum l 0 4 ≠ 0x5552534E then some 2
  else if pieceNum l 4 2 ≠ 1 then some 3
  else if entry % 4 ≠ 0 ∨ ilen ≤ entry ∨ ilen % 4 ≠ 0 ∨ ilen < 4 ∨ 65536 < ilen ∨ 65536 < dlen ∨ 65536 < doff + dlen ∨
      l.length < 64 + ilen + dlen then some 4
  else if bitOf (pieceNum l 6 2) 0 then some 5
  else if (s.seq q).st ≠ .halted ∧ (s.seq q).st ≠ .faulted then some 6
  else if crc32c (piece l 64 (ilen + dlen)) ≠ pieceNum l 24 4 then some 7
  else none

/-- Load a checked Ursen program file. -/
def State.seqFileLoad (s : State) (q : Nat) (l : List Byte) : State :=
  let ilen := pieceNum l 12 4
  let x := s.seq q
  (s.setSeq q { x with
    imem := writeBytes [] 0 (piece l 64 ilen)
    dmem := writeBytes x.dmem (pieceNum l 20 4) (piece l (64 + ilen) (pieceNum l 16 4)) }).setFld SEQ_ENTRY_ADDR q (pieceNum l 8 4)

/-- The longest file that a load reads: header and both bodies. -/
def longestFile : Nat := 64 + 2 * 65536

/-- SEQ_LOAD (R206). -/
def execSeqLoad (t : Fin 3) (mem : Option (List Byte)) (s : State) : Host.Outcome State Fault Refusal :=
  .next (s.runQuick t.val (fun op => decide (op = 0x20)) (fun c s => s.gated c (fun s =>
    match c.badData 64 (2 ^ 32) true with
    | some o => s.badCmd o
    | none =>
      if 31 < c.arg0 then s.badCmd 20
      else s.withInput c (min c.len longestFile) mem (fun l s =>
        match s.seqFileBad c.arg0 l with
        | some k => (s.raise 0x070D supSrc [c.arg0, k]).refusedBy 0x070D
        | none =>
          let s := s.seqFileLoad c.arg0 l
          (if bitOf c.arg1 0 then s.seqStart c.arg0 else s).okay))))

/-- SEQ_CTRL (R182, R454). -/
def execSeqCtrl (t : Fin 3) (s : State) : Host.Outcome State Fault Refusal :=
  .next (s.runQuick t.val (fun op => decide (op = 0x21)) (fun c s => s.gated c (fun s =>
    if 31 < c.arg0 then s.badCmd 20
    else if 3 < c.arg1 then s.badCmd 24
    else
      let s := if bitOf c.arg2 31 then s.setFld SEQ_ENTRY_ADDR c.arg0 (c.arg2 % 2 ^ 16 / 4 * 4) else s
      (s.seqCtrl c.arg0 (2 ^ (31 - c.arg1))).okay)))

/-- The failed check of an engine program file for engine `e`, by its place in R383's order. -/
def State.seFileBad (s : State) (e : Nat) (l : List Byte) : Option Nat :=
  let ilen := pieceNum l 16 4
  let dlen := pieceNum l 20 4
  let doff := pieceNum l 24 4
  if crc32c (piece l 0 32) ≠ pieceNum l 32 4 then some 1
  else if pieceNum l 0 4 ≠ 0x53454E47 then some 2
  else if pieceNum l 4 2 ≠ 1 then some 3
  else if ilen % 8 ≠ 0 ∨ ilen < 8 ∨ 32768 < ilen ∨ ilen / 8 ≤ pieceNum l 8 2 ∨ 65536 < dlen ∨ 65536 < doff + dlen ∨
      l.length < 64 + ilen + dlen then some 4
  else if s.seState e ≠ 0 ∧ s.seState e ≠ 3 then some 5
  else if crc32c (piece l 64 (ilen + dlen)) ≠ pieceNum l 28 4 then some 6
  else none

/-- Load a checked engine program file. -/
def State.seFileLoad (s : State) (e : Nat) (l : List Byte) : State :=
  let ilen := pieceNum l 16 4
  let x := s.engine e
  let s := s.setEngine e { x with
    imem := writeBytes [] 0 (piece l 64 ilen)
    dmem := writeBytes x.dmem (pieceNum l 24 4) (piece l (64 + ilen) (pieceNum l 20 4)) }
  ((s.setFld SE_ENTRY_WORD e (pieceNum l 8 2)).setFld SE_VEC_VEC1 e (pieceNum l 10 2)).setFld SE_VEC_VEC2 e (pieceNum l 12 2)

/-- SE_LOAD (R383). -/
def execSeLoad (t : Fin 3) (mem : Option (List Byte)) (s : State) : Host.Outcome State Fault Refusal :=
  .next (s.runQuick t.val (fun op => decide (op = 0x22)) (fun c s => s.gated c (fun s =>
    match c.badData 64 (2 ^ 32) true with
    | some o => s.badCmd o
    | none =>
      if 15 < c.arg0 then s.badCmd 20
      else s.withInput c (min c.len longestFile) mem (fun l s =>
        match s.seFileBad c.arg0 l with
        | some k => (s.raise 0x0808 supSrc [c.arg0, k]).refusedBy 0x0808
        | none =>
          let s := s.seFileLoad c.arg0 l
          (if bitOf c.arg1 0 then s.seStart c.arg0 else s).okay))))

/-- SE_CTRL (R379, R454). -/
def execSeCtrl (t : Fin 3) (s : State) : Host.Outcome State Fault Refusal :=
  .next (s.runQuick t.val (fun op => decide (op = 0x23)) (fun c s => s.gated c (fun s =>
    if 15 < c.arg0 then s.badCmd 20
    else if 3 < c.arg1 then s.badCmd 24
    else
      let s := if bitOf c.arg2 31 then s.setFld SE_ENTRY_WORD c.arg0 (c.arg2 % 2 ^ 16) else s
      (match c.arg1 with
        | 0 => s.seStart c.arg0
        | 1 => s.seResume c.arg0
        | 2 => s.seHalt c.arg0
        | _ => s.seStep c.arg0).okay)))

/-! ### What the supervisor executes for the host (R245, R246, R454) -/

/-- GRANT (R245, R454, R469). -/
def execGrant (t : Fin 3) (s : State) : Host.Outcome State Fault Refusal :=
  .next (s.runQuick t.val (fun op => decide (op = 0x24)) (fun c s => s.gated c (fun s =>
    if 32 < c.arg0 then s.badCmd 20
    else
      let a := c.addr % 2 ^ 32
      let priv := s.sessPriv c.transport c.peer
      let s := s.own a c.arg0
      match c.blk with
      | none => s.refusedBy 0x0708
      | some (.flash, _, _) => (s.mapFlash (fun f => { f with privs := priv })).okay
      | some _ => s.okay)))

/-- The supervisor executes SRST of kind `m` (R246). -/
def State.srstNow (s : State) (m addr : Nat) : State :=
  if m = 3 then s.requestWarm 3
  else
    match cfgDecode (addr % 2 ^ 31) with
    | some (.seq, n, _) => s.seqReset n
    | some (.se, e, _) => s.seReset e
    | some (.zone, k, _) => if s.surveyed k then s.surveyCause k (.reset k) else s.zoneReset k
    | _ => s

/-- RESET (R246, R454). -/
def execReset (t : Fin 3) (s : State) : Host.Outcome State Fault Refusal :=
  .next (s.runQuick t.val (fun op => decide (op = 0x25)) (fun c s => s.gated c (fun s =>
    let a := c.addr % 2 ^ 32
    if 3 < c.arg0 then s.badCmd 20
    else if srstOk c.arg0 a then (s.srstNow c.arg0 a).okay
    else (s.raise 0x0708 supSrc [32, a]).refusedBy 0x0708)))

/-! ### Remote sessions (R472) -/

/-- What RELAY comes to before its answer: an end, or the message to send; none where it waits for its input. -/
def State.relayTry (s : State) (c : HostCmd) (mem : Option (List Byte)) : Option Done :=
  s.gated c (fun s =>
    match c.badData 32 4128 true with
    | some o => s.badCmd o
    | none =>
      if 511 < c.arg0 then s.badCmd 20
      else s.withInput c c.len mem (fun l s =>
        if s.reachable c.arg0 then s.okay l else (s.raise 0x070E supSrc [32, c.arg0]).refusedBy 0x070E))

/-- RELAY (R472): the message goes to the device in SESSION frames, and the command waits in its lane for the answer. -/
def execRelay (t : Fin 3) (mem : Option (List Byte)) (s : State) : Host.Outcome State Fault Refusal :=
  match s.quickHead t.val with
  | none => .next s
  | some c =>
    if decide (c.op = 0x50) && s.runnable t.val then
      match (s.mapHost (fun h => { h with quick := h.quick.erase c })).relayTry c mem with
      | none => .next s
      | some d =>
        if d.status = 0 then
          .next (State.sendPieces c.arg0 17 d.out
            (d.state.mapHost (fun h => { h with quick := s.hostSide.quick.replace c { c with sent := true } })))
        else .next (c.ends d)
    else .next s

end Sys2Proof.Machine
end

