-- ==== Sys2Proof/Machine/LongCommands.lean ====
section
/-! DEFINITION. The long host commands, reserved operations and the SESSION frames of remote sessions (R294, R404, R454, R455,
R469, R472). -/

namespace Sys2Proof.Machine

open Sys2Proof.F

/-- Run the oldest long command, if nothing refuses it before its own checks, which `f` makes. Privileges and what else may refuse
it are judged when it starts (R454): once its work on the flash has begun, it goes on, and `g` ends it when that work is over;
none where it must wait. -/
def State.runGated (s : State) (op : Nat) (f : HostCmd → State → Option Done) (g : HostCmd → SupJob → State →
  Option Done := fun _ _ _ => none) :
    State :=
  s.runLong op (fun c s =>
    match s.job longKey with
    | some j => if s.jobOver j && s.warm.isNone then g c j (s.jobDrop longKey) else none
    | none => s.gated c (fun s => f c s))

/-- The supervisor may read every bank and write a selector record now (R393, R412), and no warm reset is pending (R486). -/
def State.selReady (s : State) : Bool := (List.range 4).all s.bankFree && s.selOpen && s.warm.isNone

/-- The supervisor may program a page of global block `b` now. -/
def State.pageReady (s : State) (b : Nat) : Bool := (s.bank (b / 64)).takes 2 (b % 64) && s.warm.isNone

/-- The work that erases `n` blocks from global block `b` on and then copies `len` bytes of the Caldera, from `src` on, into their
pages. -/
def copyJob (b n src len : Nat) : SupJob where
  key := longKey
  todo := (List.range n).map (fun i => .erase (b + i)) ++
    (List.range ((len + 511) / 512)).map (fun i => .copy (256 * b + i) (src + 512 * i) (min 512 (len - 512 * i)))
  fin := .long []

/-! ### Images (R294, R454) -/

/-- Store blocks that an image of `len` bytes occupies. -/
def storeBlocks (len : Nat) : Nat := (len + 131071) / 131072

/-- The store blocks of the image that a selector names at `p` overlap those from `b` on. -/
def State.overlaps (s : State) (p b n : Nat) : Bool :=
  decide (p ≤ 175) && decide (b < p + storeBlocks (imgLength (imgMask (s.storeImage p)))) && decide (p < b + n)

/-- Why an installation is refused (R294): 1 its blocks overlap a named image, 2 they run past store block 175. -/
def State.installRefused (s : State) (b n : Nat) : Option Nat :=
  let hit := match s.selector with
    | none => false
    | some x => s.overlaps x.primary b n || s.overlaps x.alternate b n
  if hit then some 1 else if 176 < b + n then some 2 else none

/-- The use of an image by an installation, read back from the store (R279, R280). -/
def installUse (b src : Nat) : ImgUse where
  use := 3
  perm := 2 ^ 64 - 1
  size := min (storeSize b) (calderaSize - src)

/-- The selector record after an installation: 1 as primary, 2 as alternate (R294). -/
def Selector.names (x : Selector) (how b : Nat) (digest : List Byte) : Selector :=
  if how = 1 then { x with primary := b, pdigest := digest, alternate := x.primary, adigest := x.pdigest }
  else { x with alternate := b, adigest := digest }

/-- Steps 1 and 2 of R294 begin, unless the installation is refused. -/
def State.install (s : State) (src b : Nat) : Option Done :=
  let len := imgLength (imgMask (s.calderaImage src))
  let n := storeBlocks len
  match s.installRefused b n with
  | some r => (s.raise 0x0511 loaderSrc [b, r]).refusedBy 0x0511
  | none => ((s.touch (agent 5 32) src len).jobStart (copyJob (b + 16) n src len)).goesOn

/-- Steps 3 and 4 of R294: the copy is read back and checked, and the selector record written. -/
def State.installEnd (s : State) (src b how : Nat) : Option Done :=
  let rd := s.storeImage b
  let bad := imgCheck rd (installUse b src) (storeAddr b)
  let r := s.imageRead b
  match bad with
  | some f => (r.raise f.code loaderSrc f.detail).refusedBy f.code
  | none =>
    if how = 0 then r.okay
    else
      match s.selector with
      | none => (r.raise 0x050A loaderSrc []).refusedBy 0x050A
      | some x => if s.selOpen then (r.selWrite (x.names how b (imgBytes rd 32 32))).okay else none

/-- IMG_INSTALL (R294, R454). -/
def execImgInstall (s : State) : Host.Outcome State Fault Refusal :=
  .next (s.runGated 0x30 (fun c s =>
    if calderaSize ≤ c.addr then s.badCmd 8
    else if 2 < c.arg1 then s.badCmd 24
    else if !s.pieceOpen c.addr (imgLength (imgMask (s.calderaImage c.addr))) || s.warm.isSome then none
    else s.install c.addr c.arg0) (fun c _ s => s.installEnd c.addr c.arg0 c.arg1))

/-- The first failed check of an image that IMG_SELECT names; a block outside the store holds no header. -/
def State.selectCheck (s : State) (b : Nat) : Option ImgFail :=
  if b = 0xFFFF then none
  else if 175 < b then some ⟨1, 0x0501, [0, storeAddr b % 2 ^ 32]⟩
  else imgCheck (s.storeImage b) { use := 0, perm := 2 ^ 64 - 1, size := storeSize b } (storeAddr b)

/-- DIGEST of a named image; none named, zeros. -/
def State.namedDigest (s : State) (b : Nat) : List Byte :=
  if 175 < b then List.replicate 32 0 else imgBytes (s.storeImage b) 32 32

/-- Check the images and write the selector record (R454). -/
def State.imgSelect (s : State) (p a fallback : Nat) : Option Done :=
  let fail := match s.selectCheck p with
    | some f => some f
    | none => s.selectCheck a
  match fail, s.selector with
  | some f, _ => (((s.imageRead p).imageRead a).raise f.code loaderSrc f.detail).refusedBy f.code
  | none, none => (s.raise 0x050A loaderSrc []).refusedBy 0x050A
  | none, some x =>
    ((((s.imageRead p).imageRead a).selWrite { x with
      primary := p, pdigest := s.namedDigest p, alternate := a, adigest := s.namedDigest a
      flags := x.flags / 2 * 2 + fallback })).okay

/-- IMG_SELECT (R454). -/
def execImgSelect (s : State) : Host.Outcome State Fault Refusal :=
  .next (s.runGated 0x31 (fun c s =>
    if 0xFFFF < c.arg0 then s.badCmd 20
    else if 0xFFFF < c.arg1 then s.badCmd 24
    else if 1 < c.arg2 then s.badCmd 28
    else if !s.selReady then none
    else s.imgSelect c.arg0 c.arg1 c.arg2))

/-- STATE. -/
def State.notState (s : State) : Option Done := some { state := s, status := 7, info := s.bootBits }

/-- IMG_RELOAD (R292, R454). -/
def execImgReload (s : State) : Host.Outcome State Fault Refusal :=
  .next (s.runGated 0x32 (fun _ s =>
    if !s.bit SUP_BOOT_CFGERR 0 then s.notState
    else if !(List.range 4).all s.bankFree || !s.journalOpen || s.warm.isSome then none
    else
      let s := s.powerUpLoad
      if s.bit SUP_BOOT_CFGERR 0 then s.refusedBy 0x050C else s.okay))

/-! ### Flash (R404, R454, R469) -/

/-- A descriptor of a command has completed (R391, R394, R454): INFO and STATUS are written back where it lies in memory, and the
command ends with its code. -/
def State.descDone (s : State) (c : HostCmd) (code corr info : Nat) : Option Done :=
  let s : State :=
    if c.dspace then
      if s.spaceOpen c.addr then
        (s.spacePut (.command c.transport) (c.addr + 28) (leBytes 4 info)).spacePut (.command c.transport) (c.addr + 24)
          (leBytes 4 (statusWord code corr))
      else s
    else if c.transport = 1 then
      { s with out := s.out ++ [.pcie (c.addr + 28) (leBytes 4 info), .pcie (c.addr + 24) (leBytes 4 (statusWord code corr))] }
    else s
  some { state := s, status := 0, info := code }

/-- FLASH_DESC (R454, R469): `mem` is the descriptor where it lies in host memory, `data` what the buffer holds there. -/
def execFlashDesc (mem : Option (List Byte)) (data : Option (List Byte)) (s : State) : Host.Outcome State Fault Refusal :=
  .next (s.runGated 0x40 (fun c s =>
    match c.badData 32 (2 ^ 32) true with
    | some o => s.badCmd o
    | none =>
      if s.ready 2 = false ∨ s.warm.isSome = true then none
      else s.withInput c 32 mem (fun l s =>
        let d := descOf 0 l
        if s.recovery && decide (d.op ≠ 8) then s.notState
        else
          match s.flashDesc (.command c.transport) d s.hostQ (s.sessPriv c.transport c.peer) data with
          | none => none
          | some (s, none) => s.goesOn
          | some (_, some e) => e.state.descDone c e.code e.corr e.info))
    (fun c j s => match s.jobFin j with
      | some s => s.descDone c 1 0 0
      | none => none))

/-- A parameter record is stored in the active boot block's parameter block, after those that `keep` brings back (R404). -/
def State.paramStore (s : State) (keep : Store Nat) (kind v : Nat) : State :=
  let b := s.fld FLASH_STATUS_ACTBOOT 0
  (s.paramPage b).mapFlash (fun f => { f with
    params := storeSet 0 (keep.foldl (fun m c => storeSet 0 m c.1 c.2) f.params) (16 * b + kind) (v + 1) })

/-- PARAM_WRITE begins: a parameter block that is full is erased first. -/
def State.paramStart (s : State) (kind v : Nat) : Option Done :=
  let b := s.fld FLASH_STATUS_ACTBOOT 0
  if storeGet 0 s.flash.pages (8 * b + 7) < 256 then (s.paramStore [] kind v).okay
  else
    (s.jobStart { key := longKey, todo := [.erase (8 * b + 7)],
                  fin := .long (s.flash.params.filter (fun c => decide (c.1 / 16 = b))) }).goesOn

/-- PARAM_WRITE (R454): PRIO has 8 bits, PREF a device number with its valid bit (R444). -/
def execParamWrite (s : State) : Host.Outcome State Fault Refusal :=
  .next (s.runGated 0x41 (fun c s =>
    if c.arg0 = 0 ∨ 3 < c.arg0 then s.badCmd 20
    else if (c.arg0 = 1 ∧ 255 < c.arg1) ∨ (c.arg0 = 2 ∧ bitsOf c.arg1 9 22 ≠ 0) then s.badCmd 24
    else if !s.pageReady (8 * s.fld FLASH_STATUS_ACTBOOT 0 + 7) then none
    else s.paramStart c.arg0 c.arg1)
    (fun c j s => (s.paramStore (match j.fin with
      | .long keep => keep
      | _ => []) c.arg0 c.arg1).okay))

/-- The first selector record, where none is valid (R405, R454): no images, the journal's present epoch. -/
def State.newSelector (s : State) (b : Nat) : Selector where
  seq := 0
  actboot := b
  flags := 0
  primary := 0xFFFF
  alternate := 0xFFFF
  pdigest := List.replicate 32 0
  adigest := List.replicate 32 0
  jepoch := s.flash.jepoch
  wear := s.wearMap
  undefMap := s.undefMap

/-- Firmware from the Caldera goes into a boot block (R405, R454). -/
def State.fwInstall (s : State) (src len b : Nat) : Option Done :=
  ((s.touch (agent 5 32) src (max 1 len)).jobStart (copyJob (8 * b) 7 src len)).goesOn

/-- The firmware is checked, and a selector record names it. -/
def State.fwEnd (s : State) (b : Nat) : Option Done :=
  match s.fwCheck b true with
  | some _ => (s.arrayRead [(0x100000 * b, 917504)]).refusedBy 0
  | none =>
    if !s.selOpen then none
    else
      ((s.arrayRead [(0x100000 * b, 917504)]).selWrite (match s.selector with
        | some x => { x with actboot := b }
        | none => s.newSelector b)).okay

/-- FW_INSTALL (R405, R454, R466). -/
def execFwInstall (s : State) : Host.Outcome State Fault Refusal :=
  .next (s.runGated 0x42 (fun c s =>
    if !s.recovery then s.notState
    else if 1 < c.arg0 then s.badCmd 20
    else if 917504 < c.len then s.badCmd 16
    else if calderaSize < c.addr + c.len then s.badCmd 8
    else if !s.pieceOpen c.addr (max 1 c.len) || s.warm.isSome then none
    else s.fwInstall c.addr c.len c.arg0) (fun c _ s => s.fwEnd c.arg0))

/-! ### Reserved operations and remote sessions (R454, R472) -/

/-- BADCMD (R454): a reserved OP; a power state that accepts no such command comes first. -/
def execBadcmd (t : Fin 3) (s : State) : Host.Outcome State Fault Refusal :=
  .next (s.runQuick t.val (fun op => !knownOp op) (fun c s =>
    match s.notNow c with
    | some (st, info) => some { state := s, status := st, info := info }
    | none => s.badCmd 0))

/-- A RELAY's answer has come: it ends with the remote completion and its output (R472). -/
def State.relayEnds (s : State) (src : Nat) (out : List Byte) : State :=
  match s.hostSide.quick.find? (fun c => c.sent && decide (c.arg0 = src)) with
  | none => s
  | some c => (s.mapHost (fun h => { h with quick := h.quick.erase c })).complete c 0 0 out

/-- SESSION_FRAME (R472): a message of device `src`'s remote session, or the answer to a RELAY. -/
def execSessionFrame (src : Fin 512) (m : SessionMsg) (s : State) : Host.Outcome State Fault Refusal :=
  let s := s.frameFrom src.val
  if !s.inTree then .next s
  else
    match m with
    | .command h data => .next (s.cmdIn (cmdOf 2 src.val (leBytes 32 h.toNat) data))
    | .answer completion output => .next (s.relayEnds src.val (leBytes 16 completion.toNat ++ output))

end Sys2Proof.Machine
end

