-- ==== Sys2Proof/Machine/Boot.lean ====
section
/-! DEFINITION. The boot ROM, the supervisor's start, and what a warm reset does: R33, R173, R204, R287, R381, R398 to R400,
R402 to R405, R423, R482, R486 to R489, R494, R508. -/

namespace Sys2Proof.Machine

open Sys2Proof.F

/-! ### Which firmware runs (R403 to R405) -/

/-- What the boot ROM comes to: firmware from a boot block, or the recovery loader. -/
inductive BootFrom where
  | firmware (b : Nat)
  | recovery
  deriving DecidableEq, Repr

/-- The parts of the boot blocks that the boot ROM has read: the header and the loaded parts of what it tried. -/
def BootFrom.reads : BootFrom → List (Nat × Nat)
  | .firmware b => [(0x100000 * b, 512 + 131072)]
  | .recovery => [(0, 512 + 131072), (0x100000, 512 + 131072)]

/-- The boot ROM's choice (R405): a selector record in force and a boot block that passes; the part's MODE pins may ask for
the recovery loader (R529). -/
def State.bootFrom (s : State) : State × BootFrom :=
  match s.selector with
  | none => (s.raise 0x050A loaderSrc [], .recovery)
  | some x =>
    if 2 ≤ s.modePins then (s, .recovery)
    else
      match s.fwCheck x.actboot false with
      | none => (s, .firmware x.actboot)
      | some k =>
        match s.fwCheck (1 - x.actboot) false with
        | none => (s.raise 0x0906 (srcOf 13 0) [x.actboot, k], .firmware (1 - x.actboot))
        | some _ => (s, .recovery)

/-- SUP's memories take the loaded parts of the firmware, and SUP runs from its first word (R404, log entry 57). -/
def State.loadFirmware (s : State) (b : Nat) : State :=
  let rd := s.bootByte b
  let ilen := imgNum rd 8 4
  let s : State := { s with fwVersion := imgNum rd 4 2 }
  let s := s.mapSeq 32 (fun x => { x with
    imem := writeBytes [] 0 (imgBytes rd fwStart ilen)
    dmem := writeBytes [] 0 (imgBytes rd (fwStart + ilen) (imgNum rd 12 4)) })
  (s.setFld SEQ_ENTRY_ADDR 32 0).seqStart 32

/-- The recovery loader runs in place of the firmware (R405): CFGERR_N is low. -/
def State.startRecovery (s : State) : State := { s with recovery := true, cfgerr := true }

/-- The supervisor's program starts: firmware or recovery loader; the watchdog's time begins (R498), and the command queue is
read (R489). -/
def State.supStarts (s : State) (f : BootFrom) (bits : List Nat) (entries : List (BitVec 256)) : State :=
  let s := match f with
    | .firmware b => { (s.loadFirmware b) with recovery := false }
    | .recovery => s.startRecovery
  let s := bits.foldl (fun s k => s.setReady k true) { s with booting := none, kickAt := s.tickNo, wdogOut := false }
  State.fetchCmds entries s

/-! ### What the supervisor finds in flash (R398, R399, R402 to R404) -/

/-- The journal records in force, in the order of their pages. -/
def State.journalRecs (s : State) : List (List Byte) := (List.range 256).filterMap s.journalRec

/-- Blocks with an ERASE_INTENT that no later ERASE_DONE follows. -/
def openIntents : List (List Byte) → List Nat
  | [] => []
  | r :: rest =>
    let b := pieceNum r 12 4
    let done := rest.any (fun x => decide (pieceNum x 4 1 = 2) && decide (pieceNum x 12 4 = b))
    if pieceNum r 4 1 = 1 ∧ done = false ∧ b < 256 then b :: openIntents rest else openIntents rest

/-- The set of undefined blocks, with a record for each (R399). -/
def State.formUndef (s : State) (x : Selector) : State :=
  let named := (List.range 256).filter (fun b => bitOf x.undefMap b)
  let l := named ++ openIntents s.journalRecs
  ((List.range 256).filter (fun b => l.contains b)).foldl (fun s b => (s.setUndef b true).raise 0x0903 (srcOf 13 0) [b]) s

/-- Writes of a plane that the journal counts; `p` is the plane's byte in a WEAR record. -/
def wearRecs (l : List (List Byte)) (p : Nat) : Nat :=
  l.foldl (fun n r =>
    if pieceNum r 4 1 = 3 then n + ((piece r 16 (min 16 (pieceNum r 12 4))).filter (fun b => decide (b.toNat = p))).length
    else n) 0

/-- The wear counts of the planes (R402). -/
def State.formWear (s : State) (x : Selector) : State :=
  let l := s.journalRecs
  (List.range 64).foldl (fun s z =>
    (s.setFld ZONE_WEAR_A_COUNT z (pieceNum x.wear (6 * z) 3 + wearRecs l z)).setFld ZONE_WEAR_B_COUNT z
      (pieceNum x.wear (6 * z + 3) 3 + wearRecs l (z + 128))) s

/-- A parameter record of the active boot block (R404, R454); none stored, the register's own reset value. -/
def State.param (s : State) (kind : Nat) : Option Nat :=
  match storeGet 0 s.flash.params (16 * s.fld FLASH_STATUS_ACTBOOT 0 + kind) with
  | 0 => none
  | v + 1 => some v

/-- Registers that take stored parameters (R423, R454, R480). -/
def State.applyParams (s : State) : State :=
  let s := match s.param 1 with
    | some v => s.setFld CONST_PRIO_PRIO 0 v
    | none => s
  match s.param 2 with
  | some v => (s.setFld CONST_PREF_NUM 0 (v % 512)).setFld CONST_PREF_VALID 0 (v / 2 ^ 31)
  | none => s

/-- HOST.PCIEID is loaded from the parameter block at every power-on reset (R480). -/
def State.loadPcieId (s : State) : State :=
  match s.param 3 with
  | some v => (s.setFld HOST_PCIEID_SSID 0 (v % 2 ^ 16)).setFld HOST_PCIEID_SSVID 0 (v / 2 ^ 16)
  | none => s

/-- The stored bands of the loops (R55): the parameter records hold them as the firmware left them, a free value. -/
def State.applyBands (s : State) : State :=
  let (f, s) := s.freeNat
  (((s.setFld TIME_TPLL_0_BAND 0 (f % 64)).setFld TIME_TPLL_0_BANDVALID 0 (f / 64 % 2)).setFld TIME_TPLL_1_BAND 0
    (f / 128 % 64)).setFld TIME_TPLL_1_BANDVALID 0 (f / 8192 % 2)

/-- An interrupted rollover is finished (R398, R414). -/
def State.repeatRollover (s : State) (x : Selector) : State :=
  if bitOf x.flags 1 then ((s.setBit FLASH_STATUS_JERASE 0 true).raise 0x090A (srcOf 13 0) [x.jepoch]).rollEnd x else s

/-- The selector record is in force: SELSEQ and ACTBOOT show it, and the journal's epoch is its own (R402, R403). -/
def State.useSelector (s : State) : State :=
  match s.selFind with
  | none => s
  | some p =>
    let s := s.mapFlash (fun f => { f with sel := p, jpage := storeGet 0 f.pages 194 })
    match s.selector with
    | none => s
    | some x =>
      let s := s.mapFlash (fun f => { f with jepoch := x.jepoch })
      (s.setFld FLASH_SELSEQ_SEQ 0 x.seq).setFld FLASH_STATUS_ACTBOOT 0 x.actboot

/-- What the firmware sets up from the selector and the journal. -/
def State.useJournal (s : State) : State :=
  match s.selector with
  | none => s
  | some x => ((s.formUndef x).formWear x).arrayRead [(194 * 131072, 131072)] |>.repeatRollover x

/-- The lanes are enabled and P0 is reached (R423). -/
def State.enterP0 (s : State) : State :=
  ((List.range 8).foldl (fun s l => s.setBit LINK_CTRL_EN l true) (s.setPhase 0 true)).lanesStart

/-- The unique ID of the OTP row (R407). -/
def State.showUid (s : State) : State := (s.setFld FLASH_UID_LO_LO 0 (s.otpWord 0)).setFld FLASH_UID_HI_HI 0 (s.otpWord 4)

/-- A wake from STANDBY is reported (R508). -/
def State.wakeRecord (s : State) : State :=
  match s.wokeBy with
  | some w => { (s.raise 0x0C31 supSrc [4, w]) with wokeBy := none }
  | none => s

/-- What the firmware does at a power-on reset before it loads the zones. -/
def State.firmwareCold (s : State) : State := { s.applyParams.applyBands.enterP0 with loadDue := true }

/-- The start after a power-on reset (R399, R405, R482). -/
def State.startCold (s : State) (entries : List (BitVec 256)) : State :=
  let s := s.useSelector.showUid.loadPcieId
  let (s, f) := s.bootFrom
  let s := ((s.arrayRead ((192 * 131072, 262144) :: f.reads)).useJournal).supStarts f [0, 1, 2, 3, 11, 12] entries
  let s : State := { s with hrdy := true }
  (if s.recovery then s else s.firmwareCold).wakeRecord

/-- Firmware runs again after the recovery loader: what the loader left undone is due. -/
def State.afterRecovery (s : State) : State :=
  let s := if s.time.counting then (s.setReady 5 true).syncReady15 else s
  { s.firmwareCold with cfgerr := s.bit SUP_BOOT_CFGERR 0 }

/-- The start after a warm reset (R489). -/
def State.startWarm (s : State) (entries : List (BitVec 256)) : State :=
  let old := s.recovery
  let (s, f) := s.bootFrom
  let s := (s.arrayRead f.reads).supStarts f [0, 11, 12] entries
  let s := if old && !s.recovery then s.afterRecovery else s
  s.raise 0x0C04 supSrc [s.fld SUP_RESET_CAUSE 0, s.fld SUP_RESET_WARMCNT 0]

/-- SUPERVISOR_START (R405, R489): `entries` are the commands that the PCIe queue holds. -/
def execSupervisorStart (entries : List (BitVec 256)) (s : State) : Host.Outcome State Fault Refusal :=
  match s.booting with
  | none => .next s
  | some true => .next (s.startCold entries)
  | some false => .next (s.startWarm entries)

/-! ### The warm reset (R400, R486 to R489, R494) -/

/-- Erases that run or are suspended are aborted: their blocks are undefined (R400). -/
def State.abortErases (s : State) : State :=
  (List.range 4).foldl (fun s b =>
    (s.openErases b).foldl (fun s g => ((s.eraseLost g).setUndef g true).raise 0x0904 (srcOf 13 0) [g])
      (s.setBank b { s.bank b with op := 0, own := false, held := none, due := false })) s

/-- The supervisor's work is not resumed after the reset (R400): an OTP word that was being programmed is left so (R408), and a
long command in progress completes with ABORTED (R487). -/
def State.abortJobs (s : State) : State :=
  let s := if (s.job longKey).isNone then s
    else match s.hostSide.long with
      | c :: rest => (s.mapHost (fun h => { h with long := rest })).complete c 0x0B 0 []
      | [] => s
  { s with flash := { s.otpLost with jobs := [] }, free := s.free + s.flash.jobs.length }

/-- Descriptors that the controller has not reached, as they stand in the queue's memory; those of a queue in host memory
are not read. -/
def State.unreached (s : State) : List FlashDesc :=
  (List.range ((s.fld FLASH_QHEAD_HEAD 0 + 128 - s.flash.reach) % 128)).map (fun k =>
    let i := (s.flash.reach + k) % 128
    descOf i (if s.hostQ || !s.spaceOpen (s.descAddr i) then [] else (s.spaceBytes s.flashMaster (s.descAddr i) 32).1))

/-- Every uncompleted descriptor is written back ABORTED, with the pages it has done, and the queue is empty (R394, R400). -/
def State.abortQueue (s : State) : State :=
  let rest := s.unreached
  let s := (rest ++ s.flash.queue.filter (fun d => !d.done)).foldl (fun s d => s.flashComplete d 9 0 d.moved) s
  let h := s.fld FLASH_QHEAD_HEAD 0
  (s.mapFlash (fun f => { f with queue := [], reach := h, pausing := [] })).setFld FLASH_QTAIL_TAIL 0 h

/-- RELAYs that wait for their answers complete with ABORTED (R487). -/
def State.abortRelays (s : State) : State :=
  let l := s.hostSide.quick.filter (fun c => c.sent)
  l.foldl (fun s c => s.complete c 0x0B 0 []) (s.mapHost (fun h => { h with quick := h.quick.filter (fun c => !c.sent) }))

/-- A fatal warm reset is counted (R494); the third within 1 s of the first enters the safe state. -/
def State.countFatal (s : State) : State :=
  let s : State := if s.fld SUP_RESET_FATALCNT 0 = 0 then { s with fatalFirst := s.tickNo } else s
  let s := s.bump SUP_RESET_FATALCNT 0
  if s.fld SUP_RESET_FATALCNT 0 = 3 ∧ s.tickNo ≤ s.fatalFirst + secTicks then (s.enterSafe 3).raise 0x0C06 supSrc [3] else s

/-- Port sequencers, SUP and the engines are reset, SUP's arm and staging too, and PORT.LOCKED clears (R28, R173, R204, R381). -/
def State.warmUnits (s : State) : State :=
  let s := (List.range 33).foldl (fun s q => s.seqReset q) (s.dropArm .sup 0 0x10000)
  let s := (List.range 16).foldl (fun s e => s.seReset e) s
  (List.range 32).foldl (fun s p => s.setFld PORT_LOCKED_MASK p 0) s

/-- A warm reset takes effect (R486, R487); `c` is what SUP.RESET.CAUSE will show. -/
def State.warmReset (s : State) (c : Nat) : State :=
  let s := (s.abortErases.abortJobs.abortQueue.warmUnits.loadAbort 1)
  let s := s.surveyCause (s.fld SUP_SURVSTAT_ZONE 0) .warm
  let s := (List.range 4).foldl (fun s k => s.sessClose k) s.abortRelays
  let s := (s.setFld SUP_RESET_CAUSE 0 c).bump SUP_RESET_WARMCNT 0
  let s := if c = 4 ∨ c = 5 then s.countFatal else s
  { ([0, 11, 12].foldl (fun s k => s.setReady k false) s) with warm := none, booting := some false }

/-- WARM_RESET_EFFECT (R486). -/
def execWarmResetEffect (s : State) : Host.Outcome State Fault Refusal :=
  match s.warm with
  | none => .next s
  | some c => if (List.range 4).all s.bankFree then .next (s.warmReset c) else .next s

end Sys2Proof.Machine
end

