-- ==== Sys2Proof/Machine/Chassis.lean ====
section
/-! DEFINITION. The chassis port: sync alignment (R476), the PXI_CLK10 monitor (R477), and what the board does as a tick passes. -/

namespace Sys2Proof.Machine

open Sys2Proof.F

/-- The timestamp to which sync alignment steps (R476). -/
def State.syncValue (s : State) : Stamp :=
  BitVec.ofNat 64 (s.fld CHASSIS_SYNCVAL_LO_LO 0 + 2 ^ 32 * s.fld CHASSIS_SYNCVAL_HI_HI 0)

/-- CHASSIS.SYNCTS follows an edge of PXIe_SYNC100 (R476). -/
def State.syncSeen (s : State) (t : Stamp) : State :=
  { s.setBit CHASSIS_STATUS_SYNCOK 0 true with hostSide := { s.hostSide with syncTs := t, syncTick := s.tickNo } }

/-- The tick of the last rising edge of the PXI_TRIG line that CHASSIS.SYNC.TRIG names: the outside's, or the part's own where its
sill holds the line high. -/
def State.trigRise (s : State) : Option Nat :=
  let k := s.fld CHASSIS_SYNC_TRIG 0
  match s.chassisLevel k, (s.sill (1024 + k)).lastChange with
  | some true, some c => some (c.toNat / 32)
  | _, _ => if storeGet 0 s.hostSide.trigs k = 0 then none else some (storeGet 0 s.hostSide.trigs k - 1)

/-- That line has risen since ARM was set, 2 ticks ago or more (R476). -/
def State.trigDone (s : State) : Bool := s.trigRise.any (fun r => decide (s.hostSide.armAt ≤ r) && decide (r + 2 ≤ s.tickNo))

/-- SYNC100_EDGE (R476): the edge's timestamp is `t`; `trig` says that it is the first rising edge after the trigger line's rising
edge, by 2 ticks or more, which the line that TRIG names must have shown. Where the constellation owns the time base the arm is
ignored. -/
def execSync100Edge (t : Stamp) (trig : Bool) (s : State) : Host.Outcome State Fault Refusal :=
  let s := (s.reachStamp t).syncSeen t
  if s.bit CHASSIS_SYNC_ARM 0 && trig && s.trigDone && !s.constOwn then
    .next (((s.applyStep (s.syncValue - t)).setBit CHASSIS_SYNC_ARM 0 false).setBit CHASSIS_STATUS_ARMED 0 false)
  else .next s

/-- SYNCTS_LO (R480): a read takes the snapshot that SYNCTS_HI shows. -/
def execSynctsLo (_q : Fin 33) (s : State) : Host.Outcome State Fault Refusal :=
  .next { s with hostSide := { s.hostSide with syncSnap := s.hostSide.syncTs.toNat / 2 ^ 32 } }

/-- A window has measured PXI_CLK10 at `foff` ppb (R477); outside the tolerance of R40 the windows are counted anew. -/
def State.clk10Window (s : State) (foff : Nat) : State :=
  let s := s.setFld CHASSIS_CLK10_FOFF 0 foff
  if (signedOf 32 foff).natAbs ≤ 1000 * s.refTol then s
  else { s with hostSide := { s.hostSide with clk10Since := s.tickNo } }

/-- CLK10_QUALIFY (R40, R477): after QUAL windows in tolerance; `foff` is the offset in ppb that the last one measured. -/
def execClk10Qualify (foff : Word) (s : State) : Host.Outcome State Fault Refusal :=
  if s.bit CHASSIS_STATUS_CLK10OK 0 ||
    decide (1000 * s.refTol < (signedOf 32 foff.toNat).natAbs) then .next (s.clk10Window foff.toNat)
  else
    .next (((s.reachTick (s.hostSide.clk10Since + s.qualWindows * (100 * usTicks))).clk10Window foff.toNat).setBit
      CHASSIS_STATUS_CLK10OK 0 true)

/-- CLK10_LOSS (R477): the first loss after qualification is reported. -/
def execClk10Loss (foff : Word) (s : State) : Host.Outcome State Fault Refusal :=
  if s.bit CHASSIS_STATUS_CLK10OK 0 then
    let s := (s.setFld CHASSIS_CLK10_FOFF 0 foff.toNat).setBit CHASSIS_STATUS_CLK10OK 0 false
    .next ({ s with hostSide := { s.hostSide with clk10Since := s.tickNo } }.raise 0x0B0D (srcOf 17 0) [foff.toNat])
  else .next s

/-- What the board and the host do as a tick passes, without a row of the table, a free value (log entries 145 and 146): which
PXI_TRIG lines rise; that VCTL is gone in STANDBY; the PCIe function's configuration. -/
def HostSide.moves (h : HostSide) (tick f : Nat) (standby : Bool) : HostSide :=
  { h with
    trigs := (List.range 8).foldl (fun t k => if bitOf f k then storeSet 0 t k (tick + 1) else t) h.trigs
    vctlLost := standby && (h.vctlLost || bitOf f 8)
    pcie := { d3hot := bitOf f 9, payload := 128 * 2 ^ (f / 1024 % 3), readReq := 128 * 2 ^ (f / 4096 % 6) } }

/-- What SUP.MON shows follows the temperature and the supplies, a free value: the junction temperature, and that the temperature or
a supply is back in range (R501; log entry 145). -/
def State.monitors (s : State) (f : Nat) : State :=
  let hot := s.bit SUP_MON_HOT 0 && bitOf f 0
  ((s.setBit SUP_MON_HOT 0 hot).setFld SUP_MON_TJ 0 (if hot then 126 + f / 2 % 2 else (f / 4 % 254 + 128) % 256)).setFld SUP_MON_OUT 0
    (Nat.land (s.fld SUP_MON_OUT 0) (f / 1024))

/-- A tick passes on the board: SYNCOK clears when no edge of PXIe_SYNC100 has come for 100 µs (R480), a window of PXI_CLK10 may end
(R477), a blink of HRDY that is due begins when it can (R465), SUP.MON follows, and the control port stops without VCTL (R517). -/
def State.boardMoves (s : State) : State :=
  let (f, s) := s.freeNat
  let (g, s) := s.freeNat
  let (h, s) := s.freeNat
  let s : State := { s with hostSide := s.hostSide.moves s.tickNo f (decide (s.fld SUP_PWR_STATE 0 = 4)) }
  let s := if s.hostSide.syncTick + 100 * usTicks ≤ s.tickNo then s.setBit CHASSIS_STATUS_SYNCOK 0 false else s
  let s := if s.fld SUP_PWR_STATE 0 = 4 then s else s.monitors h
  let s := (if s.tickNo % (100 * usTicks) = 0 then s.clk10Window (g % 2 ^ 32) else s).blinkCatch
  { s with hrdy := s.hrdy && !s.hostSide.vctlLost }

end Sys2Proof.Machine
end

