-- ==== Sys2Proof/Machine/Dispatch.lean ====
section
/-! DEFINITION. One arm per command: its meaning, on everything but the queue. -/

namespace Sys2Proof.Machine

/-- The effect of a command. -/
def exec (i : Instr) (s : State) : Host.Outcome State Fault Refusal :=
  match i with
  | .powerGood cause mode vctl33 => Sys2Proof.Machine.execPowerGood cause mode vctl33 s
  | .powerOnReset porst => Sys2Proof.Machine.execPowerOnReset porst s
  | .serdesSupplyLoss vserh => Sys2Proof.Machine.execSerdesSupplyLoss vserh s
  | .supervisorStart entries => Sys2Proof.Machine.execSupervisorStart entries s
  | .powerUpLoad => Sys2Proof.Machine.execPowerUpLoad s
  | .zoneRebuild zone => Sys2Proof.Machine.execZoneRebuild zone s
  | .auditDone => Sys2Proof.Machine.execAuditDone s
  | .calderaCleared => Sys2Proof.Machine.execCalderaCleared s
  | .tpllLock band => Sys2Proof.Machine.execTpllLock band s
  | .bandFallback loop => Sys2Proof.Machine.execBandFallback loop s
  | .counterStart => Sys2Proof.Machine.execCounterStart s
  | .referenceQualify ref => Sys2Proof.Machine.execReferenceQualify ref s
  | .referenceLoss ref => Sys2Proof.Machine.execReferenceLoss ref s
  | .switchover phasePs => Sys2Proof.Machine.execSwitchover phasePs s
  | .shadowLock => Sys2Proof.Machine.execShadowLock s
  | .forcesw q v => Sys2Proof.Machine.execForcesw q v s
  | .slew q v => Sys2Proof.Machine.execSlew q v s
  | .slewDone => Sys2Proof.Machine.execSlewDone s
  | .stepgo q v => Sys2Proof.Machine.execStepgo q v s
  | .ppsEdge t => Sys2Proof.Machine.execPpsEdge t s
  | .ppsMissing => Sys2Proof.Machine.execPpsMissing s
  | .nowLo q => Sys2Proof.Machine.execNowLo q s
  | .mpllEn q n v => Sys2Proof.Machine.execMpllEn q n v s
  | .search q n v => Sys2Proof.Machine.execSearch q n v s
  | .hold q n v => Sys2Proof.Machine.execHold q n v s
  | .measureDone n fref => Sys2Proof.Machine.execMeasureDone n fref s
  | .hopDone n => Sys2Proof.Machine.execHopDone n s
  | .searchDone n band => Sys2Proof.Machine.execSearchDone n band s
  | .lockWindow n refCount fbCount => Sys2Proof.Machine.execLockWindow n refCount fbCount s
  | .reband n up => Sys2Proof.Machine.execReband n up s
  | .rateGuardSwallow n starts => Sys2Proof.Machine.execRateGuardSwallow n starts s
  | .heldExit n covers => Sys2Proof.Machine.execHeldExit n covers s
  | .encoderEdge n line rise t => Sys2Proof.Machine.execEncoderEdge n line rise t s
  | .countEdge n => Sys2Proof.Machine.execCountEdge n s
  | .indexEdge n => Sys2Proof.Machine.execIndexEdge n s
  | .launchpArrival q n x dir action ch width tag => Sys2Proof.Machine.execLaunchpArrival q n x dir action ch width tag s
  | .trackerCancel q n ch tag all => Sys2Proof.Machine.execTrackerCancel q n ch tag all s
  | .trackerAmend q n ch tag x => Sys2Proof.Machine.execTrackerAmend q n ch tag x s
  | .horizonBackstop n slot => Sys2Proof.Machine.execHorizonBackstop n slot s
  | .commitRetry n slot => Sys2Proof.Machine.execCommitRetry n slot s
  | .windowClose n slot => Sys2Proof.Machine.execWindowClose n slot s
  | .dropout n => Sys2Proof.Machine.execDropout n s
  | .coastAmend n => Sys2Proof.Machine.execCoastAmend n s
  | .coastLimit n => Sys2Proof.Machine.execCoastLimit n s
  | .standstill n => Sys2Proof.Machine.execStandstill n s
  | .trackerEn q n v => Sys2Proof.Machine.execTrackerEn q n v s
  | .posLo q n => Sys2Proof.Machine.execPosLo q n s
  | .positionComparator q => Sys2Proof.Machine.execPositionComparator q s
  | .entryArrival src e => Sys2Proof.Machine.execEntryArrival src e s
  | .fixing sill => Sys2Proof.Machine.execFixing sill s
  | .launchInstant sill => Sys2Proof.Machine.execLaunchInstant sill s
  | .trailingEdge sill => Sys2Proof.Machine.execTrailingEdge sill s
  | .sillAmend q target tag t => Sys2Proof.Machine.execSillAmend q target tag t s
  | .sillCancel q target tag all => Sys2Proof.Machine.execSillCancel q target tag all s
  | .laneAmendment n slot => Sys2Proof.Machine.execLaneAmendment n slot s
  | .laneCancellation n slot => Sys2Proof.Machine.execLaneCancellation n slot s
  | .captArrival q target e => Sys2Proof.Machine.execCaptArrival q target e s
  | .capture sill rise t => Sys2Proof.Machine.execCapture sill rise t s
  | .recordToRing sill => Sys2Proof.Machine.execRecordToRing sill s
  | .streamEntry lane ring ecc => Sys2Proof.Machine.execStreamEntry lane ring ecc s
  | .conversionDone sill code => Sys2Proof.Machine.execConversionDone sill code s
  | .sillEn q sill v => Sys2Proof.Machine.execSillEn q sill v s
  | .clrcnt q sill v => Sys2Proof.Machine.execClrcnt q sill v s
  | .cancelall q sill v => Sys2Proof.Machine.execCancelall q sill v s
  | .captLo q sill => Sys2Proof.Machine.execCaptLo q sill s
  | .nextLo q sill => Sys2Proof.Machine.execNextLo q sill s
  | .viocodeChange port code => Sys2Proof.Machine.execViocodeChange port code s
  | .portSet q port mask => Sys2Proof.Machine.execPortSet q port mask s
  | .portClr q port mask => Sys2Proof.Machine.execPortClr q port mask s
  | .portTgl q port mask => Sys2Proof.Machine.execPortTgl q port mask s
  | .holdTickEnd port pin => Sys2Proof.Machine.execHoldTickEnd port pin s
  | .captureResume port pin => Sys2Proof.Machine.execCaptureResume port pin s
  | .convEn q port v => Sys2Proof.Machine.execConvEn q port v s
  | .convready port => Sys2Proof.Machine.execConvready port s
  | .safeset q port mask => Sys2Proof.Machine.execSafeset q port mask s
  | .safeclr q port mask => Sys2Proof.Machine.execSafeclr q port mask s
  | .lock q port v => Sys2Proof.Machine.execLock q port v s
  | .lockmask q port v => Sys2Proof.Machine.execLockmask q port v s
  | .lockTimeout q port => Sys2Proof.Machine.execLockTimeout q port s
  | .atnEvent line rise t => Sys2Proof.Machine.execAtnEvent line rise t s
  | .atnDelivery line target => Sys2Proof.Machine.execAtnDelivery line target s
  | .atnEn q line v => Sys2Proof.Machine.execAtnEn q line v s
  | .tsLo q line => Sys2Proof.Machine.execTsLo q line s
  | .add q rd ra b => Sys2Proof.Machine.execAdd q rd ra b s
  | .sub q rd ra b => Sys2Proof.Machine.execSub q rd ra b s
  | .and q rd ra b => Sys2Proof.Machine.execAnd q rd ra b s
  | .or q rd ra b => Sys2Proof.Machine.execOr q rd ra b s
  | .xor q rd ra b => Sys2Proof.Machine.execXor q rd ra b s
  | .shl q rd ra b => Sys2Proof.Machine.execShl q rd ra b s
  | .shr q rd ra b => Sys2Proof.Machine.execShr q rd ra b s
  | .sar q rd ra b => Sys2Proof.Machine.execSar q rd ra b s
  | .mul q rd ra b => Sys2Proof.Machine.execMul q rd ra b s
  | .mulh q rd ra b => Sys2Proof.Machine.execMulh q rd ra b s
  | .cmp q ra b => Sys2Proof.Machine.execCmp q ra b s
  | .mov q rd b => Sys2Proof.Machine.execMov q rd b s
  | .movi q rd imm => Sys2Proof.Machine.execMovi q rd imm s
  | .movhi q rd imm => Sys2Proof.Machine.execMovhi q rd imm s
  | .tadd q td ta b => Sys2Proof.Machine.execTadd q td ta b s
  | .tsub q f => Sys2Proof.Machine.execTsub q f s
  | .tmov q f => Sys2Proof.Machine.execTmov q f s
  | .tcmp q ta b => Sys2Proof.Machine.execTcmp q ta b s
  | .tnow q td => Sys2Proof.Machine.execTnow q td s
  | .tpos q td mt => Sys2Proof.Machine.execTpos q td mt s
  | .ldw q r gb off => Sys2Proof.Machine.execLdw q r gb off s
  | .ldh q r gb off => Sys2Proof.Machine.execLdh q r gb off s
  | .ldb q r gb off => Sys2Proof.Machine.execLdb q r gb off s
  | .stw q r gb off => Sys2Proof.Machine.execStw q r gb off s
  | .sth q r gb off => Sys2Proof.Machine.execSth q r gb off s
  | .stb q r gb off => Sys2Proof.Machine.execStb q r gb off s
  | .ldt q t gb off => Sys2Proof.Machine.execLdt q t gb off s
  | .stt q t gb off => Sys2Proof.Machine.execStt q t gb off s
  | .illegalInstruction q word => Sys2Proof.Machine.execIllegalInstruction q word s
  | .ldc q r ga item imm ecc => Sys2Proof.Machine.execLdc q r ga item imm ecc s
  | .stc q r ga item imm clash => Sys2Proof.Machine.execStc q r ga item imm clash s
  | .br q cond off => Sys2Proof.Machine.execBr q cond off s
  | .jmp q ga off => Sys2Proof.Machine.execJmp q ga off s
  | .call q ga off => Sys2Proof.Machine.execCall q ga off s
  | .ret q => Sys2Proof.Machine.execRet q s
  | .halt q => Sys2Proof.Machine.execHalt q s
  | .yield q => Sys2Proof.Machine.execYield q s
  | .waitt q gd ta => Sys2Proof.Machine.execWaitt q gd ta s
  | .waitp q gd ta mt dir => Sys2Proof.Machine.execWaitp q gd ta mt dir s
  | .waite q gd mask => Sys2Proof.Machine.execWaite q gd mask s
  | .waits q gd gm => Sys2Proof.Machine.execWaits q gd gm s
  | .rwait q gd port => Sys2Proof.Machine.execRwait q gd port s
  | .waitEnd q => Sys2Proof.Machine.execWaitEnd q s
  | .waitTimeout q => Sys2Proof.Machine.execWaitTimeout q s
  | .vectorEntry q => Sys2Proof.Machine.execVectorEntry q s
  | .rpop q gm port => Sys2Proof.Machine.execRpop q gm port s
  | .rpush q gm port => Sys2Proof.Machine.execRpush q gm port s
  | .prefetchRefill q port ecc => Sys2Proof.Machine.execPrefetchRefill q port ecc s
  | .writeBufferDrain q port => Sys2Proof.Machine.execWriteBufferDrain q port s
  | .launch q ta action chassis gc gv => Sys2Proof.Machine.execLaunch q ta action chassis gc gv s
  | .launchp q ta action dir mt gc gv => Sys2Proof.Machine.execLaunchp q ta action dir mt gc gv s
  | .amendTime q ta chassis gc gv => Sys2Proof.Machine.execAmendTime q ta chassis gc gv s
  | .amendPosition q ta mt gc gv => Sys2Proof.Machine.execAmendPosition q ta mt gc gv s
  | .cancel q all chassis gc gv => Sys2Proof.Machine.execCancel q all chassis gc gv s
  | .capt q e chassis gc => Sys2Proof.Machine.execCapt q e chassis gc s
  | .pset q gm port => Sys2Proof.Machine.execPset q gm port s
  | .pclr q gm port => Sys2Proof.Machine.execPclr q gm port s
  | .ptgl q gm port => Sys2Proof.Machine.execPtgl q gm port s
  | .pfunc q ta na pin port gf => Sys2Proof.Machine.execPfunc q ta na pin port gf s
  | .sample q ta gc gv => Sys2Proof.Machine.execSample q ta gc gv s
  | .cfgr q r ga imm => Sys2Proof.Machine.execCfgr q r ga imm s
  | .cfgw q r ga imm => Sys2Proof.Machine.execCfgw q r ga imm s
  | .cfga q ta ga imm => Sys2Proof.Machine.execCfga q ta ga imm s
  | .registerWrite q addr v => Sys2Proof.Machine.execRegisterWrite q addr v s
  | .cfgaArrival q addr t => Sys2Proof.Machine.execCfgaArrival q addr t s
  | .arm addr => Sys2Proof.Machine.execArm addr s
  | .zswap q ta x gh gl => Sys2Proof.Machine.execZswap q ta x gh gl s
  | .zload q ga imm => Sys2Proof.Machine.execZload q ga imm s
  | .sig q tgt bit => Sys2Proof.Machine.execSig q tgt bit s
  | .signalArrival q tgt bit => Sys2Proof.Machine.execSignalArrival q tgt bit s
  | .xlaunch q ta action chassis gc gv => Sys2Proof.Machine.execXlaunch q ta action chassis gc gv s
  | .xsig q gc tgt bit => Sys2Proof.Machine.execXsig q gc tgt bit s
  | .barrier q gd k => Sys2Proof.Machine.execBarrier q gd k s
  | .xtime q td gs gd => Sys2Proof.Machine.execXtime q td gs gd s
  | .own q gs ga imm => Sys2Proof.Machine.execOwn q gs ga imm s
  | .sequencerReset q addr => Sys2Proof.Machine.execSequencerReset q addr s
  | .engineReset q addr => Sys2Proof.Machine.execEngineReset q addr s
  | .zoneReset q addr => Sys2Proof.Machine.execZoneReset q addr s
  | .zoneResetEnd zone => Sys2Proof.Machine.execZoneResetEnd zone s
  | .warmReset cause => Sys2Proof.Machine.execWarmReset cause s
  | .warmResetEffect => Sys2Proof.Machine.execWarmResetEffect s
  | .errpop q g => Sys2Proof.Machine.execErrpop q g s
  | .safe q => Sys2Proof.Machine.execSafe q s
  | .note q g => Sys2Proof.Machine.execNote q g s
  | .kick q => Sys2Proof.Machine.execKick q s
  | .watchdogExpiry => Sys2Proof.Machine.execWatchdogExpiry s
  | .seqWatchdog q => Sys2Proof.Machine.execSeqWatchdog q s
  | .automaticRestart q => Sys2Proof.Machine.execAutomaticRestart q s
  | .alarmLo q tgt v => Sys2Proof.Machine.execAlarmLo q tgt v s
  | .alarm q => Sys2Proof.Machine.execAlarm q s
  | .wpend q tgt v => Sys2Proof.Machine.execWpend q tgt v s
  | .streamBind q tgt port v => Sys2Proof.Machine.execStreamBind q tgt port v s
  | .seqCtrlStart q tgt v => Sys2Proof.Machine.execSeqCtrlStart q tgt v s
  | .seqCtrlResume q tgt v => Sys2Proof.Machine.execSeqCtrlResume q tgt v s
  | .seqCtrlHalt q tgt v => Sys2Proof.Machine.execSeqCtrlHalt q tgt v s
  | .seqCtrlStep q tgt v => Sys2Proof.Machine.execSeqCtrlStep q tgt v s
  | .entryPost zone e => Sys2Proof.Machine.execEntryPost zone e s
  | .gatewaySignal zone tgt bit => Sys2Proof.Machine.execGatewaySignal zone tgt bit s
  | .ringPush zone ring item => Sys2Proof.Machine.execRingPush zone ring item s
  | .ringPop zone ring => Sys2Proof.Machine.execRingPop zone ring s
  | .timeTap zone => Sys2Proof.Machine.execTimeTap zone s
  | .handlerTakesToken zone line => Sys2Proof.Machine.execHandlerTakesToken zone line s
  | .atnpend q zone v => Sys2Proof.Machine.execAtnpend q zone v s
  | .zoneHold q zone v => Sys2Proof.Machine.execZoneHold q zone v s
  | .loadStart q addr => Sys2Proof.Machine.execLoadStart q addr s
  | .routingFrameWrite ok => Sys2Proof.Machine.execRoutingFrameWrite ok s
  | .abort q v => Sys2Proof.Machine.execAbort q v s
  | .zswapArrival q mask t x => Sys2Proof.Machine.execZswapArrival q mask t x s
  | .swap zone => Sys2Proof.Machine.execSwap zone s
  | .unstage q zone v => Sys2Proof.Machine.execUnstage q zone v s
  | .swtimeLo q zone => Sys2Proof.Machine.execSwtimeLo q zone s
  | .signatureCheck zone shadow upsets => Sys2Proof.Machine.execSignatureCheck zone shadow upsets s
  | .reload q zone v => Sys2Proof.Machine.execReload q zone v s
  | .maskReload zone => Sys2Proof.Machine.execMaskReload zone s
  | .surveyWriting zone => Sys2Proof.Machine.execSurveyWriting zone s
  | .surveyBorrow => Sys2Proof.Machine.execSurveyBorrow s
  | .surveyRestore fault => Sys2Proof.Machine.execSurveyRestore fault s
  | .surveyYield => Sys2Proof.Machine.execSurveyYield s
  | .ringWrite agent ring item => Sys2Proof.Machine.execRingWrite agent ring item s
  | .ringRead agent ring ecc => Sys2Proof.Machine.execRingRead agent ring ecc s
  | .watermarkEvent q ring => Sys2Proof.Machine.execWatermarkEvent q ring s
  | .ringEn q ring v => Sys2Proof.Machine.execRingEn q ring v s
  | .wptr q ring v => Sys2Proof.Machine.execWptr q ring v s
  | .rptr q ring v => Sys2Proof.Machine.execRptr q ring v s
  | .newlen q ring v => Sys2Proof.Machine.execNewlen q ring v s
  | .pwr q v => Sys2Proof.Machine.execPwr q v s
  | .groupWake group => Sys2Proof.Machine.execGroupWake group s
  | .mac e sign sc g mask m1 m2 ad => Sys2Proof.Machine.execMac e sign sc g mask m1 m2 ad s
  | .msu e sign sc g mask m1 m2 ad => Sys2Proof.Machine.execMsu e sign sc g mask m1 m2 ad s
  | .mpy e sign sc g mask m1 m2 ad => Sys2Proof.Machine.execMpy e sign sc g mask m1 m2 ad s
  | .macp e sign sc g w mask m1 m2 ad => Sys2Proof.Machine.execMacp e sign sc g w mask m1 m2 ad s
  | .msup e sign sc g w mask m1 m2 ad => Sys2Proof.Machine.execMsup e sign sc g w mask m1 m2 ad s
  | .mpyp e sign sc g w mask m1 m2 ad => Sys2Proof.Machine.execMpyp e sign sc g w mask m1 m2 ad s
  | .seAdd e rd ra rb m1 m2 ad => Sys2Proof.Machine.execSeAdd e rd ra rb m1 m2 ad s
  | .seSub e rd ra rb m1 m2 ad => Sys2Proof.Machine.execSeSub e rd ra rb m1 m2 ad s
  | .seAnd e rd ra rb m1 m2 ad => Sys2Proof.Machine.execSeAnd e rd ra rb m1 m2 ad s
  | .seOr e rd ra rb m1 m2 ad => Sys2Proof.Machine.execSeOr e rd ra rb m1 m2 ad s
  | .seXor e rd ra rb m1 m2 ad => Sys2Proof.Machine.execSeXor e rd ra rb m1 m2 ad s
  | .seShl e rd ra rb m1 m2 ad => Sys2Proof.Machine.execSeShl e rd ra rb m1 m2 ad s
  | .seShr e rd ra rb m1 m2 ad => Sys2Proof.Machine.execSeShr e rd ra rb m1 m2 ad s
  | .seSar e rd ra rb m1 m2 ad => Sys2Proof.Machine.execSeSar e rd ra rb m1 m2 ad s
  | .seCmp e ra rb m1 m2 ad => Sys2Proof.Machine.execSeCmp e ra rb m1 m2 ad s
  | .seMov e rd ra m1 m2 ad => Sys2Proof.Machine.execSeMov e rd ra m1 m2 ad s
  | .seMovi e rd imm m1 m2 ad => Sys2Proof.Machine.execSeMovi e rd imm m1 m2 ad s
  | .nop e m1 m2 ad => Sys2Proof.Machine.execNop e m1 m2 ad s
  | .aclr e mask m1 m2 ad => Sys2Proof.Machine.execAclr e mask m1 m2 ad s
  | .aadd e d t m1 m2 ad => Sys2Proof.Machine.execAadd e d t m1 m2 ad s
  | .aneg e d m1 m2 ad => Sys2Proof.Machine.execAneg e d m1 m2 ad s
  | .ald e d ra m1 m2 ad => Sys2Proof.Machine.execAld e d ra m1 m2 ad s
  | .exp e rd t m1 m2 ad => Sys2Proof.Machine.execExp e rd t m1 m2 ad s
  | .norm e t ra m1 m2 ad => Sys2Proof.Machine.execNorm e t ra m1 m2 ad s
  | .sata e d m1 m2 ad => Sys2Proof.Machine.execSata e d m1 m2 ad s
  | .amov e rd t h m1 m2 ad => Sys2Proof.Machine.execAmov e rd t h m1 m2 ad s
  | .seBr e cond target m1 m2 ad => Sys2Proof.Machine.execSeBr e cond target m1 m2 ad s
  | .seCall e target m1 m2 ad => Sys2Proof.Machine.execSeCall e target m1 m2 ad s
  | .seRet e m1 m2 ad => Sys2Proof.Machine.execSeRet e m1 m2 ad s
  | .rti e m1 m2 ad => Sys2Proof.Machine.execRti e m1 m2 ad s
  | .loop e rot count len m1 m2 ad => Sys2Proof.Machine.execLoop e rot count len m1 m2 ad s
  | .iterationEnd e => Sys2Proof.Machine.execIterationEnd e s
  | .idle e m1 m2 ad => Sys2Proof.Machine.execIdle e m1 m2 ad s
  | .seHalt e m1 m2 ad => Sys2Proof.Machine.execSeHalt e m1 m2 ad s
  | .mode e pair m1 m2 ad => Sys2Proof.Machine.execMode e pair m1 m2 ad s
  | .movc e fromCtl reg ctl m1 m2 ad => Sys2Proof.Machine.execMovc e fromCtl reg ctl m1 m2 ad s
  | .sack e port n m1 m2 ad => Sys2Proof.Machine.execSack e port n m1 m2 ad s
  | .sput e port n m1 m2 ad => Sys2Proof.Machine.execSput e port n m1 m2 ad s
  | .esig e tgt bit m1 m2 ad => Sys2Proof.Machine.execEsig e tgt bit m1 m2 ad s
  | .ldH e second reg ptr mod other ad => Sys2Proof.Machine.execLdH e second reg ptr mod other ad s
  | .ldW e second reg ptr mod other ad => Sys2Proof.Machine.execLdW e second reg ptr mod other ad s
  | .ldQ4 e second reg ptr mod other ad => Sys2Proof.Machine.execLdQ4 e second reg ptr mod other ad s
  | .stH e second reg ptr mod other ad => Sys2Proof.Machine.execStH e second reg ptr mod other ad s
  | .stW e second reg ptr mod other ad => Sys2Proof.Machine.execStW e second reg ptr mod other ad s
  | .stQ4 e second reg ptr mod other ad => Sys2Proof.Machine.execStQ4 e second reg ptr mod other ad s
  | .addm e p q m1 m2 => Sys2Proof.Machine.execAddm e p q m1 m2 s
  | .addi e p imm m1 m2 => Sys2Proof.Machine.execAddi e p imm m1 m2 s
  | .rrbd e n m1 m2 => Sys2Proof.Machine.execRrbd e n m1 m2 s
  | .level1Interrupt e => Sys2Proof.Machine.execLevel1Interrupt e s
  | .level2Interrupt e => Sys2Proof.Machine.execLevel2Interrupt e s
  | .consumeCopy e port ecc => Sys2Proof.Machine.execConsumeCopy e port ecc s
  | .produceCopy e port => Sys2Proof.Machine.execProduceCopy e port s
  | .accessSlotTaken e => Sys2Proof.Machine.execAccessSlotTaken e s
  | .engineRestart e => Sys2Proof.Machine.execEngineRestart e s
  | .streamPortEn q e port v => Sys2Proof.Machine.execStreamPortEn q e port v s
  | .irqset q e v => Sys2Proof.Machine.execIrqset q e v s
  | .seAtnpend q e v => Sys2Proof.Machine.execSeAtnpend q e v s
  | .seCtrlStart q e v => Sys2Proof.Machine.execSeCtrlStart q e v s
  | .seCtrlResume q e v => Sys2Proof.Machine.execSeCtrlResume q e v s
  | .seCtrlHalt q e v => Sys2Proof.Machine.execSeCtrlHalt q e v s
  | .seCtrlStep q e v => Sys2Proof.Machine.execSeCtrlStep q e v s
  | .qhead q v => Sys2Proof.Machine.execQhead q v s
  | .read desc ok corr uncorr first => Sys2Proof.Machine.execRead desc ok corr uncorr first s
  | .program desc data => Sys2Proof.Machine.execProgram desc data s
  | .erase desc => Sys2Proof.Machine.execErase desc s
  | .suspend desc => Sys2Proof.Machine.execSuspend desc s
  | .resume desc => Sys2Proof.Machine.execResume desc s
  | .otpProgram desc => Sys2Proof.Machine.execOtpProgram desc s
  | .swapBoot desc => Sys2Proof.Machine.execSwapBoot desc s
  | .setProtection desc => Sys2Proof.Machine.execSetProtection desc s
  | .invalidOperation desc => Sys2Proof.Machine.execInvalidOperation desc s
  | .pageProgramDone bank => Sys2Proof.Machine.execPageProgramDone bank s
  | .eraseEnd bank => Sys2Proof.Machine.execEraseEnd bank s
  | .erasePause bank => Sys2Proof.Machine.execErasePause bank s
  | .cmdSuspend q v => Sys2Proof.Machine.execCmdSuspend q v s
  | .cmdResume q v => Sys2Proof.Machine.execCmdResume q v s
  | .trainingEnd l lock rate10 => Sys2Proof.Machine.execTrainingEnd l lock rate10 s
  | .trainingRetry l => Sys2Proof.Machine.execTrainingRetry l s
  | .linkDown l cause lost => Sys2Proof.Machine.execLinkDown l cause lost s
  | .reattach => Sys2Proof.Machine.execReattach s
  | .aholdClear => Sys2Proof.Machine.execAholdClear s
  | .linkEn q l v => Sys2Proof.Machine.execLinkEn q l v s
  | .linkClrcnt q l v => Sys2Proof.Machine.execLinkClrcnt q l v s
  | .ident l uid prio pref peerLink phase => Sys2Proof.Machine.execIdent l uid prio pref peerLink phase s
  | .claim l uid prio est hops parentLink => Sys2Proof.Machine.execClaim l uid prio est hops parentLink s
  | .rootElected => Sys2Proof.Machine.execRootElected s
  | .report l entries => Sys2Proof.Machine.execReport l entries s
  | .assign entries => Sys2Proof.Machine.execAssign entries s
  | .tsyncSend l t => Sys2Proof.Machine.execTsyncSend l t s
  | .tsync l seq rxseq flags txprev rxlast t => Sys2Proof.Machine.execTsync l seq rxseq flags txprev rxlast t s
  | .alignmentWindowEnd fit => Sys2Proof.Machine.execAlignmentWindowEnd fit s
  | .state phase count diam depth => Sys2Proof.Machine.execState phase count diam depth s
  | .p6Loss => Sys2Proof.Machine.execP6Loss s
  | .remoteEntry l src e => Sys2Proof.Machine.execRemoteEntry l src e s
  | .remoteSignal src tgt bit => Sys2Proof.Machine.execRemoteSignal src tgt bit s
  | .remoteSwapSet src mask t => Sys2Proof.Machine.execRemoteSwapSet src mask t s
  | .refusalNote src what reason zc tag => Sys2Proof.Machine.execRefusalNote src what reason zc tag s
  | .barrierDone l k gen => Sys2Proof.Machine.execBarrierDone l k gen s
  | .barrierRelease k gen => Sys2Proof.Machine.execBarrierRelease k gen s
  | .barEn q k v => Sys2Proof.Machine.execBarEn q k v s
  | .streamSend k n ecc => Sys2Proof.Machine.execStreamSend k n ecc s
  | .data l src stream ring items => Sys2Proof.Machine.execData l src stream ring items s
  | .credit stream n => Sys2Proof.Machine.execCredit stream n s
  | .nak l lseq => Sys2Proof.Machine.execNak l lseq s
  | .sessionFrame src m => Sys2Proof.Machine.execSessionFrame src m s
  | .frameForward l type flags dst src hops payload => Sys2Proof.Machine.execFrameForward l type flags dst src hops payload s
  | .unknownFrameType l type => Sys2Proof.Machine.execUnknownFrameType l type s
  | .constEn q v => Sys2Proof.Machine.execConstEn q v s
  | .hopq q v => Sys2Proof.Machine.execHopq q v s
  | .xstrEn q k v => Sys2Proof.Machine.execXstrEn q k v s
  | .perstRise => Sys2Proof.Machine.execPerstRise s
  | .dataLinkUp width speed => Sys2Proof.Machine.execDataLinkUp width speed s
  | .perstAssert linkLost => Sys2Proof.Machine.execPerstAssert linkLost s
  | .barRead rid bar offset len => Sys2Proof.Machine.execBarRead rid bar offset len s
  | .barWrite rid bar offset data => Sys2Proof.Machine.execBarWrite rid bar offset data s
  | .doorbell rid v => Sys2Proof.Machine.execDoorbell rid v s
  | .flashdb rid v => Sys2Proof.Machine.execFlashdb rid v s
  | .queueEn rid v entries => Sys2Proof.Machine.execQueueEn rid v entries s
  | .cqtail rid v entries => Sys2Proof.Machine.execCqtail rid v entries s
  | .fpNote => Sys2Proof.Machine.execFpNote s
  | .msixUnmask vec => Sys2Proof.Machine.execMsixUnmask vec s
  | .msixraise q v => Sys2Proof.Machine.execMsixraise q v s
  | .dmaEn rid d v => Sys2Proof.Machine.execDmaEn rid d v s
  | .dmaBatch d n items failed => Sys2Proof.Machine.execDmaBatch d n items failed s
  | .dmaCopyDone d data => Sys2Proof.Machine.execDmaCopyDone d data s
  | .dmaIrqTimeout d => Sys2Proof.Machine.execDmaIrqTimeout d s
  | .hrptr rid d v => Sys2Proof.Machine.execHrptr rid d v s
  | .hwptr rid d v => Sys2Proof.Machine.execHwptr rid d v s
  | .status quad whole => Sys2Proof.Machine.execStatus quad whole s
  | .send quad whole len message crc => Sys2Proof.Machine.execSend quad whole len message crc s
  | .fetch quad whole => Sys2Proof.Machine.execFetch quad whole s
  | .refetch quad => Sys2Proof.Machine.execRefetch quad s
  | .restatus quad => Sys2Proof.Machine.execRestatus quad s
  | .otherCommandByte b => Sys2Proof.Machine.execOtherCommandByte b s
  | .info t ok => Sys2Proof.Machine.execInfo t ok s
  | .sessionOpen t ok => Sys2Proof.Machine.execSessionOpen t ok s
  | .sessionAuth t mem => Sys2Proof.Machine.execSessionAuth t mem s
  | .sessionClose t => Sys2Proof.Machine.execSessionClose t s
  | .wake t => Sys2Proof.Machine.execWake t s
  | .readMem t => Sys2Proof.Machine.execReadMem t s
  | .writeMem t => Sys2Proof.Machine.execWriteMem t s
  | .seqLoad t mem => Sys2Proof.Machine.execSeqLoad t mem s
  | .seqCtrl t => Sys2Proof.Machine.execSeqCtrl t s
  | .seLoad t mem => Sys2Proof.Machine.execSeLoad t mem s
  | .seCtrl t => Sys2Proof.Machine.execSeCtrl t s
  | .grant t => Sys2Proof.Machine.execGrant t s
  | .reset t => Sys2Proof.Machine.execReset t s
  | .imgInstall => Sys2Proof.Machine.execImgInstall s
  | .imgSelect => Sys2Proof.Machine.execImgSelect s
  | .imgReload => Sys2Proof.Machine.execImgReload s
  | .flashDesc mem data => Sys2Proof.Machine.execFlashDesc mem data s
  | .paramWrite => Sys2Proof.Machine.execParamWrite s
  | .fwInstall => Sys2Proof.Machine.execFwInstall s
  | .relay t mem => Sys2Proof.Machine.execRelay t mem s
  | .badcmd t => Sys2Proof.Machine.execBadcmd t s
  | .idleTimeout k => Sys2Proof.Machine.execIdleTimeout k s
  | .lockoutEnd t => Sys2Proof.Machine.execLockoutEnd t s
  | .syncArm q v => Sys2Proof.Machine.execSyncArm q v s
  | .sync100Edge t trig => Sys2Proof.Machine.execSync100Edge t trig s
  | .synctsLo q => Sys2Proof.Machine.execSynctsLo q s
  | .clk10Loss foff => Sys2Proof.Machine.execClk10Loss foff s
  | .safeClr q v => Sys2Proof.Machine.execSafeClr q v s
  | .ownqaddr q v => Sys2Proof.Machine.execOwnqaddr q v s
  | .supplyOutOfRange supply => Sys2Proof.Machine.execSupplyOutOfRange supply s
  | .overtemperature tj => Sys2Proof.Machine.execOvertemperature tj s
  | .run q v => Sys2Proof.Machine.execRun q v s
  | .retain q v => Sys2Proof.Machine.execRetain q v s
  | .sleep q v => Sys2Proof.Machine.execSleep q v s
  | .standby q v => Sys2Proof.Machine.execStandby q v s
  | .wakePin port pin rise => Sys2Proof.Machine.execWakePin port pin rise s
  | .chassisWakeLine line rise => Sys2Proof.Machine.execChassisWakeLine line rise s
  | .xtalok => Sys2Proof.Machine.execXtalok s
  | .clk10Qualify foff => Sys2Proof.Machine.execClk10Qualify foff s
  | .serdesSupplyReturn vserh => Sys2Proof.Machine.execSerdesSupplyReturn vserh s
  | .cphead rid v entries => Sys2Proof.Machine.execCphead rid v entries s
  | .srst q m ga imm => Sys2Proof.Machine.execSrst q m ga imm s
  | .illegalInstructionWord e w => Sys2Proof.Machine.execIllegalInstructionWord e w s
  | .groupCleared group => Sys2Proof.Machine.execGroupCleared group s
  | .reflexEdge port pinIn pinOut levelIn levelOut => Sys2Proof.Machine.execReflexEdge port pinIn pinOut levelIn levelOut s

end Sys2Proof.Machine
end

