-- ==== Sys2Proof/Machine/Step.lean ====
section
/-! DEFINITION. The step of the block: it takes the command at the front of its queue; on an empty queue one tick passes,
the fabric moves on, frames come on the links, memory words may come to hold errors, and the board moves (log entries 7, 112, 119, 135
and 145). -/

namespace Sys2Proof.Machine

/-- One step. -/
def step (s : State) : Host.Outcome State Fault Refusal :=
  match s.pending with
  | [] => .next (s.passTicks 1).surveyTick.fabricMoves.linesMove.cellsDecay.boardMoves
  | c :: rest => exec c { s with pending := rest }

/-- The command that a word spells stands at the front of the queue; the table gives no row a word, so the state is
unchanged (log entry 9). -/
def State.withFetchWord (s : State) (nbits w : Nat) : State :=
  match decodeTableWord nbits w with
  | none => s
  | some c => { s with pending := c :: s.pending }

end Sys2Proof.Machine
end

