-- ==== Sys2Proof/WellFormed.lean ====
section
/-! DEFINITION. Which commands are well-formed: the operand types hold most of it; lists have the lengths that the spec gives. -/

namespace Sys2Proof

/-- The lengths of the lists that a command carries (R418: a REPORT, an ASSIGN, a DATA frame, a payload). -/
def Instr.wellFormed : Instr → Bool
  | .report _ entries => decide (entries.length ≤ 10)
  | .assign entries => decide (entries.length ≤ 16)
  | .data _ _ _ _ items => decide (1 ≤ items.length) && decide (items.length ≤ 8)
  | .frameForward _ _ _ _ _ _ payload => decide (payload.length ≤ 256)
  | _ => true

end Sys2Proof
end

