-- ==== Sys2Proof/Safety.lean ====
section
/-! DEFINITION. The vocabulary of the statements: what a command completes with, and what it leaves alone. -/

namespace Sys2Proof.Machine

/-- The command answers a next state, and `P` holds of it. -/
def Completes (c : Instr) (s : State) (P : State → Prop) : Prop := ∃ t, exec c s = .next t ∧ P t

/-- Sequencer `q` can run an instruction of `len` bytes and go on behind it (R181, R183, R211): it is RUNNING, not under STEP, the
part is awake, and the next instruction lies within instruction memory. -/
def State.canRun (s : State) (q len : Nat) : Bool :=
  decide ((s.seq q).st = .running) && !(s.seq q).stepping && !s.asleep && decide ((s.seq q).pc.toNat + len < 65536)

/-- The registers with the PC behind an instruction of `len` bytes. -/
def Seq.after (x : Seq) (len : Nat) : Seq := { x with pc := x.pc + BitVec.ofNat 16 len }

/-- Nothing but sequencer `q` differs between `s` and `t`, and there `q` is `x`. -/
def State.onlySeq (s t : State) (q : Nat) (x : Seq) : Prop :=
  t.seq q = x ∧ (∀ p, p ≠ q → t.seq p = s.seq p) ∧ t = { s with seqs := t.seqs }

/-- Nothing but sill `k` differs between `s` and `t`, and there it is `y`. -/
def State.onlySill (s t : State) (k : Nat) (y : Sill) : Prop :=
  t.sill k = y ∧ (∀ i, i ≠ k → t.sill i = s.sill i) ∧ t = { s with sills := t.sills }

/-- Nothing but tracker `k` differs between `s` and `t`, and there it is `y`. -/
def State.onlyMt (s t : State) (k : Nat) (y : Tracker) : Prop :=
  t.mt k = y ∧ (∀ i, i ≠ k → t.mt i = s.mt i) ∧ t = { s with trackers := t.trackers }

/-- Nothing but MPLL `k` differs between `s` and `t`, and there it is `y`. -/
def State.onlyMpll (s t : State) (k : Nat) (y : Mpll) : Prop :=
  t.mpll k = y ∧ (∀ i, i ≠ k → t.mpll i = s.mpll i) ∧ t = { s with mplls := t.mplls }

/-- Nothing but port `k` differs between `s` and `t`, and there it is `y`. -/
def State.onlyPort (s t : State) (k : Nat) (y : Port) : Prop :=
  t.port k = y ∧ (∀ i, i ≠ k → t.port i = s.port i) ∧ t = { s with ports := t.ports }

/-- Nothing but port `k` differs between `s` and `t`, and there it is `y`, apart from what is noted of the port's past (R36,
R152). -/
def State.onlyPast (s t : State) (k : Nat) (y : Port) : Prop :=
  s.onlyPort t k { y with
    past := (t.port k).past, stirred := (t.port k).stirred, kept := (t.port k).kept, keptKnown := (t.port k).keptKnown
    safeHeld := (t.port k).safeHeld }

/-- Nothing but attention line `k` differs between `s` and `t`, and there it is `y`. -/
def State.onlyAtn (s t : State) (k : Nat) (y : Atn) : Prop :=
  t.atn k = y ∧ (∀ i, i ≠ k → t.atn i = s.atn i) ∧ t = { s with atns := t.atns }

/-- Zone `k` is as it was, but for the tick from which its islands have edges and for what is noted of its pins (R173, R269). -/
def State.zoneKept (s t : State) (k : Nat) : Prop :=
  t.zone k = { s.zone k with clocked := (t.zone k).clocked, pins := (t.zone k).pins }

/-- Nothing but zone `k` differs between `s` and `t`, and there it is `y`. -/
def State.onlyZone (s t : State) (k : Nat) (y : Zone) : Prop :=
  t.zone k = y ∧ (∀ i, i ≠ k → t.zone i = s.zone i) ∧ t = { s with zones := t.zones }

/-- Nothing but engine `k` differs between `s` and `t`, and there it is `y`. -/
def State.onlyEngine (s t : State) (k : Nat) (y : Engine) : Prop :=
  t.engine k = y ∧ (∀ i, i ≠ k → t.engine i = s.engine i) ∧ t = { s with engines := t.engines }

/-- Nothing but link `k` differs between `s` and `t`, and there it is `y`. -/
def State.onlyLink (s t : State) (k : Nat) (y : LinkSide) : Prop :=
  t.link k = y ∧ (∀ i, i ≠ k → t.link i = s.link i) ∧ t = { s with links := t.links }

/-- Every register field keeps its value but those at the listed keys. -/
def State.regsKeep (s t : State) (keys : List Nat) : Prop :=
  ∀ k, k ∉ keys → ∀ d : Nat, storeGet d t.regs k = storeGet d s.regs k

/-- `t` is what raising one record leaves of a state that has `s`'s records. -/
def State.thenRaises (s t : State) (code src : Nat) (detail : List Nat) : Prop :=
  ∃ u : State, u.errq = s.errq ∧ t = u.raise code src detail

/-- `s` with what raising records and notes may change taken from `t`: the error queue, register fields (LOST and OVF), the note
queues, HRDY's blinks with the last one's tick and whether one is due, and what leaves towards the host (R464, R465, R490 to
R493). -/
def State.withRecords (s t : State) : State := { s with
  errq := t.errq, regs := t.regs, cpNotes := t.cpNotes, pcNotes := t.pcNotes, cpNoteOvf := t.cpNoteOvf
  pcNoteOvf := t.pcNoteOvf, blinks := t.blinks, msixPend := t.msixPend, out := t.out
  hostSide := { s.hostSide with blinkAt := t.hostSide.blinkAt, blinkDue := t.hostSide.blinkDue } }

/-- The oldest posting of sequencer `q` is the CFGW of `v` to the register at `off` of an instance it owns; `rest` follows, with no
item that leaves by itself. -/
def State.writing (s : State) (q : Nat) (b : Blk) (n off : Nat) (v : Word) (rest : List Posted) : Prop :=
  (s.seq q).post = .cfgw (cfgBase b n + off) v :: rest ∧ s.owner b n = q ∧ rest.all (fun p => !p.selfGoing) = true

/-- No posting of a list leaves its buffer by itself (R185, R187). -/
def plainPost (l : List Posted) : Bool := l.all (fun p => !p.selfGoing)

/-- No Caldera word has been written in the present tick or the one before (R324, R326). -/
def State.busFree (s : State) : Bool := s.bus.all (fun b => decide (b.tick + 1 < s.tickNo))

/-- No word of the Caldera that an access of `n` bytes from `a` on touches holds an error (R328). -/
def State.sound (s : State) (a n : Nat) : Bool :=
  s.flaws.all (fun x => x.flash || decide (x.addr + 16 ≤ a) || decide (a + n ≤ x.addr))

/-- No unit of the flash array holds an error (R388). -/
def State.arraySound (s : State) : Bool := s.flaws.all (fun x => !x.flash)

/-- The errors that words hold, without the word at `a`, which has been written whole (R328). -/
def State.mended (s : State) (a : Nat) : List Flaw := s.flaws.filter (fun x => x.flash || decide (x.addr ≠ a / 16 * 16))

/-- Sequencer `q`'s oldest posting has left its buffer. -/
def State.landed (s : State) (q : Nat) (rest : List Posted) : State := s.setSeq q { s.seq q with post := rest }

/-- Engine `e` can run a word on its own: RUNNING, nothing in flight, no loop, no iteration end due, inside its memory, and the
part is not in RETAIN (R347, R360, R362, R504). -/
def State.seCanRun (s : State) (e : Nat) : Bool :=
  decide (s.seState e = 1) && !(s.engine e).iter && (s.engine e).flight.isEmpty && (s.engine e).loops.isEmpty &&
    decide ((s.engine e).pc < 4096) && decide (s.fld F.SUP_PWR_STATE 0 ≠ 2)

/-- The engine at its next word. -/
def Engine.next (x : Engine) : Engine := { x with pc := x.pc + 1 }

/-- The engine at its next word with a register of the running set written (R359, R370). -/
def Engine.wrote (x : Engine) (code : Nat) (v : Word) : Engine := x.next.put x.onShadow (x.phys code) v

/-- The engine at its next word with an accumulator of the running set written (R362). -/
def Engine.wroteAcc (x : Engine) (i : Nat) (v : Int) : Engine := x.next.putAcc x.onShadow i v

/-- The engine with another status register. -/
def Engine.withSr (x : Engine) (f : SeSr → SeSr) : Engine := x.mapCur (fun r => { r with sr := f r.sr })

/-- Engine `e` has faulted at its word (R380): STATE, CAUSE and FPC, and its record. -/
def State.seFaulted (s : State) (e code : Nat) (detail : List Nat) (t : State) : Prop :=
  t.seState e = 3 ∧ t.fld F.SE_FAULT_CAUSE e = code % 256 ∧ t.fld F.SE_FAULT_FPC e = (s.engine e).pc % 4096 ∧
    t.engine e = { s.engine e with faultAt := s.tickNo } ∧ s.thenRaises t code (9216 + e) detail

/-- No tracker and no link holds records back, and no credits are owed: room in a ring moves nothing (R102, R437, R444). -/
def State.nothingWaits (s : State) : Bool :=
  (List.range 8).all (fun n => (s.mt n).buf.isEmpty) && s.const.buf.isEmpty && s.const.owed.isEmpty

/-- Ring `r` is enabled, without watermark and in one lap's length, and the Caldera answers at `a` (R329, R335, R339, R340). -/
def State.ringPlain (s : State) (r a : Nat) : Bool :=
  s.ready 4 && s.ringEn r && !s.tail r && decide (s.fld F.RING_WM_ITEMS r = 0) && decide (s.group (groupOf a) = 0) &&
    decide (a < 48 * 2 ^ 20)

/-- Descriptor `d` of a queue in host memory has ended (R394, R395, R414): `w` is the state before its completion, which holds no
other descriptor; INFO and the status word are written, DONECNT and QTAIL count it, it leaves the queue, NOTIFY interrupts, and the
codes 5 to 8 are reported; `r` is the next descriptor to be reached. -/
def State.descEnded (w t : State) (d : FlashDesc) (r code low info : Nat) : Prop :=
  (∃ more, t.out = w.out ++ [.pcie (w.descAddr d.idx + 28) (leBytes 4 info),
    .pcie (w.descAddr d.idx + 24) (leBytes 4 (2 ^ 31 + 256 * low + code))] ++ more) ∧
  t.flash = { w.flash with queue := [], reach := r } ∧ t.caldera = w.caldera ∧
  t.fld F.FLASH_STATUS_DONECNT 0 = (w.fld F.FLASH_STATUS_DONECNT 0 + 1) % 65536 ∧
  t.fld F.FLASH_QTAIL_TAIL 0 = (w.fld F.FLASH_QTAIL_TAIL 0 + 1) % 128 ∧
  (bitOf d.flags 0 = true → w.bit F.HOST_PCIE_DLUP 0 = true → bitOf w.msixMask 6 = false → t.out.getLast? = some (.msix 6)) ∧
  (5 ≤ code ∧ code ≤ 8 → t.errq = (w.raise 0x0901 13312 [d.idx, code]).errq) ∧
  (code < 5 ∨ 8 < code → t.errq = w.errq)

/-- The host side after a use of the transport of a session (R472): the session's idle time begins anew. -/
def State.touched (s : State) (transport peer : Nat) : HostSide :=
  match s.session transport peer with
  | some k => { s.hostSide with
      sess := storeSet {} s.hostSide.sess k { storeGet {} s.hostSide.sess k with used := s.tickNo } }
  | none => s.hostSide

/-- The oldest quick command of a transport is `c`, with operation `op`; it can run, and nothing in R453 to R455, R466, R470 and
R483 refuses it before its own checks. -/
def State.quickRuns (s : State) (transport op : Nat) (c : HostCmd) : Prop :=
  s.quickHead transport = some c ∧ c.op = op ∧ s.runnable transport = true ∧ s.notNow c = none ∧ s.noPriv c = none ∧
    c.badHeader = none

/-- The state that has taken `c` out of the quick lane. -/
def State.lessQuick (s : State) (c : HostCmd) : State := { s with hostSide := { s.hostSide with quick := s.hostSide.quick.erase c } }

/-- The oldest long command is `c`, with operation `op`, its work has not begun, and nothing refuses it before its own checks;
`more` follow it. -/
def State.longRuns (s : State) (op : Nat) (c : HostCmd) (more : List HostCmd) : Prop :=
  s.hostSide.long = c :: more ∧ c.op = op ∧ s.job longKey = none ∧ s.runnable c.transport = true ∧ s.notNow c = none ∧
    s.noPriv c = none ∧
    c.badHeader = none

/-- The work on the flash of the oldest long command `c`, with operation `op`, is over, and is to be ended by `fin`; `more` follow
it. -/
def State.longOver (s : State) (op : Nat) (c : HostCmd) (more : List HostCmd) (fin : JobEnd) : Prop :=
  s.hostSide.long = c :: more ∧ c.op = op ∧ s.runnable c.transport = true ∧ s.flash.jobs = [⟨longKey, [], fin⟩] ∧
    s.supRuns longKey = false ∧ s.warm = none

/-- The state whose long lane holds `more`. -/
def State.lessLong (s : State) (more : List HostCmd) : State := { s with hostSide := { s.hostSide with long := more } }

/-- A command's input, its first `n` bytes, as the control port attaches it or host memory holds it (R452). -/
def HostCmd.given (c : HostCmd) (n : Nat) (mem : Option (List Byte)) (l : List Byte) : Prop :=
  c.dspace = false ∧
    ((c.transport = 0 ∧ c.addr = 0 ∧ c.len ≤ c.data.length ∧ l = c.data.take n) ∨
      (c.transport = 1 ∧ c.addr % 16 = 0 ∧ ∃ m, mem = some m ∧ l = (m ++ List.replicate n 0).take n))

/-- The invariant of memory and queues: the Caldera's list is canonical, and no queue holds more than the spec gives it places
for. -/
def State.bounded (s : State) : Bool :=
  storeWf 0 s.caldera && decide (s.errq.length ≤ 64) && decide (s.cpNotes.length ≤ 16) && decide (s.pcNotes.length ≤ 16)

end Sys2Proof.Machine
end

