-- ==== Sys2Proof/Certificates/Slice0/Obligations.lean ====
section
/-! DEFINITION. The statements: what each command completes with, and what the block keeps. -/

open Sys2Proof Sys2Proof.Machine

/-! ### The machine -/

/-- A step takes the command at the front of the queue and runs it with the queue's rest. On an empty queue one tick
passes, the fabric's zones move, frames come on the links, words of the memories may come to hold errors and the board
moves; unless a survey's test has ended nothing changes but the time, the zones, how the links' next frames come in and
which of their frames are acknowledged, the errors, what the board does, SYNCOK, PXI_CLK10's offset, SUP.MON, HRDY's
blinks, HRDY itself in STANDBY, and the free values' index; a zone that is not in RUN and a link that is not up keep
their state: that is the model's choice (log entries 7, 112, 113, 119, 135, 145 and 146). -/
def Obligations.StepRunsTheFrontCommand : Prop :=
  (∀ (c : Instr) (rest : List Instr) (s : State), s.pending = c :: rest → step s = exec c { s with pending := rest }) ∧
  (∀ s : State, s.pending = [] → s.survey.ended = none → ∃ t, step s = .next t ∧ t.tickNo = s.tickNo + 1 ∧
    (∃ errs, t.flaws = s.flaws ++ errs) ∧
    t = { s with
      tickNo := s.tickNo + 1, time := (s.passTicks 1).time, zones := t.zones, links := t.links, free := t.free, flaws := t.flaws, hrdy := t.hrdy
      const := { s.const with head := t.const.head }, regs := t.regs, blinks := t.blinks
      hostSide := { s.hostSide with
        trigs := t.hostSide.trigs, vctlLost := t.hostSide.vctlLost, pcie := t.hostSide.pcie, clk10Since := t.hostSide.clk10Since
        blinkAt := t.hostSide.blinkAt, blinkDue := t.hostSide.blinkDue } } ∧
    s.regsKeep t [fldKey F.CHASSIS_STATUS_SYNCOK 0 0, fldKey F.CHASSIS_CLK10_FOFF 0 0, fldKey F.SUP_MON_TJ 0 0, fldKey F.SUP_MON_HOT 0 0,
      fldKey F.SUP_MON_OUT 0 0] ∧ (t.hrdy = s.hrdy ∨ s.fld F.SUP_PWR_STATE 0 = 4) ∧
    (∀ k, s.fld F.ZONE_STATUS_STATE k ≠ 1 → t.zone k = s.zone k) ∧
    (∀ l, (∃ n, (t.link l).replay = (s.link l).replay.drop n) ∧
      t.link l = { s.link l with coming := (t.link l).coming, replay := (t.link l).replay, naked := (t.link l).naked } ∧
      (s.linkUp l = false → t.link l = s.link l)))

/-- The state after reset (parts of R15, R20 to R30, R111, R180, R181, R379, R482, R485). Every field of a register
holds the reset value of its table; memories list nothing; every block instance is SUP's; every sequencer and engine
is halted; the test access port is held and no island clock runs; nothing is ready, queued or pending. Reset values
that the spec does not give are the model's (log entry 2). What the two invariants ask holds after reset. -/
def Obligations.ResetState : Prop :=
  (let s := State.reset
  (∀ (f : Fld) (n i : Nat), s.fldI f n i = f.reset ∧ s.stagedI f n i = f.reset) ∧
  (∀ (b : Blk) (n : Nat), s.owner b n = 32) ∧
  (∀ q, (s.seq q).st = .halted ∧ (s.seq q).post = [] ∧ (s.seq q).imem = [] ∧ (s.seq q).dmem = [] ∧ (∀ r, (s.seq q).greg r = 0)) ∧
  (∀ e, s.seState e = 0 ∧ (s.engine e).imem = [] ∧ (s.engine e).dmem = []) ∧
  (∀ n, (s.sill n).queue = [] ∧ (s.mt n).slots = [] ∧ (s.mt n).st = .off) ∧
  (∀ k, k < 16 → s.ready k = false) ∧ s.caldera = [] ∧ s.errq = [] ∧ s.pending = [] ∧ s.arms = [] ∧ s.swaps = [] ∧ s.lane = [] ∧
  s.tickNo = 0 ∧ s.time.counting = false ∧ s.time.counter = 0 ∧ s.hrdy = false ∧ s.warm = none ∧ s.hostSide.quick = [] ∧
  s.hostSide.long = [] ∧ s.hostSide.responses = [] ∧ s.tapReset = true ∧ (∀ k i, s.iclkRuns k i = false)) ∧
  (State.reset.bounded = true ∧ State.reset.time.counter.toNat % 32 = 0)

/-- Every well-formed command completes, in every state; the four commands that carry a list of the wrong length fault
by name and do nothing. -/
def Obligations.WellFormedCommandsComplete : Prop :=
  (∀ (c : Instr) (s : State), c.wellFormed = true → ∃ t, exec c s = .next t) ∧
  (∀ (c : Instr) (s : State), c.wellFormed = false → ∃ what, exec c s = .fault (.malformed what))

/-- No command but the step itself touches the queue of commands that wait. -/
def Obligations.CommandsLeaveTheQueueAlone : Prop :=
  ∀ (c : Instr) (s t : State), exec c s = .next t → t.pending = s.pending

/-- R209 to R213, R215 to R248: the words of an Ursen instruction decode to that instruction, with every operand at
every value that its encoding admits; and a word that decodes is the word of the instruction it decodes to, so no two
words spell one instruction. -/
def Obligations.UrsenWordsRoundTrip : Prop :=
  (∀ (i : UrsenInstr) (e : Word), i.spelled = true → ursenDecode (ursenEncode i).1 ((ursenEncode i).2.getD e) = some i) ∧
  (∀ (w e : Word) (i : UrsenInstr), ursenDecode w e = some i →
    i.spelled = true ∧ (ursenEncode i).1 = w ∧ ∀ x, (ursenEncode i).2 = some x → x = e)

/-- R32: the time counter advances by 32 at every tick while it counts, and its bits [4:0] are 0 in every state that a
step reaches from a state where they are. That a step on an empty queue is a tick is the model's choice (log entry 7).
-/
def Obligations.CounterCountsTicks : Prop :=
  (∀ s : State, s.pending = [] → s.time.counting = true → 
    ∃ t, step s = .next t ∧ t.time.counter = s.time.counter + 32) ∧
  (∀ s t : State, s.time.counter.toNat % 32 = 0 → step s = .next t → t.time.counter.toNat % 32 = 0)

/-- R322, R464, R492: every step keeps the Caldera's list of bytes in its canonical form, at most 64 error records in
their queue, and at most 16 notes in each note queue. -/
def Obligations.StepsKeepMemoryAndQueues : Prop :=
  ∀ s t : State, s.bounded = true → step s = .next t → t.bounded = true

/-- R26: a second CFGA to an instance before its first arm takes the place of the first, and no record is raised. -/
def Obligations.SecondCfgaReplacesTheFirst : Prop :=
  ∀ (q : Fin 33) (addr : Word) (t old : Stamp) (b : Blk) (n off : Nat) (rest : List Posted) (s : State),
    let k := ownerKey b n
    (s.seq q.val).post = .cfga addr.toNat t :: rest → cfgDecode (addr.toNat % 2 ^ 31) = some (b, n, off) → s.owner b n = q.val →
      storeSorted s.arms = true → plainPost rest = true → (k, old) ∈ s.arms → 50 ≤ s.leadTicks t →
        Completes (.cfgaArrival q addr t) s (fun u =>
        u.arms.filter (fun c => decide (c.1 = k)) = [(k, t)] ∧ storeSorted u.arms = true ∧ u.errq = s.errq ∧
        (∀ c, c.1 ≠ k → (c ∈ u.arms ↔ c ∈ s.arms)) ∧ u = { s.landed q.val rest with arms := u.arms })

/-- R359: logical register Qn is physical register (n + RRB) mod 32 of the running set; a rotation by a step decreases
RRB modulo 32; what was written as Qn is then read as Q(n + step). -/
def Obligations.LogicalRegistersRotate : Prop :=
  ∀ (x : Engine) (n step : Nat) (v : Word), n < 32 → step < 32 → x.cur.rrb < 32 →
    let turned := x.mapCur (fun r => { r with rrb := (r.rrb + 32 - step) % 32 })
    x.phys (32 + n) = 32 + (n + x.cur.rrb) % 32 ∧ turned.cur.rrb = (x.cur.rrb + 32 - step) % 32 ∧
    ((x.put x.onShadow (x.phys (32 + n)) v).mapCur (fun r => { r with rrb := (r.rrb + 32 - step) % 32 })).reg (32 + (n + step) % 32) = v

/-- R22: a CFGR of a reserved configuration address returns 0, a CFGW to one is discarded, and either completes and
raises 0x0708 with the sequencer and the address. -/
def Obligations.ReservedConfigurationAddresses : Prop :=
  ∀ (q : Fin 33) (r ga : Fin 32) (imm addr v : Word) (rest : List Posted) (s : State),
    let reserved (a : Nat) : Prop := match cfgDecode (a % 2 ^ 31) with
      | none => True
      | some (b, _, off) => regExists b off = false
    let x := s.seq q.val
    let a := ((x.greg ga.val).toNat + imm.toNat) % 2 ^ 32 / 4 * 4
    (s.canRun q.val 8 = true → x.post = [] → reserved a → Completes (.cfgr q r ga imm) s (fun t =>
      (s.raise 0x0708 (seqSrc q.val) [q.val, a]).onlySeq t q.val (Seq.after (x.setG r.val 0) 8))) ∧
    (x.post = .cfgw addr.toNat v :: rest → plainPost rest = true → reserved addr.toNat → Completes (.registerWrite q addr v) s
      (· = (s.landed q.val rest).raise 0x0708 (seqSrc q.val) [q.val, addr.toNat]))

/-- R108: a LAUNCH, AMEND or CANCEL from a sequencer that does not own the target sill is discarded, and a 0x0305
record names the sequencer and the target; a tracker's commit is not judged again: it enters whoever owns the sill. -/
def Obligations.ForeignLaunchItemsAreDiscarded : Prop :=
  ∀ (q : Fin 33) (n : Fin 1036) (m : Fin 8) (slot : Fin 256) (e : LaunchItem) (tag : Half) (stamp : Stamp) (all : Bool)
    (c : QEntry) (rest : List Posted) (s : State),
    let k := n.val
    let target : Half := BitVec.ofNat 16 k
    let post := (s.seq q.val).post
    let discarded (t : State) : Prop := t = (s.landed q.val rest).raise 0x0305 (sillSrc k) [q.val, k]
    let entry : QEntry := {
      time := e.time, action := e.action.toNat, width := e.width.toNat, tag := e.tag.toNat, src := 320 + q.val, dev := 0 }
    (s.owner .sill k ≠ q.val → plainPost rest = true → (s.sill k).waiting = [] →
      (post = .entry e :: rest → sillOf e.target = some k → s.refuseAction k entry = none →
        Completes (.entryArrival (.seq q) e) s discarded) ∧
      (post = .amendTime target tag.toNat stamp :: rest → Completes (.sillAmend q target tag stamp) s discarded) ∧
      (post = .cancel target tag.toNat all [8] :: rest → Completes (.sillCancel q target tag all) s discarded)) ∧
    (s.commits = [(k, c)] → c.held = some (m.val, slot.val) → s.refuseAction k c = none → s.sillRuns k = true →
      s.sillFill k < 16 → (s.sill k).held = [] → 960 ≤ stampDiff c.time s.now →
      Completes (.entryArrival (.tracker m slot) e) s (fun t =>
        ({ s with commits := [] } : State).onlySill t k { s.sill k with queue := insertEntry s.now c (s.sill k).queue }))

/-! ### Ursen: registers, memory, control -/

/-- Parts of R214, R216, in the cases that the premises name. Result and flags of the arithmetic and logic
instructions; nothing but the sequencer's destination, flags and PC changes. R216: a shift takes its count from bits
[4:0] of b; C is the last bit shifted out, and stays for a count of 0. R214, R216, R217: CMP sets flags only; MOV,
MOVI and MOVHI write a register and no flag. R177: a write to G0 is discarded, and G0 reads 0. -/
def Obligations.UrsenArithmeticResults : Prop :=
  (∀ (q : Fin 33) (rd ra : Fin 32) (b : UrsenOperand) (s : State), s.canRun q.val (operandLen b) = true →
    let x := s.seq q.val
    let a := x.greg ra.val
    let v := x.operand b
    let zn (r : Word) : Flags := { z := decide (r = 0), n := r.msb, c := x.flags.c, v := x.flags.v }
    let done (r : Word) (f : Flags) (t : State) : Prop :=
      s.onlySeq t q.val (Seq.after { x.setG rd.val r with flags := f } (operandLen b))
    Completes (.add q rd ra b) s (done (a + v) {
      z := decide (a + v = 0), n := (a + v).msb, c := decide (2 ^ 32 ≤ a.toNat + v.toNat)
      v := decide (a.toInt + v.toInt ≠ (a + v).toInt) }) ∧
    Completes (.sub q rd ra b) s (done (a - v) {
      z := decide (a - v = 0), n := (a - v).msb, c := decide (v.toNat ≤ a.toNat)
      v := decide (a.toInt - v.toInt ≠ (a - v).toInt) }) ∧
    Completes (.and q rd ra b) s (done (a &&& v) (zn (a &&& v))) ∧
    Completes (.or q rd ra b) s (done (a ||| v) (zn (a ||| v))) ∧
    Completes (.xor q rd ra b) s (done (a ^^^ v) (zn (a ^^^ v))) ∧
    Completes (.mul q rd ra b) s (done (a * v) (zn (a * v))) ∧
    Completes (.mulh q rd ra b) s (done (BitVec.ofInt 32 (a.toInt * v.toInt / 2 ^ 32))
      (zn (BitVec.ofInt 32 (a.toInt * v.toInt / 2 ^ 32))))) ∧
  (∀ (q : Fin 33) (rd ra : Fin 32) (b : UrsenOperand) (s : State), s.canRun q.val (operandLen b) = true →
    let x := s.seq q.val
    let a := x.greg ra.val
    let n := (x.operand b).toNat % 32
    let done (r : Word) (out : Bool) (t : State) : Prop :=
      s.onlySeq t q.val (Seq.after { x.setG rd.val r with flags := {
        z := decide (r = 0), n := r.msb, c := if n = 0 then x.flags.c else out, v := x.flags.v } } (operandLen b))
    Completes (.shl q rd ra b) s (done (a <<< n) (a.getLsbD (32 - n))) ∧
    Completes (.shr q rd ra b) s (done (a >>> n) (a.getLsbD (n - 1))) ∧
    Completes (.sar q rd ra b) s (done (a.sshiftRight n) (a.getLsbD (n - 1)))) ∧
  (∀ (q : Fin 33) (rd : Fin 32) (b : UrsenOperand) (imm : Half) (s : State),
    (s.canRun q.val (operandLen b) = true →
      let x := s.seq q.val
      let a := x.greg rd.val
      let v := x.operand b
      Completes (.cmp q rd b) s (fun t => s.onlySeq t q.val (Seq.after { x with flags := {
        z := decide (a = v), n := (a - v).msb, c := decide (v.toNat ≤ a.toNat)
        v := decide (a.toInt - v.toInt ≠ (a - v).toInt) } } (operandLen b))) ∧
      Completes (.mov q rd b) s (fun t => s.onlySeq t q.val (Seq.after (x.setG rd.val v) (operandLen b)))) ∧
    (s.canRun q.val 4 = true →
      let x := s.seq q.val
      Completes (.movi q rd imm) s (fun t => s.onlySeq t q.val (Seq.after (x.setG rd.val (imm.signExtend 32)) 4)) ∧
      Completes (.movhi q rd imm) s (fun t => s.onlySeq t q.val
        (Seq.after (x.setG rd.val (imm ++ (x.greg rd.val).extractLsb' 0 16)) 4)))) ∧
  (∀ (x : Seq) (v : Word) (r : Nat), (x.setG 0 v) = x ∧ x.greg 0 = 0 ∧ (r ≠ 0 → (x.setG r v).greg r = v) ∧
    (∀ p, p ≠ r → (x.setG r v).greg p = x.greg p))

/-- Parts of R214, R218, in the cases that the premises name. TADD, TSUB and TCMP compute on 64 bits and set every flag; the
clamped form of TSUB sets V when it clamped; TMOV sets none. R186: TNOW samples a tick boundary no more than 2 ticks back, on the
scale before a step where the step came after that boundary; TPOS clears Z while the tracker is enabled and sets it while it is
off. Which boundary is a free value (log entry 3). -/
def Obligations.UrsenStampsAndSamples : Prop :=
  (∀ (q : Fin 33) (td ta tb : Fin 8) (g k : Fin 32) (i : Word) (high : Bool) (s : State),
    let x := s.seq q.val
    let a := x.treg ta.val
    let b := x.treg tb.val
    let sum (v : Stamp) : Flags := {
      z := decide (a + v = 0), n := (a + v).msb, c := decide (2 ^ 64 ≤ a.toNat + v.toNat)
      v := decide (a.toInt + v.toInt ≠ (a + v).toInt) }
    let diff (v : Stamp) : Flags := {
      z := decide (a = v), n := (a - v).msb, c := decide (v.toNat ≤ a.toNat)
      v := decide (a.toInt - v.toInt ≠ (a - v).toInt) }
    let only (y : Seq) (t : State) : Prop := s.onlySeq t q.val y
    let d := (a - b).toInt
    let r : Word := if d < -2 ^ 31 then 0x80000000 else if 2 ^ 31 ≤ d then 0x7FFFFFFF else BitVec.ofInt 32 d
    (s.canRun q.val 4 = true →
      Completes (.tadd q td ta (.stamp tb)) s (only (Seq.after { x.setT td.val (a + b) with flags := sum b } 4)) ∧
      Completes (.tadd q td ta (.reg g)) s (only (Seq.after { x.setT td.val (a + (x.greg g.val).signExtend 64) with
        flags := sum ((x.greg g.val).signExtend 64) } 4)) ∧
      Completes (.tsub q (.stamp td ta tb)) s (only (Seq.after { x.setT td.val (a - b) with flags := diff b } 4)) ∧
      Completes (.tsub q (.clamp g ta tb)) s (only (Seq.after { x.setG g.val r with flags := {
        z := decide (r = 0), n := r.msb, c := decide (b.toNat ≤ a.toNat), v := decide (r.toInt ≠ d) } } 4)) ∧
      Completes (.tcmp q ta (.stamp tb)) s (only (Seq.after { x with flags := diff b } 4)) ∧
      Completes (.tmov q (.stamp td ta)) s (only (Seq.after (x.setT td.val a) 4)) ∧
      Completes (.tmov q (.join td g k)) s (only (Seq.after (x.setT td.val (x.greg g.val ++ x.greg k.val)) 4)) ∧
      Completes (.tmov q (.half g ta high)) s (only (Seq.after
        (x.setG g.val (if high then a.extractLsb' 32 32 else a.extractLsb' 0 32)) 4))) ∧
    (s.canRun q.val 8 = true →
      Completes (.tadd q td ta (.imm32 i)) s (only (Seq.after { x.setT td.val (a + i.signExtend 64) with
        flags := sum (i.signExtend 64) } 8)) ∧
      Completes (.tsub q (.imm32 td ta i)) s (only (Seq.after { x.setT td.val (a - i.signExtend 64) with
        flags := diff (i.signExtend 64) } 8)) ∧
      Completes (.tcmp q ta (.imm32 i)) s (only (Seq.after { x with flags := diff (i.signExtend 64) } 8)))) ∧
  (∀ (q : Fin 33) (td m : Fin 8) (s : State), s.canRun q.val 4 = true →
    let x := s.seq q.val
    (s.time.counting = true → s.time.since + 2 ≤ s.tickNo → s.time.steps = [] →
      Completes (.tnow q td) s (fun t => ∃ k : Nat, k ≤ 2 ∧
        State.onlySeq { s with free := s.free + 1 } t q.val (Seq.after (x.setT td.val (s.now - ticks k)) 4))) ∧
    (∀ b v, s.time.counting = true → s.time.since + 2 ≤ s.tickNo → s.time.steps = [(b, v)] →
      Completes (.tnow q td) s (fun t => ∃ k : Nat, k ≤ 2 ∧
        State.onlySeq { s with free := s.free + 1 } t q.val (Seq.after
          (x.setT td.val (if s.tickNo < b + k then s.now - v - ticks k else s.now - ticks k)) 4))) ∧
    Completes (.tpos q td m) s (fun t =>
      (t.seq q.val).flags.z = decide ((s.mt m.val).st = .off) ∧ (t.seq q.val).flags.n = x.flags.n ∧
        (t.seq q.val).flags.v = x.flags.v ∧ (t.seq q.val).pc = x.pc + 4 ∧ (t.seq q.val).g = x.g ∧
        (∀ k, k ≠ td.val → (t.seq q.val).treg k = x.treg k) ∧ (∀ p, p ≠ q.val → t.seq p = s.seq p) ∧ t.regs = s.regs))

/-- R220: an aligned load within data memory writes its register, zero-extended; no flag and no byte changes. R220: an
aligned store within data memory writes its bytes, the low one first; every byte outside them reads as before, and no
register or flag changes. R183, R220: a misaligned access faults with 0x0703, an access beyond data memory with
0x0704, at the instruction; SUP's fault is fatal and has its own statement. -/
def Obligations.UrsenMemoryAccess : Prop :=
  (∀ (q : Fin 33) (r gb : Fin 32) (k : Fin 8) (off : Half) (s : State), s.canRun q.val 4 = true →
    let x := s.seq q.val
    let a := x.memAddr gb off
    let bytes (n : Nat) := readBytes x.dmem a n
    (a % 4 = 0 → a + 4 ≤ 65536 → Completes (.ldw q r gb off) s (fun t => s.onlySeq t q.val
      (Seq.after (x.setG r.val (BitVec.ofNat 32 (leNat (bytes 4)))) 4))) ∧
    (a % 2 = 0 → a + 2 ≤ 65536 → Completes (.ldh q r gb off) s (fun t => s.onlySeq t q.val
      (Seq.after (x.setG r.val (BitVec.ofNat 32 (leNat (bytes 2)))) 4))) ∧
    (a + 1 ≤ 65536 → Completes (.ldb q r gb off) s (fun t => s.onlySeq t q.val
      (Seq.after (x.setG r.val (BitVec.ofNat 32 (leNat (bytes 1)))) 4))) ∧
    (a % 8 = 0 → a + 8 ≤ 65536 → Completes (.ldt q k gb off) s (fun t => s.onlySeq t q.val
      (Seq.after (x.setT k.val (BitVec.ofNat 64 (leNat (bytes 8)))) 4)))) ∧
  (∀ (q : Fin 33) (r gb : Fin 32) (k : Fin 8) (off : Half) (s : State), s.canRun q.val 4 = true →
    let x := s.seq q.val
    let a := x.memAddr gb off
    let stored (v n : Nat) (t : State) : Prop :=
      (∀ i, i < n → storeGet 0 (t.seq q.val).dmem (a + i) = BitVec.ofNat 8 (v / 256 ^ i)) ∧
      (∀ i, i < a ∨ a + n ≤ i → storeGet 0 (t.seq q.val).dmem i = storeGet 0 x.dmem i) ∧
      s.onlySeq t q.val (Seq.after { x with dmem := (t.seq q.val).dmem } 4)
    (a % 4 = 0 → a + 4 ≤ 65536 → Completes (.stw q r gb off) s (stored (x.greg r.val).toNat 4)) ∧
    (a % 2 = 0 → a + 2 ≤ 65536 → Completes (.sth q r gb off) s (stored (x.greg r.val).toNat 2)) ∧
    (a + 1 ≤ 65536 → Completes (.stb q r gb off) s (stored (x.greg r.val).toNat 1)) ∧
    (a % 8 = 0 → a + 8 ≤ 65536 → Completes (.stt q k gb off) s (stored (x.treg k.val).toNat 8))) ∧
  (∀ (q : Fin 33) (r gb : Fin 32) (off : Half) (s : State), q.val < 32 → s.canRun q.val 4 = true →
    let x := s.seq q.val
    let a := x.memAddr gb off
    let stops (code : Nat) (t : State) : Prop :=
      (t.seq q.val).st = .faulted ∧ (t.seq q.val).pc = x.pc ∧ (t.seq q.val).dmem = x.dmem ∧ (t.seq q.val).g = x.g ∧
        t.fld F.SEQ_FAULT_CAUSE q.val = code % 256 ∧ t.fld F.SEQ_FAULT_FPC q.val = x.pc.toNat
    (a % 4 ≠ 0 → Completes (.ldw q r gb off) s (stops 0x0703) ∧ Completes (.stw q r gb off) s (stops 0x0703)) ∧
    (a % 4 = 0 → 65536 ≤ a → Completes (.ldw q r gb off) s (stops 0x0704) ∧ Completes (.stw q r gb off) s (stops 0x0704)))

/-- Parts of R215, R223, in the cases that the premises name. BR goes to its target where the condition holds and to
the next instruction otherwise; JMP and CALL go to theirs, CALL with the return address on the stack; RET takes it
off, and restores the flags of an ENTRY. -/
def Obligations.UrsenControlTransfer : Prop :=
  ∀ (q : Fin 33) (cond : Fin 15) (ga : Fin 32) (off : Half) (s : State), s.canRun q.val 4 = true →
    let x := s.seq q.val
    let only (y : Seq) (t : State) : Prop := s.onlySeq t q.val y
    let goal : BitVec 16 := targetOf (if ga = 0 then x.pc.toNat else (x.greg ga.val).toNat) off
    Completes (.br q cond off) s (only (if condHolds x.flags cond.val then { x with pc := targetOf x.pc.toNat off }
      else Seq.after x 4)) ∧
    Completes (.jmp q ga off) s (only { x with pc := goal }) ∧
    (x.stack.length < 16 → Completes (.call q ga off) s
      (only { x with stack := { ret := x.pc + 4, flags := x.flags, entry := false } :: x.stack, pc := goal })) ∧
    (∀ e rest, x.stack = e :: rest → Completes (.ret q) s
      (only { x with stack := rest, pc := e.ret, flags := if e.entry then e.flags else x.flags })) ∧
    Completes (.halt q) s (only { Seq.after x 4 with st := .halted }) ∧
    (s.entryVector q.val = none → Completes (.yield q) s (only (Seq.after { x with runStart := s.tickNo } 4)))

/-! ### Ursen: postings, waits, streams -/

/-- Parts of R187, R225 to R235, R237, R238, in the cases that the premises name. With a free slot in the posting
buffer each posting instruction appends its one item, made from the registers as they stand, and goes on; nothing else
changes. R187: with the posting buffer full these instructions wait where they stand: nothing changes. R227, R234:
LAUNCHP posts a position entry, but a PULSE with WIDTH below 2 is not posted and raises 0x070F; PFUNC of a pin of a
port that is not running, posted with nothing before it, sets the pin's fields there; with na clear it leaves the
port's arm posted. Model's choices: log entries 12 and 13. -/
def Obligations.UrsenPostings : Prop :=
  (∀ (q tgt : Fin 33) (ta mt action : Fin 8) (r ga gc gv port bit : Fin 32) (e : Fin 4) (ch all : Bool) (imm : Word) (s : State),
    let x := s.seq q.val
    let posts (len : Nat) (p : Posted) (t : State) : Prop := s.onlySeq t q.val (Seq.after { x with post := x.post ++ [p] } len)
    let target : Half := BitVec.ofNat 16 ((x.greg gc.val).toNat % 1024 + if ch then 1024 else 0)
    let channel : Half := BitVec.ofNat 16 ((x.greg gc.val).toNat % 1024)
    let width : Half := (x.greg gv.val).extractLsb' 16 16
    let tag : Half := (x.greg gv.val).extractLsb' 0 16
    let addr : Nat := ((x.greg ga.val).toNat + imm.toNat) % 2 ^ 32
    x.post.length < 8 →
    (s.canRun q.val 4 = true →
      Completes (.launch q ta action ch gc gv) s (posts 4 (.entry {
        time := x.treg ta.val, target := target, action := BitVec.ofNat 4 action.val, width := width, tag := tag })) ∧
      Completes (.sample q ta gc gv) s (posts 4 (.entry {
        time := x.treg ta.val, target := channel, action := 6, width := width, tag := tag })) ∧
      Completes (.amendTime q ta ch gc gv) s (posts 4 (.amendTime target tag.toNat (x.treg ta.val))) ∧
      Completes (.amendPosition q ta mt gc gv) s
        (posts 4 (.amendPos mt.val channel.toNat tag.toNat (x.treg ta.val).toInt)) ∧
      Completes (.cancel q all ch gc gv) s
        (posts 4 (.cancel target tag.toNat all (if ch then [8] else [0, 1, 2, 3, 4, 5, 6, 7, 8]))) ∧
      Completes (.capt q e ch gc) s (posts 4 (.capt target e.val)) ∧
      Completes (.pset q r port) s (posts 4 (.portMask port.val 0 (x.greg r.val))) ∧
      Completes (.pclr q r port) s (posts 4 (.portMask port.val 1 (x.greg r.val))) ∧
      Completes (.ptgl q r port) s (posts 4 (.portMask port.val 2 (x.greg r.val))) ∧
      Completes (.sig q tgt bit) s (posts 4 (.signal tgt.val bit.val))) ∧
    (s.canRun q.val 8 = true →
      Completes (.cfgw q r ga imm) s (posts 8 (.cfgw (addr / 4 * 4) (x.greg r.val))) ∧
      Completes (.cfga q ta ga imm) s (posts 8 (.cfga (addr / 4 * 4 % 2 ^ 31) (x.treg ta.val))) ∧
      Completes (.zload q ga imm) s (posts 8 (.zload addr)))) ∧
  (∀ (q tgt : Fin 33) (ta mt action : Fin 8) (r ga gc gv port bit : Fin 32) (e : Fin 4) (ch all : Bool) (imm : Word) (s : State),
    8 ≤ (s.seq q.val).post.length → (s.seq q.val).pc.toNat ≠ 0xFFFC →
    ∀ i ∈ [Instr.launch q ta action ch gc gv, .sample q ta gc gv, .amendTime q ta ch gc gv, .amendPosition q ta mt gc gv,
        .cancel q all ch gc gv, .capt q e ch gc, .pset q r port, .pclr q r port, .ptgl q r port, .sig q tgt bit,
        .cfgw q r ga imm, .cfga q ta ga imm, .zload q ga imm],
      exec i s = .next s) ∧
  (∀ (q : Fin 33) (ta mt action : Fin 8) (dir : Fin 3) (gc gv gf pin port : Fin 32) (s : State), s.canRun q.val 4 = true →
    let x := s.seq q.val
    let width : Half := (x.greg gv.val).extractLsb' 16 16
    let tag : Half := (x.greg gv.val).extractLsb' 0 16
    let v := (x.greg gf.val).toNat
    (x.post.length < 8 → ¬(action = 3 ∧ width.toNat < 2) →
      Completes (.launchp q ta action dir mt gc gv) s (fun t => s.onlySeq t q.val (Seq.after { x with
        post := x.post ++ [.posEntry mt.val (x.treg ta.val).toInt dir.val action.val ((x.greg gc.val).toNat % 1024) width.toNat
          tag.toNat] } 4))) ∧
    (width.toNat < 2 → Completes (.launchp q ta 3 dir mt gc gv) s (fun t =>
      (s.raise 0x070F (if q = 32 then 0 else 8 * 1024 + q.val)
        [q.val, (x.greg gc.val).toNat % 1024, tag.toNat]).onlySeq t q.val (Seq.after x 4))) ∧
    (s.owner .port port.val = q.val → s.locked port.val pin.val = false → bitOf (s.fld F.SUP_PREADY_MAP 0) port.val = false →
      x.post = [] → (s.port port.val).switches = [] →
      ∀ na : Bool, Completes (.pfunc q ta na pin port gf) s (fun t =>
        t.seq q.val = Seq.after { x with post := if na then [] else [.cfga (cfgBase .port port.val) (x.treg ta.val)] } 4 ∧
        (∀ p, p ≠ q.val → t.seq p = s.seq p) ∧
        t = { s with seqs := t.seqs, regs := t.regs, staged := t.staged, ports := t.ports } ∧
        ∀ f ∈ [F.PORT_PIN_ANA, F.PORT_PIN_INEN, F.PORT_PIN_FUNC, F.PORT_PIN_MSEL, F.PORT_PIN_CSEL],
          t.fldI f port.val pin.val = bitsOf v f.lo f.width ∧ t.stagedI f port.val pin.val = bitsOf v f.lo f.width)))

/-- Parts of R190, R191, R193, R195, in the cases that the premises name. A wait whose condition holds when it is
issued ends at once with its result word in Gd and Z set for code 0; otherwise the sequencer is WAITING at the
instruction; a time that is not in the future ends WAITT with PAST. R190, R191: WAITP ends with GONE while the tracker
is off, with REACHED where the position equals X, with PAST where it lies beyond X in the qualified direction;
otherwise it waits, with the position as its comparator's starting point. Model's choices: log entries 11 and 17. -/
def Obligations.UrsenWaits : Prop :=
  (∀ (q : Fin 33) (gd gm : Fin 32) (ta : Fin 8) (port : Fin 4) (mask : Half) (s : State),
    s.canRun q.val 4 = true → (s.seq q.val).stepping = false → s.entryVector q.val = none →
    let x := s.seq q.val
    let blocks (w : WaitFor) (t : State) : Prop :=
      s.onlySeq t q.val { x with st := .waiting, wait := some { what := w, gd := gd.val, start := s.tickNo } }
    let ends (u : State) (code idx : Nat) (t : State) : Prop :=
      u.onlySeq t q.val (Seq.after { (u.seq q.val).setG gd.val (BitVec.ofNat 32 (code + 256 * idx)) with
        flags := { x.flags with z := decide (code = 0) }, wait := none, st := .running, runStart := u.tickNo
        bars := (t.seq q.val).bars } 4)
    let at_ := x.treg ta.val
    let sigs := (x.greg gm.val).toNat
    let r := s.fldI F.SEQ_STREAM_RING q.val port.val
    let bound := s.fldI F.SEQ_STREAM_EN q.val port.val = 1 ∧ s.bit F.RING_CTRL_EN r = true
    (at_ ≠ s.now → (at_ - s.now).toNat < 2 ^ 63 → Completes (.waitt q gd ta) s (blocks (.time at_))) ∧
    (at_ = s.now → Completes (.waitt q gd ta) s (ends s 0 0)) ∧
    (2 ^ 63 ≤ (at_ - s.now).toNat → Completes (.waitt q gd ta) s (ends s 1 0)) ∧
    (s.pollVector q.val mask.toNat = none → Completes (.waite q gd mask) s (blocks (.vec mask.toNat))) ∧
    (∀ k, s.pollVector q.val mask.toNat = some k →
      Completes (.waite q gd mask) s (ends (s.clearVector q.val k) 0 k)) ∧
    (s.signalBit q.val sigs = none → Completes (.waits q gd gm) s (blocks (.sig sigs))) ∧
    (∀ b, s.signalBit q.val sigs = some b →
      Completes (.waits q gd gm) s (ends (s.setFld F.SEQ_SIGPEND_PEND q.val (withoutBit (s.fld F.SEQ_SIGPEND_PEND q.val) b)) 0 b)) ∧
    (¬bound → Completes (.rwait q gd port) s (ends s 2 0)) ∧
    (bound → s.ringMet q.val port.val = true → Completes (.rwait q gd port) s (ends s 0 0)) ∧
    (bound → s.ringMet q.val port.val = false → Completes (.rwait q gd port) s (blocks (.ring port.val)))) ∧
  (∀ (q : Fin 33) (gd : Fin 32) (ta mt : Fin 8) (dir : Fin 3) (s : State),
    s.canRun q.val 4 = true → (s.seq q.val).stepping = false → s.entryVector q.val = none →
    let goal := ((s.seq q.val).treg ta.val).toInt
    let p := (s.posNow mt.val).1
    let past := (dir = 0 ∧ goal < p) ∨ (dir = 1 ∧ p < goal)
    let code : Option Nat := if (s.mt mt.val).st = .off then some 2 else if p = goal then some 0
      else if past then some 1 else none
    Completes (.waitp q gd ta mt dir) s (fun t =>
      t.regs = s.regs ∧ t.trackers = s.trackers ∧ (∀ k, k ≠ q.val → t.seq k = s.seq k) ∧
      match code with
      | some c => t.seq q.val = Seq.after { (s.seq q.val).setG gd.val (BitVec.ofNat 32 c) with
          flags := { (s.seq q.val).flags with z := decide (c = 0) }, wait := none, runStart := s.tickNo
          bars := (t.seq q.val).bars } 4
      | none => t.seq q.val = { s.seq q.val with
          st := .waiting, wait := some { what := .pos mt.val goal dir.val p false, gd := gd.val, start := s.tickNo } }))

/-- Parts of R200, R224, in the cases that the premises name. RPOP takes the oldest prefetched item of a consume port
into data memory, RPUSH puts an item of data memory into a produce port's buffer of 4; Z is clear; with no item, no
room, or the port not enabled in that direction, only Z sets. -/
def Obligations.UrsenStreams : Prop :=
  ∀ (q : Fin 33) (gm : Fin 32) (port : Fin 4) (s : State), s.canRun q.val 4 = true →
    let x := s.seq q.val
    let a := (x.greg gm.val).toNat
    let dirIs (d : Nat) := s.fldI F.SEQ_STREAM_EN q.val port.val = 1 ∧ s.fldI F.SEQ_STREAM_DIR q.val port.val = d
    let z (b : Bool) : Flags := { x.flags with z := b }
    let nothing (t : State) : Prop := s.onlySeq t q.val (Seq.after { x with flags := z true } 4)
    let items : List (BitVec 128) := storeGet [] x.stream port.val
    a % 16 = 0 → a + 16 ≤ 65536 →
    (∀ i rest, dirIs 0 → items = i :: rest → Completes (.rpop q gm port) s (fun t =>
      ∃ u : State, u = (s.setSeq q.val { x with
          stream := storeSet [] x.stream port.val rest, dmem := writeBytes x.dmem a (leBytes 16 i.toNat) }).ringSkip
            (s.fldI F.SEQ_STREAM_RING q.val port.val) 1 ∧
        t.seq q.val = { u.seq q.val with flags := { (u.seq q.val).flags with z := false }, pc := (u.seq q.val).pc + 4 } ∧
        t = { u with seqs := t.seqs })) ∧
    (¬dirIs 0 ∨ items = [] → Completes (.rpop q gm port) s nothing) ∧
    (dirIs 1 → items.length < 4 → Completes (.rpush q gm port) s (fun t => s.onlySeq t q.val (Seq.after { x with
      stream := storeSet [] x.stream port.val (items ++ [itemOf (readBytes x.dmem a 16)]), flags := z false } 4))) ∧
    (¬dirIs 1 ∨ 4 ≤ items.length → Completes (.rpush q gm port) s nothing)

/-! ### Ursen: data space, configuration space, privileged instructions, other devices -/

/-- Parts of R221, R222, in the cases that the premises name. LDC and STC of words and items in the Caldera, once it is ready and
the group is ON: the loaded bytes and the stored ones, little-endian, at the aligned address; every other byte reads as before,
and a word written whole holds no error (R328). The sequencer has posted nothing before the STC, and no store to the word stands
before the LDC; no word has been written in this tick or the one before (R326). R188, R235, R21: CFGR waits while the sequencer's
postings are on their way; then it reads the register, its staging copies where address bit 31 is set, into its general register.
An address that names no register reads 0 with a 0x0708 record. Model's choices: log entries 14, 15 and 24. -/
def Obligations.UrsenCalderaAndConfiguration : Prop :=
  (∀ (q : Fin 33) (r ga : Fin 32) (imm : Word) (s : State), s.canRun q.val 8 = true → s.ready 4 = true →
    let x := s.seq q.val
    let addr := ((x.greg ga.val).toNat + imm.toNat) % 2 ^ 32
    let w := addr / 4 * 4
    let i := addr / 16 * 16
    let g := (x.greg r.val).toNat
    let stores (a : Nat) (bs : List Byte) (t : State) : Prop :=
      t.seq q.val = Seq.after x 8 ∧ (∀ p, p ≠ q.val → t.seq p = s.seq p) ∧
      t.flaws = (if bs.length = 16 then s.mended a else s.flaws) ∧
      t = { s with seqs := t.seqs, caldera := writeBytes s.caldera a bs, bus := t.bus, flaws := t.flaws }
    addr < 48 * 2 ^ 20 → s.group (groupOf addr) = 0 → s.storeWaits q.val addr = false →
    Completes (.ldc q r ga false imm .clean) s (fun t => s.onlySeq t q.val (Seq.after
      (x.setG r.val (BitVec.ofNat 32 (leNat (readBytes s.caldera w 4)))) 8)) ∧
    (g % 16 = 0 → g + 16 ≤ 65536 → Completes (.ldc q r ga true imm .clean) s (fun t => s.onlySeq t q.val (Seq.after
      { x with dmem := writeBytes x.dmem g (readBytes s.caldera i 16) } 8))) ∧
    (x.post = [] → s.busFree = true →
      Completes (.stc q r ga false imm none) s (stores w (leBytes 4 g)) ∧
      (g % 16 = 0 → g + 16 ≤ 65536 → Completes (.stc q r ga true imm none) s (stores i (readBytes x.dmem g 16))))) ∧
  (∀ (q : Fin 33) (r ga : Fin 32) (imm : Word) (s : State), s.canRun q.val 8 = true →
    let x := s.seq q.val
    let a := ((x.greg ga.val).toNat + imm.toNat) % 2 ^ 32 / 4 * 4
    (x.post ≠ [] → exec (.cfgr q r ga imm) s = .next s) ∧
    (∀ b n off, x.post = [] → cfgDecode (a % 2 ^ 31) = some (b, n, off) → regExists b off = true →
      Completes (.cfgr q r ga imm) s (fun t => ∃ v u, s.regValue b n off (decide (2 ^ 31 ≤ a)) = (v, u) ∧
        u.onlySeq t q.val (Seq.after ((u.seq q.val).setG r.val (BitVec.ofNat 32 v)) 8))) ∧
    (x.post = [] → cfgDecode (a % 2 ^ 31) = none →
      Completes (.cfgr q r ga imm) s (fun t =>
        (s.raise 0x0708 (seqSrc q.val) [q.val, a]).onlySeq t q.val (Seq.after (x.setG r.val 0) 8))))

/-- R210: a word that is no instruction faults with 0x0701 before any effect. R183, R244: in a port sequencer a
privileged instruction faults with 0x0702 and has no other effect on the part's blocks. -/
def Obligations.IllegalAndPrivilegedInstructionsFault : Prop :=
  (∀ (q : Fin 33) (w : Word) (s : State), q.val < 32 → s.canRun q.val 4 = true → ursenDecode w 0 = none →
    Completes (.illegalInstruction q w) s (fun t => (t.seq q.val).st = .faulted ∧ (t.seq q.val).pc = (s.seq q.val).pc ∧
      t.fld F.SEQ_FAULT_CAUSE q.val = 1 ∧ t.fld F.SEQ_FAULT_FPC q.val = (s.seq q.val).pc.toNat ∧
      s.withRecords t = { t with seqs := s.seqs })) ∧
  (∀ (q : Fin 33) (m : Fin 4) (g ga : Fin 32) (imm : Word) (s : State), q.val < 32 → s.canRun q.val 8 = true →
    let stops (t : State) : Prop := (t.seq q.val).st = .faulted ∧ (t.seq q.val).pc = (s.seq q.val).pc ∧
      t.fld F.SEQ_FAULT_CAUSE q.val = 2 ∧ t.owners = s.owners ∧ t.errq.length ≤ s.errq.length + 1 ∧
      s.withRecords t = { t with seqs := s.seqs }
    ∀ i ∈ [Instr.own q g ga imm, .srst q m ga imm, .errpop q g, .safe q, .note q g, .kick q], Completes i s stops)

/-- Parts of R245 to R248, R494, R498, in the cases that the premises name. What SUP's privileged instructions do: OWN
writes the ownership table, SRST posts a reset of an instance, ERRPOP takes the oldest record into data memory, NOTE
queues a note for both transports, SAFE enters the safe state, a KICK in its window restarts the watchdog. Model's
choices: log entries 14 and 45. -/
def Obligations.SupervisorInstructions : Prop :=
  ∀ (g ga : Fin 32) (m : Fin 4) (imm : Word) (s : State), s.canRun 32 8 = true → (s.seq 32).post = [] →
    let x := s.seq 32
    let v := (x.greg g.val).toNat
    let a := ((x.greg ga.val).toNat + imm.toNat) % 2 ^ 32
    (∀ b n off, cfgDecode (a / 4 * 4 % 2 ^ 31) = some (b, n, off) → b ≠ .flash →
      Completes (.own 32 g ga imm) s (fun t => t.owner b n = min (v % 64) 32 ∧
        (∀ c k, ownerKey c k ≠ ownerKey b n → t.owner c k = s.owner c k) ∧
        t = { s with owners := t.owners, seqs := t.seqs } ∧ t.seq 32 = Seq.after x 8)) ∧
    (srstOk m.val a = true → Completes (.srst 32 m ga imm) s (fun t => s.onlySeq t 32 (Seq.after { x with
      post := x.post ++ [.srst m.val a] } 8))) ∧
    (s.errq = [] → v % 16 = 0 → v + 32 ≤ 65536 → Completes (.errpop 32 g) s (fun t =>
      t.bit F.SUP_ERRSTAT_HANDLING 0 = false ∧ t = { s with regs := t.regs, seqs := t.seqs } ∧
      t.seq 32 = Seq.after { x with flags := { x.flags with z := true } } 4)) ∧
    (∀ e rest, s.errq = e :: rest → s.bit F.SUP_ERRSTAT_OVF 0 = false → v % 16 = 0 → v + 32 ≤ 65536 →
      let y := Seq.after { x with dmem := writeBytes x.dmem v e.bytes, flags := { x.flags with z := false } } 4
      let r := s.fld F.SUP_ERRRING_RING 0
      let w := s.fld F.RING_WPTR_OFF r
      (s.bit F.SUP_ERRRING_EN 0 = false → s.errWritten = false ∨ rest ≠ [] →
        Completes (.errpop 32 g) s (fun t => t.errq = rest ∧ t.bit F.SUP_ERRSTAT_HANDLING 0 = true ∧
          t = { s with errq := rest, regs := t.regs, seqs := t.seqs } ∧ t.seq 32 = y)) ∧
      (s.bit F.SUP_ERRRING_EN 0 = false → s.errWritten = true → rest = [] → s.cpNotes.length < 16 → s.pcNotes.length < 16 →
        Completes (.errpop 32 g) s (fun t => t.errq = [] ∧ t.errWritten = false ∧ t.cpNotes = s.cpNotes ++ [1] ∧
          t.pcNotes = s.pcNotes ++ [1] ∧ t.seq 32 = y)) ∧
      (s.bit F.SUP_ERRRING_EN 0 = true → rest ≠ [] → s.ringPlain r (s.ringAddr r w) = true →
        s.ringPlain r (s.ringAddr r (w + 1)) = true →
        s.fld F.RING_CTRL_PROD r = 352 → w + 2 < s.ringLen r → w + 2 < 2 ^ 22 → 2 ≤ s.ringRoom r → s.busFree = true →
        Completes (.errpop 32 g) s (fun t => t.errq = rest ∧ t.errWritten = true ∧ t.seq 32 = y ∧
          t.caldera = writeBytes s.caldera (s.ringAddr r w) e.bytes ∧ t.fld F.RING_WPTR_OFF r = w + 2))) ∧
    (s.cpNotes.length < 16 → s.pcNotes.length < 16 → Completes (.note 32 g) s (fun t =>
      t.cpNotes = s.cpNotes ++ [v % 256] ∧ t.pcNotes = s.pcNotes ++ [v % 256] ∧ t.seq 32 = Seq.after x 4 ∧
      t.regs = s.regs ∧ t.errq = s.errq)) ∧
    Completes (.safe 32) s (fun t => t.bit F.SUP_SAFE_ACTIVE 0 = true ∧ t.bit F.SUP_SAFE_FAULTN 0 = true ∧
      t.fld F.SUP_SAFE_CAUSE 0 = 1 ∧ t.seq 32 = Seq.after x 4 ∧ (∀ p i, p < 32 → i < 32 → t.overridden p i = true)) ∧
    (1250 * 10 * s.fld F.SUP_WDOG_WMIN 0 ≤ s.tickNo - s.kickAt → Completes (.kick 32) s (fun t =>
      t.kickAt = s.tickNo ∧ t.warm = s.warm ∧ t.errq = s.errq ∧ t.seq 32 = Seq.after x 4 ∧
      t.fld F.SUP_WDOG_WMAX 0 = s.stagedI F.SUP_WDOG_WMAX 0 0 % 2 ^ 16 ∧
      t.fld F.SUP_WDOG_WMIN 0 = s.stagedI F.SUP_WDOG_WMIN 0 0 % 2 ^ 16))

/-- Parts of R236, R239 to R243, R305, in the cases that the premises name. Entries and signals for another device
leave as ROUTE frames on the link that leads there, and an unreachable device raises 0x070E; for the own device they
are postings; ZSWAP posts its set, and its zones' owners are judged as it arrives (R245); XTIME gives a boundary of the last 2 ticks
plus the bound for the hops. Model's choices: log entries 40, 41 and 59. -/
def Obligations.UrsenAcrossDevices : Prop :=
  ∀ (q tgt : Fin 33) (ta action : Fin 8) (gc gv gh gl gd bit : Fin 32) (ch : Bool) (s : State), s.canRun q.val 4 = true →
    let x := s.seq q.val
    let dev := (x.greg gc.val).toNat / 1024 % 512
    let sdev := (x.greg gc.val).toNat % 512
    let e : LaunchItem := {
      time := x.treg ta.val, target := BitVec.ofNat 16 ((x.greg gc.val).toNat % 1024 + if ch then 1024 else 0)
      action := BitVec.ofNat 4 action.val, width := (x.greg gv.val).extractLsb' 16 16, tag := (x.greg gv.val).extractLsb' 0 16 }
    let posts (p : Posted) (t : State) : Prop := s.onlySeq t q.val (Seq.after { x with post := x.post ++ [p] } 4)
    let leaves (l far : Nat) (bytes : List Byte) (t : State) : Prop :=
      t.out = s.out ++ [.frame l 7 (frameBytes 7 0 far s.srcField 0 (s.link l).txSeq bytes)] ∧ t.seq q.val = Seq.after x 4 ∧
        t = { s with seqs := t.seqs, links := t.links, out := t.out }
    let refused (d : Nat) (t : State) : Prop := (s.raise 0x070E (seqSrc q.val) [q.val, d]).onlySeq t q.val (Seq.after x 4)
    let m := (x.greg gh.val).toNat * 2 ^ 32 + (x.greg gl.val).toNat
    let legal := ¬(action = 3 ∧ e.width.toNat < 2)
    (x.post = [] →
      (legal → dev = s.devNum → Completes (.xlaunch q ta action ch gc gv) s (posts (.entry e))) ∧
      (∀ l, legal → dev ≠ s.devNum → s.reachable dev = true → s.linkTo dev = some l → s.linkUp l = true →
        Completes (.xlaunch q ta action ch gc gv) s (leaves l dev ([0, 0, 0, 0] ++ entryBytes e))) ∧
      (sdev = s.devNum → Completes (.xsig q gc tgt bit) s (posts (.signal tgt.val bit.val))) ∧
      (∀ l, sdev ≠ s.devNum → s.reachable sdev = true → s.linkTo sdev = some l → s.linkUp l = true →
        Completes (.xsig q gc tgt bit) s
          (leaves l sdev ([1, 0, 0, 0] ++ [BitVec.ofNat 8 tgt.val, BitVec.ofNat 8 bit.val]))) ∧
      Completes (.zswap q ta ch gh gl) s (posts (.zswap m (x.treg ta.val) ch))) ∧
    (x.post = [] → legal → dev ≠ s.devNum → s.reachable dev = false → Completes (.xlaunch q ta action ch gc gv) s (refused dev)) ∧
    (x.post = [] → sdev ≠ s.devNum → s.reachable sdev = false → Completes (.xsig q gc tgt bit) s (refused sdev)) ∧
    (∀ h, s.hopsTo sdev = some h → s.time.counting = true → s.time.since + 2 ≤ s.tickNo → s.time.steps = [] → gd ≠ 0 →
      Completes (.xtime q ta gc gd) s (fun t => ∃ k : Nat, k ≤ 2 ∧
        (t.seq q.val).treg ta.val = s.now - ticks k + ticks (84 + 60 * h) ∧
        ((t.seq q.val).greg gd.val).toNat % 256 = h % 256 ∧ (t.seq q.val).flags = { x.flags with z := false } ∧
        (t.seq q.val).pc = x.pc + 4 ∧ t = { s with seqs := t.seqs, free := s.free + 1 }))

/-- Parts of R242, R436, in the cases that the premises name. A member that executes BARRIER arrives in the present
generation and waits; without membership, or with the barrier not enabled, the wait ends at once with GONE. R190,
R193, R195: a time wait ends with REACHED at its instant, a wait whose source is gone with GONE, a wait that lasts
WLIM µs with TIMEOUT: the result word goes to Gd, Z says whether the condition was met, and the sequencer runs on
behind the wait; an ENTRY vector is entered from the wait, with the address of the wait on the return stack. Model's
choices: log entries 11 and 42. -/
def Obligations.BarrierArrivalAndWaitEnds : Prop :=
  (∀ (q : Fin 33) (gd : Fin 32) (k : Fin 16) (s : State), s.canRun q.val 4 = true → (s.seq q.val).stepping = false →
    s.entryVector q.val = none →
    let x := s.seq q.val
    let member := s.fldI F.CONST_BAR_EN 0 k.val = 1 ∧ s.barMember k.val q.val = true
    (¬member → Completes (.barrier q gd k) s (fun t => (t.seq q.val).st = .running ∧ (t.seq q.val).pc = x.pc + 4 ∧
      (t.seq q.val).flags = { x.flags with z := false } ∧ (gd ≠ 0 → (t.seq q.val).greg gd.val = 2) ∧
      t = { s with seqs := t.seqs })) ∧
    (member → storeGet 0 x.bars k.val = 0 → s.inTree = false → Completes (.barrier q gd k) s (fun t =>
      q.val ∈ (t.const.bar k.val).arrived ∧ t.seq q.val = { x with
        st := .waiting, bars := storeSet 0 x.bars k.val (s.fldI F.CONST_BAR_GEN 0 k.val + 1)
        wait := some { what := .barrier k.val false false, gd := gd.val, start := s.tickNo } } ∧
      t = { s with seqs := t.seqs, const := t.const }))) ∧
  (∀ (q : Fin 33) (w : Waiting) (s : State), (s.seq q.val).wait = some w → (s.seq q.val).pc.toNat + 4 < 65536 →
    let x := s.seq q.val
    let ends (u : State) (code : Nat) (t : State) : Prop :=
      u.onlySeq t q.val (Seq.after { x.setG w.gd (BitVec.ofNat 32 code) with
        flags := { x.flags with z := decide (code = 0) }, wait := none, st := .running, runStart := u.tickNo
        bars := (t.seq q.val).bars } 4)
    (∀ stamp, w.what = .time stamp → w.gone = false → s.time.counting = true →
      Completes (.waitEnd q) s (ends (s.reachStamp stamp) 0)) ∧
    (∀ p, w.what = .ring p → w.gone = true → Completes (.waitEnd q) s (ends s 2)) ∧
    (∀ p, w.what = .ring p → w.gone = false → s.ringMet q.val p = true → Completes (.waitEnd q) s (ends s 0)) ∧
    (∀ k, w.what = .barrier k true false → w.gone = false → Completes (.waitEnd q) s (ends s 0)) ∧
    (∀ m goal d l, w.what = .pos m goal d l true → w.gone = false → Completes (.waitEnd q) s (ends s 0)) ∧
    (0 < s.fld F.SEQ_WDOG_WLIM q.val → Completes (.waitTimeout q) s
      (ends (s.reachTick (w.start + 1250 * s.fld F.SEQ_WDOG_WLIM q.val)) 3)) ∧
    (∀ k, s.entryVector q.val = some k → x.stack.length < 16 → Completes (.vectorEntry q) s (fun t =>
      (t.seq q.val).stack = { ret := x.pc, flags := x.flags, entry := true } :: x.stack ∧
      (t.seq q.val).pc = BitVec.ofNat 16 (s.fldI F.SEQ_WVEC_HANDLER q.val k / 4 * 4) ∧ (t.seq q.val).st = .running ∧
      (t.seq q.val).wait = none ∧ (t.seq q.val).g = x.g ∧ bitOf (t.fld F.SEQ_WPEND_PEND q.val) k = false)) ∧
    (∀ m goal d l met, w.what = .pos m goal d l met → Completes (.positionComparator q) s (fun t =>
      let p := (s.posNow m).1
      let crossed := (decide (d ≠ 1) && decide (l < goal) && decide (goal ≤ p)) ||
        (decide (d ≠ 0) && decide (goal < l) && decide (p ≤ goal))
      t.seq q.val = { x with wait := some { w with what := .pos m goal d p (met || crossed) } } ∧
      t = { s with seqs := t.seqs, free := s.free + 1 })))

/-! ### Sequencers: waits, vectors, signals, starts, resets -/

/-- R197: a signal item at the head of the posting buffer reaches its target: with no vector on it, it sets its
pending bit, or counts as merged where that bit is still set; of bits 16 to 31 of SUP, which is running, the note 0x20 + b
is posted (R497, log entry 147). R184, R196, R203: 1 µs after its fault a port sequencer
with FAULTACT set starts anew at ENTRY, with cleared registers and one restart more; RUNLIM µs of running fault it
with 0x0706; an alarm fires and disarms. Model's choices: log entries 11 and 12. -/
def Obligations.SignalsAndTimers : Prop :=
  (∀ (q tgt : Fin 33) (bit : Fin 32) (rest : List Posted) (s : State),
    (s.seq q.val).post = .signal tgt.val bit.val :: rest → plainPost rest = true → s.vectorsOn tgt.val 3 bit.val = [] →
    Completes (.signalArrival q tgt bit) s (fun t =>
      t.seq q.val = { s.seq q.val with post := rest } ∧ (∀ p, p ≠ q.val → t.seq p = s.seq p) ∧
      (let u := { s with seqs := t.seqs, regs := t.regs }
        let noted := tgt.val = 32 ∧ 16 ≤ bit.val ∧ s.ready 0 = true ∧ bitOf (s.fld F.SEQ_SIGPEND_PEND 32) bit.val = false
        (¬noted → t = u) ∧ (noted → t = u.withRecords t ∧
          (s.cpNotes.length < 16 → s.pcNotes.length < 16 → t.cpNotes = s.cpNotes ++ [0x20 + bit.val] ∧ t.errq = s.errq))) ∧
      bitOf (t.fld F.SEQ_SIGPEND_PEND tgt.val) bit.val = true ∧
      (bitOf (s.fld F.SEQ_SIGPEND_PEND tgt.val) bit.val = true →
        t.fld F.SEQ_SIGPEND_PEND tgt.val = s.fld F.SEQ_SIGPEND_PEND tgt.val ∧
        t.fld F.SEQ_SIGMERGE_MERGED tgt.val = min (s.fld F.SEQ_SIGMERGE_MERGED tgt.val + 1) 65535) ∧
      (bitOf (s.fld F.SEQ_SIGPEND_PEND tgt.val) bit.val = false →
        t.fld F.SEQ_SIGMERGE_MERGED tgt.val = s.fld F.SEQ_SIGMERGE_MERGED tgt.val))) ∧
  (∀ (q : Fin 33) (s : State),
    let x := s.seq q.val
    (q.val < 32 → x.st = .faulted → s.bit F.SEQ_CTRL_FAULTACT q.val = true → Completes (.automaticRestart q) s (fun t =>
      (t.seq q.val).st = .running ∧ (t.seq q.val).g = [] ∧ (t.seq q.val).t = [] ∧ (t.seq q.val).stack = [] ∧
      (t.seq q.val).flags = {} ∧ (t.seq q.val).imem = x.imem ∧ (t.seq q.val).dmem = x.dmem ∧ (t.seq q.val).post = x.post ∧
      (t.seq q.val).pc = BitVec.ofNat 16 (s.fld F.SEQ_ENTRY_ADDR q.val / 4 * 4) ∧ x.faultAt + 1250 ≤ t.tickNo ∧
      t.fld F.SEQ_FAULT_RESTARTS q.val = min (s.fld F.SEQ_FAULT_RESTARTS q.val + 1) 255)) ∧
    (q.val < 32 → x.st = .running → 0 < s.fld F.SEQ_WDOG_RUNLIM q.val → Completes (.seqWatchdog q) s (fun t =>
      (t.seq q.val).st = .faulted ∧ (t.seq q.val).pc = x.pc ∧ t.fld F.SEQ_FAULT_CAUSE q.val = 6 ∧
      x.runStart + 1250 * s.fld F.SEQ_WDOG_RUNLIM q.val ≤ t.tickNo)) ∧
    (∀ stamp, x.alarm = some stamp → s.time.counting = true → s.vectorsOn q.val 4 0 = [] → Completes (.alarm q) s (fun t =>
      (s.reachStamp stamp).onlySeq t q.val { x with alarm := none })))

/-- Parts of R199, R200, R328, in the cases that the premises name. A consume port prefetches the next item of its
ring, up to 4; a produce port's oldest buffered item goes into its ring while there is room. Model's choices: log
entries 10 and 92. -/
def Obligations.StreamPortsMoveItems : Prop :=
  ∀ (q : Fin 33) (port : Fin 4) (s : State), s.ready 4 = true → s.fldI F.SEQ_STREAM_EN q.val port.val = 1 →
    let x := s.seq q.val
    let r := s.fldI F.SEQ_STREAM_RING q.val port.val
    let items : List (BitVec 128) := storeGet [] x.stream port.val
    s.bit F.RING_CTRL_EN r = true →
    (s.fldI F.SEQ_STREAM_DIR q.val port.val = 0 → s.fld F.RING_CTRL_CONS r = 320 + q.val → items.length < 4 →
      items.length < s.ringFill r → s.group (groupOf (s.ringAddr r (s.aheadOff r items.length))) = 0 →
      Completes (.prefetchRefill q port .clean) s (fun t => s.onlySeq t q.val { x with
        stream := storeSet [] x.stream port.val (items ++
          [itemOf (readBytes s.caldera (s.ringAddr r (s.aheadOff r items.length)) 16)]) })) ∧
    (s.fldI F.SEQ_STREAM_DIR q.val port.val = 1 → s.fld F.RING_CTRL_PROD r = 320 + q.val → 0 < s.ringRoom r →
      s.writeOpen r = true → ∀ i rest, items = i :: rest → Completes (.writeBufferDrain q port) s (fun t =>
        ∃ u : State, u = { s with ringWaits := s.ringWaits.filter (· ≠ (r, 320 + q.val)) }.ringPut (320 + q.val) r i ∧
          t = u.setSeq q.val { u.seq q.val with stream := storeSet [] (u.seq q.val).stream port.val rest }))

/-- Parts of R28, R204, R246, R485, R494, R498, in the cases that the premises name. An SRST with m = 0 halts its
sequencer and clears what R204 clears, its memories kept; SRST with m = 3, RESET and a SUP fault request the warm
reset with their cause; no KICK within WMAX is fatal with cause 4, once after the last KICK, also while a
warm reset waits (R486). The first request stands. Model's choices: log
entries 12 and 45. -/
def Obligations.ResetRequests : Prop :=
  ∀ (q n : Fin 33) (addr : Word) (rest : List Posted) (s : State), plainPost rest = true →
    let x := s.seq q.val
    (n.val < 32 → addr.toNat = 0x00300000 + 0x1000 * n.val → x.post = .srst 0 addr.toNat :: rest →
      Completes (.sequencerReset q addr) s (fun t =>
        (t.seq n.val).st = .halted ∧ (t.seq n.val).g = [] ∧ (t.seq n.val).t = [] ∧ (t.seq n.val).flags = {} ∧
        (t.seq n.val).stack = [] ∧ (t.seq n.val).alarm = none ∧ (t.seq n.val).wait = none ∧
        (t.seq n.val).imem = (s.seq n.val).imem ∧ (t.seq n.val).dmem = (s.seq n.val).dmem ∧
        t.fld F.SEQ_SIGPEND_PEND n.val = 0 ∧ t.fld F.SEQ_FAULT_CAUSE n.val = 0 ∧ t.fld F.SEQ_FAULT_RESTARTS n.val = 0)) ∧
    (s.warm = none →
      (x.post = .srst 3 addr.toNat :: rest → Completes (.warmReset (.srst q)) s (fun t =>
        t = { (s.setSeq q.val { x with post := rest }) with warm := some 3 })) ∧
      Completes (.warmReset .command) s (fun t => t = { s with warm := some 3 }) ∧
      ((s.seq 32).st = .faulted → Completes (.warmReset .supFault) s (fun t => t = { s with warm := some 5 })) ∧
      (s.ready 0 = true → s.wdogOut = false → s.bit F.SUP_ERRSTAT_HANDLING 0 = false → Completes .watchdogExpiry s (fun t =>
        t.warm = some 4 ∧ s.kickAt + 12500 * max 1 (s.fld F.SUP_WDOG_WMAX 0) ≤ t.tickNo ∧
        ∃ u : State, u = s.reachTick (s.kickAt + 12500 * max 1 (s.fld F.SUP_WDOG_WMAX 0)) ∧
        t = { u.withRecords t with warm := some 4, wdogOut := true }))) ∧
    (∀ c, s.warm = some c → Completes (.warmReset .command) s (fun t => t = s) ∧
      (s.ready 0 = true → s.wdogOut = false → s.bit F.SUP_ERRSTAT_HANDLING 0 = false → Completes .watchdogExpiry s (fun t =>
        t.warm = some c ∧ t.wdogOut = true ∧ s.kickAt + 12500 * max 1 (s.fld F.SUP_WDOG_WMAX 0) ≤ t.tickNo))) ∧
    (s.wdogOut = true → Completes .watchdogExpiry s (· = s))

/-! ### Rings, the Caldera, link streams -/

/-- Parts of R325, R331 to R335, R340, R341, in the cases that the premises name. A producer's item goes to the
Caldera at W and W advances; a full ring makes it wait, counted and reported once; a consumer's read advances R; a
watermark event reaches its vectors; an access wakes a retained group; clearing ends. Model's choices: log entries 10
and 91. -/
def Obligations.RingsAndGroups : Prop :=
  ∀ (ag : BitVec 10) (ring : Fin 1024) (item : BitVec 128) (g : Fin 8) (q : Fin 33) (s : State),
    let r := ring.val
    let w := s.fld F.RING_WPTR_OFF r
    let rd := s.fld F.RING_RPTR_OFF r
    (s.ringPlain r (s.ringAddr r w) = true → 64 ≤ ag.toNat → s.fld F.RING_CTRL_PROD r = ag.toNat → w + 1 < s.ringLen r →
      0 < s.ringRoom r → s.busFree = true → Completes (.ringWrite ag ring item) s (fun t =>
        t.fld F.RING_WPTR_OFF r = (w + 1) % 2 ^ 22 ∧ t.fld F.RING_RPTR_OFF r = rd ∧
        t.ringWaits = s.ringWaits.filter (· ≠ (r, ag.toNat)) ∧
        t.caldera = writeBytes s.caldera (s.ringAddr r w) (leBytes 16 item.toNat) ∧ t.flaws = s.mended (s.ringAddr r w) ∧
        t = { s with regs := t.regs, ringWaits := t.ringWaits, caldera := t.caldera, bus := t.bus, flaws := t.flaws })) ∧
    (s.ready 4 = true → s.ringEn r = true → 64 ≤ ag.toNat → s.fld F.RING_CTRL_PROD r = ag.toNat → s.ringRoom r = 0 →
      (r, ag.toNat) ∉ s.ringWaits → Completes (.ringWrite ag ring item) s (fun t => t.ringWaits = s.ringWaits ++ [(r, ag.toNat)] ∧
        t.fld F.RING_STAT_FULLCNT r = min (s.fld F.RING_STAT_FULLCNT r + 1) (2 ^ F.RING_STAT_FULLCNT.width - 1) ∧
        t.caldera = s.caldera ∧ t = { s.withRecords t with ringWaits := t.ringWaits })) ∧
    (s.ringPlain r (s.ringAddr r rd) = true → s.nothingWaits = true → 64 ≤ ag.toNat → s.fld F.RING_CTRL_CONS r = ag.toNat →
      rd + 1 < s.ringLen r → 0 < s.ringFill r → Completes (.ringRead ag ring .clean) s (fun t =>
        t.fld F.RING_RPTR_OFF r = (rd + 1) % 2 ^ 22 ∧ t.fld F.RING_WPTR_OFF r = w ∧ t = { s with regs := t.regs })) ∧
    ((q.val, r) ∈ s.watermarks → s.vectorsOn q.val 2 r = [] →
      Completes (.watermarkEvent q ring) s (fun t => t = { s with watermarks := s.watermarks.erase (q.val, r) })) ∧
    ((q.val, r) ∈ s.watermarks → s.fld F.SUP_PWR_STATE 0 = 0 → Completes (.watermarkEvent q ring) s (fun t =>
      (∀ k, k ∈ s.vectorsOn q.val 2 r → bitOf (t.fld F.SEQ_WPEND_PEND q.val) k = true) ∧ t.seqs = s.seqs)) ∧
    (s.group g.val = 1 → Completes (.groupWake g) s (fun t => t.group g.val = 0 ∧ t.caldera = s.caldera ∧
      (∀ k, k < 8 → k ≠ g.val → t.group k = s.group k) ∧ t = { s with regs := t.regs })) ∧
    (s.group g.val = 3 → s.nothingWaits = true → (∀ p, plainPost (s.seq p).post = true) →
      Completes (.groupCleared g) s (fun t => t.group g.val = 0 ∧
      (∀ k, k < 8 → k ≠ g.val → t.group k = s.group k) ∧ t = { s with regs := t.regs })) ∧
    (s.ready 4 = false → s.nothingWaits = true → (∀ p, plainPost (s.seq p).post = true) → Completes .calderaCleared s (fun t =>
      t.ready 4 = true ∧
      (∀ k, k < 16 → k ≠ 4 → t.ready k = s.ready k) ∧ t = { s with regs := t.regs, begun := t.begun }))

/-- R437: items leave their ring in one DATA frame against as many credits; items that arrive go into their ring,
which has the room for them; credits count up to 64. R420: a DATA frame with a bad CRC is counted and discarded, and
it or one after a gap is answered by a NAK that asks for the replay from the LSEQ that should come next; a poisoned one is
discarded. Model's choices: log entries 39 and 119. -/
def Obligations.LinkStreams : Prop :=
  ∀ (k n l stream : Fin 8) (src : Fin 512) (ring : Fin 1024) (x : BitVec 128) (c : Half) (s : State),
    let m := n.val + 1
    let r := s.fldI F.CONST_XSTRS_SRING 0 k.val
    let dev := s.fldI F.CONST_XSTR_DEV 0 k.val
    let rd := s.fld F.RING_RPTR_OFF r
    let w := s.fld F.RING_WPTR_OFF ring.val
    let credits := s.fldI F.CONST_XSTRS_CREDITS 0
    (∀ up, s.fldI F.CONST_XSTR_EN 0 k.val = 1 → s.ringPlain r (s.ringAddr r rd) = true → s.nothingWaits = true →
      s.fld F.RING_CTRL_CONS r = 256 + k.val → rd + 1 < s.ringLen r → rd + 1 < 2 ^ 22 → 0 < s.ringFill r →
      0 < credits k.val → s.linkTo dev = some up → s.linkUp up = true → s.sound (s.ringAddr r rd) 16 = true →
      Completes (.streamSend k 0 .clean) s (fun t =>
        t.fldI F.CONST_XSTRS_CREDITS 0 k.val = (credits k.val - 1) % 65536 ∧ t.fld F.RING_RPTR_OFF r = rd + 1 ∧
        t = { s with regs := t.regs, links := t.links, out := t.out } ∧
        t.out = s.out ++ [.frame up 9 (frameBytes 9 0 dev s.srcField 0 (s.link up).txSeq
          (leBytes 1 k.val ++ leBytes 2 (s.fldI F.CONST_XSTR_DRING 0 k.val) ++ leBytes 1 1 ++
            readBytes s.caldera (s.ringAddr r rd) 16))])) ∧
    (credits k.val < m → Completes (.streamSend k n .clean) s (fun t => t = s)) ∧
    (s.ringPlain ring.val (s.ringAddr ring.val w) = true → s.const.owed = [] → s.fld F.RING_CTRL_PROD ring.val = 256 + l.val →
      w + 1 < s.ringLen ring.val → w + 1 < 2 ^ 22 → 1 < s.ringRoom ring.val → s.busFree = true →
      s.linkUp l.val = true → (s.link l.val).coming = .good →
      Completes (.data l src stream ring [x]) s (fun t =>
        t.fld F.RING_WPTR_OFF ring.val = w + 1 ∧
        t.caldera = writeBytes s.caldera (s.ringAddr ring.val w) (leBytes 16 x.toNat) ∧ t.const.owed = [])) ∧
    (s.linkUp l.val = true →
      let b : Byte := BitVec.ofNat 8 (s.link l.val).rxSeq
      let nak : Out := .frame l.val 0x0D (frameBytes 0x0D 4 0 s.srcField 0 (s.link l.val).txSeq [b, 0, 0, 0])
      ((s.link l.val).coming = .badCrc → Completes (.data l src stream ring [x]) s (fun t => (t.link l.val).coming = .good ∧
        t.fld F.LINK_ERR_CRCERR l.val = min (s.fld F.LINK_ERR_CRCERR l.val + 1) (2 ^ F.LINK_ERR_CRCERR.width - 1) ∧
        t.out = s.out ++ [nak] ∧ t = { s with regs := t.regs, links := t.links, out := t.out })) ∧
      ((s.link l.val).coming = .gap → Completes (.data l src stream ring [x]) s (fun t => (t.link l.val).coming = .good ∧
        t.out = s.out ++ [nak] ∧ t = { s with links := t.links, out := t.out })) ∧
      ((s.link l.val).coming = .poisoned → Completes (.data l src stream ring [x]) s
        (s.onlyLink · l.val { s.link l.val with coming := .good, rxSeq := ((s.link l.val).rxSeq + 1) % 256 }))) ∧
    (Completes (.credit stream c) s (fun t => t = { s with regs := t.regs, links := t.links } ∧
      (∀ j, t.link j = if s.linkTo (s.fldI F.CONST_XSTR_DEV 0 stream.val) = some j then
        { s.link j with rxSeq := ((s.link j).rxSeq + 1) % 256 } else s.link j) ∧
      t.fldI F.CONST_XSTRS_CREDITS 0 stream.val = min 64 (credits stream.val + c.toNat)))

/-! ### Sills -/

/-- Parts of R105 to R120, in the cases that the premises name. An accepted entry enters the queue in time order; the
head of the queue becomes fixed 30 ticks before its launch; a RISE, FALL or TOGGLE that is alone at its instant
launches there; the trailing edge restores a pulse's level; AMEND by time, CANCEL and CAPT act on the entries that are
not fixed or held by a tracker whose window is open; an amendment-lane item for the head of the queue, 8 ticks or more
before its launch, moves it or takes it out. Each outcome comes with its frame. Model's choices: log entries 11, 12,
93 and 109. -/
def Obligations.SillEntriesLaunch : Prop :=
  ∀ (q : Fin 33) (n : Fin 1036) (m : Fin 8) (slot : Fin 256) (e : LaunchItem) (tag : Half) (stamp : Stamp) (edge : Fin 4)
    (all : Bool) (rest : List Posted) (s : State), plainPost rest = true →
    let k := n.val
    let x := s.sill k
    let post := (s.seq q.val).post
    let popped (l : List Posted) : State := s.setSeq q.val { s.seq q.val with post := l }
    let target : Half := BitVec.ofNat 16 k
    let entry : QEntry := {
      time := e.time, action := e.action.toNat, width := e.width.toNat, tag := e.tag.toNat, src := 320 + q.val, dev := 0 }
    let wide := e.action.toNat < 6 ∧ (k < 1024 ∨ ¬(8 ≤ k - 1024 ∧ k - 1024 ≤ 10) ∧ e.action.toNat ≠ 4) ∧
      ¬(e.action.toNat = 3 ∧ e.width.toNat < 2)
    let becomes (u : State) (y : Sill) (t : State) : Prop := u.onlySill t k y
    let quietPorts : Prop := ∀ p, (s.port p).switches = []
    (x.waiting = [] → s.owner .sill k = q.val →
      (e.target = target → wide → s.sillRuns k = true → s.sillFill k < 16 → x.held = [] →
        960 ≤ stampDiff e.time s.now → post = .entry e :: rest → Completes (.entryArrival (.seq q) e) s
          (becomes (popped rest) { x with queue := insertEntry s.now entry x.queue })) ∧
      (∀ h more, x.queue = h :: more → h.tag = tag.toNat → h.held = none → h.isFixed s.now = false →
        960 ≤ stampDiff stamp s.now → post = .amendTime target tag.toNat stamp :: rest →
        Completes (.sillAmend q target tag stamp) s (becomes (popped rest) { x with
          queue := insertEntry s.now { h with time := stamp, asked := none, lateBy := 0, amended := true } more })) ∧
      (post = .cancel target tag.toNat all [8] :: rest → x.fifo.length < 16 →
        Completes (.sillCancel q target tag all) s (fun t =>
          (t.sill k).queue = x.queue.filter (fun h => (!all && decide (h.tag ≠ tag.toNat)) || h.isFixed s.now ||
            h.held.isSome && !h.closed) ∧
          (t.sill k).fifo.length = x.fifo.length + 1 ∧ t.seq q.val = { s.seq q.val with post := rest })) ∧
      (post = .capt target edge.val :: rest → Completes (.captArrival q target edge) s (fun t =>
        t.fld F.SILL_CTRL_CEDGE k = edge.val ∧ t.bit F.SILL_CTRL_CEN k = decide (edge ≠ 0) ∧
        t = { (popped rest) with regs := t.regs, prior := t.prior }))) ∧
    (∀ h more, x.queue = h :: more → h.fixed = false →
      Completes (.fixing n) s (becomes (s.reachTickOf (h.time - 960)) { x with queue := { h with fixed := true } :: more })) ∧
    (∀ h more, x.queue = h :: more → (∀ y ∈ more, y.time ≠ h.time) → h.action ≤ 2 → s.time.counting = true → x.pulse = none →
      x.waiting = [] → quietPorts →
      let u := s.reachTickOf h.time
      let level := if h.action = 0 then true else if h.action = 1 then false else !x.level
      u.actBit F.SILL_CTRL_LREC k = false → (∀ p, x.lastChange = some p → 64 ≤ u.pinTime k h.time - p) →
      Completes (.launchInstant n) s (fun t => becomes { u with ports := t.ports } { x with
        level := level, queue := more, shown := (t.sill k).shown
        lastChange := if level ≠ x.level then some (u.pinTime k h.time) else x.lastChange } t)) ∧
    (∀ p, x.pulse = some p → quietPorts →
      let u := s.reachTickOf p.ends
      u.actBit F.SILL_CTRL_LREC k = false → Completes (.trailingEdge n) s (fun t => becomes { u with ports := t.ports } { x with
        level := p.restore, pulse := none, shown := (t.sill k).shown
        lastChange := if p.restore ≠ x.level then some (u.pinTime k p.ends) else x.lastChange } t)) ∧
    (∀ h more y others, x.waiting = [] → s.lane = (k, y) :: others → y.tracker = m.val → y.slot % 256 = slot.val →
      x.queue = h :: more → h.held = some (y.tracker, y.slot) → 256 ≤ stampDiff h.time s.now →
      (∀ at_, y.time = some at_ → 256 ≤ stampDiff at_ s.now → Completes (.laneAmendment m slot) s
        (becomes { s with lane := others } { x with
          queue := insertEntry s.now { h with time := at_, asked := none, lateBy := 0, amended := true, coast := y.coast } more })) ∧
      (y.time = none → Completes (.laneCancellation m slot) s
        (becomes { s with lane := others } { x with queue := more })))

/-- Parts of R121 to R133, R143, R161, in the cases that the premises name. A selected edge outside the blind window
makes a record with the deskewed timestamp (CSILL_11 takes only its own device's edges, log entry 17); the sill that
its lane's round robin serves next puts its oldest record into its ring; a lane gives the entry that it reads from a
launch stream to the sill that the entry names, where that sill takes the ring; a conversion makes a SAMPLE record of
the oldest aperture; CAPT_LO and NEXT_LO snapshot. Model's choices: log entries 17 and 91. -/
def Obligations.SillRecords : Prop :=
  ∀ (q lane : Fin 33) (n : Fin 1036) (ring : Fin 1024) (rise : Bool) (stamp : Stamp) (code : BitVec 12) (s : State),
    let k := n.val
    let x := s.sill k
    let r := ring.val
    let cring := s.act F.SILL_RING_CRING k
    let here := s.reachTickOf stamp
    let source := if k < 1024 then k else 1024 + (k - 1024)
    let lag := 64 + (if k < 1024 then k / 32 else 32)
    (here.sillRuns k = true → here.actBit F.SILL_CTRL_CEN k = true → s.time.counting = true →
      here.captureSees k (tickOf (here.realOf stamp)) = true → (k = 1035 → here.ownEdge k rise (here.realOf stamp) = true) →
      x.lastEdge = none → edgeSelected (here.act F.SILL_CTRL_CEDGE k) rise = true → here.actBit F.SILL_CTRL_POSEN k = false →
      x.fifo.length < 16 → Completes (.capture n rise stamp) s (fun t =>
        ∃ rec : EvRec, (t.sill k).fifo = x.fifo ++ [rec] ∧ rec.source = source ∧ rec.kind = (if rise then 1 else 2) ∧
          rec.ts = stamp + BitVec.ofInt 64 (max (-31) (signedOf 6 (here.act F.SILL_DSK_CDSK k))) ∧ (t.sill k).captTs = rec.ts ∧
          (t.sill k).level = x.level ∧ (t.sill k).queue = x.queue ∧ (∀ i, i ≠ k → t.sill i = s.sill i) ∧ t.regs = s.regs)) ∧
    (∀ rec rest, x.fifo = rec :: rest → s.ready 4 = true → s.ringEn cring = true → s.fld F.RING_CTRL_PROD cring = lag →
      0 < s.ringRoom cring → s.writeOpen cring = true → s.laneNext (laneOf k) = some k → Completes (.recordToRing n) s (fun t =>
        let u := { s with ringWaits := s.ringWaits.filter (· ≠ (cring, lag)) }.ringPut lag cring rec.item
        { u with laneLast := t.laneLast }.onlySill t k { x with fifo := rest } ∧ storeGet 0 t.laneLast (laneOf k) = k + 1)) ∧
    (∀ item u, s.takesStream k r = true → laneOf k = lane.val → s.readOpen r 0 = true → s.ringEn r = true → 0 < s.ringFill r →
      s.sound (s.ringAddr r (s.fld F.RING_RPTR_OFF r)) 16 = true →
      (∀ i, i ∈ laneSills lane.val → (s.sill i).waiting = []) → s.fld F.RING_CTRL_CONS r = 64 + lane.val →
      s.ringTake (64 + lane.val) r = (item, u) → (item.extractLsb' 64 16 : Half) = BitVec.ofNat 16 k → u.takesStream k r = true →
      u.refuseAction k (itemToEntry (itemEntry item) (64 + lane.val)) = none →
      Completes (.streamEntry lane ring .clean) s (fun t =>
        t = u.arrive k (1024 + r) (itemToEntry (itemEntry item) (64 + lane.val)))) ∧
    (∀ a tag flags rest, x.samples = (a, tag, flags) :: rest → x.fifo.length < 16 → x.lostSince = 0 →
      Completes (.conversionDone n code) s (fun t => ∃ rec : EvRec, (t.sill k).fifo = x.fifo ++ [rec] ∧ rec.kind = 0x20 ∧
        rec.ts = a ∧ rec.source = 3072 + k ∧ rec.payload = 16 * code.toNat + 65536 * (tag % 65536) ∧
        (t.sill k).samples = rest ∧ (∀ i, i ≠ k → t.sill i = s.sill i))) ∧
    Completes (.captLo q n) s (s.onlySill · k { x with captSnap := x.captTs.toNat / 2 ^ 32 }) ∧
    (∀ h more, x.queue = h :: more → Completes (.nextLo q n) s (fun t => (t.sill k).nextSnapHi = h.time.toNat / 2 ^ 32 ∧
      (t.sill k).nextSnapTag % 2 ^ 16 = h.tag % 2 ^ 16 ∧ (t.sill k).nextSnapTag / 2 ^ 31 = 1 ∧
      s.onlySill t k { x with nextSnapHi := (t.sill k).nextSnapHi, nextSnapTag := (t.sill k).nextSnapTag }))

/-! ### Ports and attention lines -/

/-- Parts of R139, R145, R151, R157 to R170, in the cases that the premises name. A lock sequence that takes more than
512 ticks ends with a record; one tick after a function switch's boundary its hold tick ends, and two ticks after it
the pin's capture resumes, the rest of the port unchanged but for what the switch drives; a reflex edge drives its
fabric pin; the converter gets ready; VIO changes its class with a record; an attention
event of both-edge sensing is timestamped with the deskewed instant and sent to every target, and reaches a zone, an
engine or a sequencer; TS_LO snapshots. Model's choices: log entries 11, 85 and 86. -/
def Obligations.PortsAndAttention : Prop :=
  ∀ (q : Fin 33) (port pin line : Fin 32) (out : Fin 32) (code : Fin 7) (zone : Fin 64) (e : Fin 16) (rise level : Bool)
    (stamp : Stamp) (s : State),
    let p := port.val
    let x := s.port p
    let n := line.val
    let a := s.atn n
    let here := s.reachTickOf stamp
    let steady := a.due = false ∧ a.again = [] ∧ s.actBit F.ATN_CTRL_EN n = true ∧ ∀ b ∈ a.pending, b ∈ s.atnTargets n
    (∀ l, x.locks.find? (fun l => decide (l.master = 320 + q.val)) = some l → Completes (.lockTimeout q port) s (fun t =>
      ∃ u, (s.reachTick (l.start + 512)).onlyPort u p { x with
          locks := x.locks.filter (fun l => decide (l.master ≠ 320 + q.val)) } ∧
        t = u.raise 0x030D (5 * 1024 + p) [p, 320 + q.val])) ∧
    (∀ w, x.switches = [(pin.val, some w)] → w.driving = false → w.writes = [] → w.sill = false → s.tickNo ≤ w.boundary + 1 →
      Completes (.holdTickEnd port pin) s (fun t =>
        let u := s.reachTick (w.boundary + 1)
        u.tickNo = w.boundary + 1 ∧ ∃ l : Option PinDrive,
          u.onlyPast t p { x with switches := [(pin.val, some { w with driving := true, latch := l })] })) ∧
    (∀ w, x.switches = [(pin.val, some w)] → w.driving = true ∨ w.writes = [] ∧ w.sill = false →
      Completes (.captureResume port pin) s (fun t => w.boundary + 2 ≤ t.tickNo ∧
        (s.reachTick (w.boundary + 2)).onlyPast t p { x with switches := [] })) ∧
    (s.fld F.ZONE_STATUS_STATE (edgeZone p) = 1 → bitOf (s.fldI F.PORT_PIN_FUNC p out.val) 2 = true → x.switches = [] →
      s.captureSees (32 * p + pin.val) s.tickNo = true → Completes (.reflexEdge port pin out rise level) s (fun t =>
        bitOf (t.port p).fabKnown out.val = true ∧ bitOf (t.port p).fabOut out.val = level ∧
        s.onlyPast t p { x with fabKnown := (t.port p).fabKnown, fabOut := (t.port p).fabOut })) ∧
    (s.bit F.PORT_CONV_EN p = true → s.bit F.PORT_STATUS_CONVREADY p = false → x.early = [] →
      Completes (.convready port) s (fun t => t.bit F.PORT_STATUS_CONVREADY p = true ∧ t.sills = s.sills ∧ t.errq = s.errq)) ∧
    (s.fld F.PORT_STATUS_VIOCODE p ≠ code.val → x.switches = [] → Completes (.viocodeChange port code) s (fun t =>
      t.fld F.PORT_STATUS_VIOCODE p = code.val ∧ (∀ i, i ≠ p → t.port i = s.port i) ∧ (t.port p).switches = [] ∧
      (t.port p).locks = x.locks ∧ (t.port p).early = x.early ∧ ∃ u : State, u.errq = s.errq ∧
        t = u.raise 0x030F (5 * 1024 + p) [p, s.fld F.PORT_STATUS_VIOCODE p, code.val])) ∧
    (here.actBit F.ATN_CTRL_EN n = true → here.captureSees (s.atnChannel n) (tickOf (here.realOf stamp)) = true →
      s.time.counting = true → a.last = none → a.pending = [] → a.due = false → a.again = [] → s.fld F.ATN_CTRL_SENSE n = 2 →
        a.since ≤ s.tickNo → inFuture stamp s.now = true →
      Completes (.atnEvent line rise stamp) s (fun t =>
        (t.atn n).ts = stamp + BitVec.ofInt 64 (max (-31) (signedOf 6 (here.act F.SILL_DSK_CDSK (s.atnChannel n)))) ∧
        (t.atn n).pending = here.atnTargets n ∧ (t.atn n).flying = a.flying ++ here.atnTargets n ∧ t.regs = s.regs)) ∧
    (.zone zone.val ∈ a.flying → steady → Completes (.atnDelivery line (.zone zone)) s (fun t =>
      bitOf (t.fld F.ZONE_ATNPEND_PEND zone.val) n = true ∧ .zone zone.val ∉ (t.atn n).flying ∧
      (t.atn n).pending = a.pending)) ∧
    (.engine e.val ∈ a.flying → steady → s.fld F.SUP_PWR_STATE 0 = 0 → Completes (.atnDelivery line (.engine e)) s (fun t =>
      bitOf (t.fld F.SE_ATNPEND_PEND e.val) n = true ∧ (t.atn n).pending = a.pending ∧ t.engines = s.engines)) ∧
    (.seq q.val ∈ a.flying → steady → .seq q.val ∈ a.pending → s.vectorsOn q.val 1 n = [] →
      Completes (.atnDelivery line (.seq q)) s (fun t => .seq q.val ∉ (t.atn n).pending ∧ t.regs = s.regs)) ∧
    Completes (.tsLo q line) s (s.onlyAtn · n { a with snap := a.ts.toNat / 2 ^ 32 })

/-- Parts of R150, R160, R163, R167 to R171, in the cases that the premises name. A sequencer's write, or its posted
mask, to a port that it owns and where no switch or lock is under way: static levels set, clear and invert by mask;
safe overrides come and go by mask; CONV.EN holds what is written. The three writes of the lock sequence, each within
512 ticks of the first, freeze the masked pins. ATN.CTRL.EN holds what is written; set anew it clears MISSED, cleared
it forgets what is pending. Model's choices: log entry 12. -/
def Obligations.PortWrites : Prop :=
  ∀ (q : Fin 33) (port line : Fin 32) (v : Word) (rest : List Posted) (s : State),
    let p := port.val
    let x := s.port p
    let o := s.fld F.PORT_OUT_LEVEL p
    let me := 320 + q.val
    let level (y : Nat) (t : State) : Prop := t.fld F.PORT_OUT_LEVEL p = y % 2 ^ 32 ∧
        t.seq q.val = { s.seq q.val with post := rest } ∧
      t = { s with seqs := t.seqs, regs := t.regs, prior := t.prior, ports := t.ports }
    let writes (off : Nat) : Prop := s.writing q.val .port p off v rest
    let masks (fn : Nat) : Prop := (s.seq q.val).post = .portMask p fn v :: rest ∧ s.owner .port p = q.val ∧ plainPost rest = true
    (x.locks = [] → x.switches = [] →
      (writes 4 ∨ masks 0 →
        Completes (.portSet q port v) s (level (Nat.lor o v.toNat))) ∧
      (writes 8 ∨ masks 1 →
        Completes (.portClr q port v) s (level (o - Nat.land o v.toNat))) ∧
      (writes 12 ∨ masks 2 →
        Completes (.portTgl q port v) s (level (Nat.xor o v.toNat))) ∧
      (writes 0x34 → Completes (.safeset q port v) s (fun t => ∀ i, i < 32 →
        t.overridden p i = (bitOf v.toNat i || s.overridden p i))) ∧
      (writes 0x38 → Completes (.safeclr q port v) s (fun t => ∀ i, i < 32 →
        t.overridden p i = (!bitOf v.toNat i && s.overridden p i))) ∧
      (writes 0x24 → x.early = [] → Completes (.convEn q port v) s (fun t =>
        t.bit F.PORT_CONV_EN p = bitOf v.toNat F.PORT_CONV_EN.lo ∧ t.sills = s.sills)) ∧
      (writes 0x28 → v = 0x7E570001 → Completes (.lock q port v) s (fun t =>
        (t.port p).locks = [{ master := me, stage := 1, mask := 0, start := s.tickNo }] ∧
        t.fld F.PORT_LOCKED_MASK p = s.fld F.PORT_LOCKED_MASK p))) ∧
    (∀ l, x.locks = [l] → l.master = me → s.tickNo ≤ l.start + 512 →
      (l.stage = 1 → writes 0x2C → Completes (.lockmask q port v) s (fun t =>
        (t.port p).locks = [{ l with stage := 2, mask := v.toNat }])) ∧
      (l.stage = 2 → writes 0x28 → v = 0x7E570002 → Completes (.lock q port v) s (fun t =>
        (t.port p).locks = [] ∧ t.fld F.PORT_LOCKED_MASK p = Nat.lor (s.fld F.PORT_LOCKED_MASK p) l.mask % 2 ^ 32))) ∧
    (s.writing q.val .atn line.val 0 v rest → Completes (.atnEn q line v) s (fun t =>
      t.bit F.ATN_CTRL_EN line.val = bitOf v.toNat F.ATN_CTRL_EN.lo ∧
      (s.bit F.ATN_CTRL_EN line.val = false → bitOf v.toNat F.ATN_CTRL_EN.lo = true → t.fld F.ATN_STAT_MISSED line.val = 0) ∧
      (bitOf v.toNat F.ATN_CTRL_EN.lo = false → s.bit F.ATN_CTRL_EN line.val = true → (t.atn line.val).pending = [])))

/-! ### Time base, chassis port, multiplying loops -/

/-- Parts of R33, R40 to R47, R55, in the cases that the premises name. XTAL_OK starts the band search of each loop
that has no valid band; TPLL_LOCK locks the active loop and stores its band, a pull going on, but does nothing while that loop is
frozen or the part is in holdover; a loop that is not locked falls back to a search; the counter starts at the next
tick; outside holdover a reference qualifies after its window and is lost with a record, and the loss of the active
loop's reference freezes it in holdover where the standby cannot take over; a pending switchover makes the standby
active, pulling the frequency at PULL's rate; a shadow lock makes the standby ready. Model's choices: log entries 11, 17, 98 and 99.
-/
def Obligations.TimeLoops : Prop :=
  ∀ (band : Fin 64) (loop : Fin 2) (ref : Fin 3) (ps : Word) (s : State),
    let t0 := s.time
    let l := t0.active
    let r := ref.val
    let y := t0.ref r
    let other := t0.ref (s.loopRef (1 - l))
    Completes .xtalok s (fun t => t.time.xtalOk = true ∧ t = { s with time := t.time } ∧ t.time.counter = t0.counter ∧
      t.time.loop0 = { t0.loop0 with searching := !s.bit F.TIME_TPLL_0_BANDVALID 0, misses := 0 } ∧
      t.time.loop1 = { t0.loop1 with searching := !s.bit F.TIME_TPLL_1_BANDVALID 0, misses := 0 }) ∧
    (t0.xtalOk = true → (t0.loop l).frozen = true ∨ t0.holdover = true → Completes (.tpllLock band) s (fun t => t = s)) ∧
    (t0.xtalOk = true → (t0.loop l).frozen = false → t0.holdover = false → Completes (.tpllLock band) s (fun t =>
      (t.time.loop l).locked = true ∧ (t.time.loop l).searching = false ∧
      t.time.freq = (match t0.freq with
        | .pull x a rate done => .pull x a rate done
        | _ => .follow) ∧
      (if l = 0 then t.fld F.TIME_TPLL_0_BAND 0 else t.fld F.TIME_TPLL_1_BAND 0) = band.val ∧
      (if l = 0 then t.bit F.TIME_TPLL_0_BANDVALID 0 else t.bit F.TIME_TPLL_1_BANDVALID 0) = true ∧
        t.time.counter = t0.counter ∧ t.time.counting = t0.counting ∧ t = { s with time := t.time, regs := t.regs })) ∧
    (t0.xtalOk = true → (t0.loop loop.val).locked = false → (t0.loop loop.val).shadow = false →
      Completes (.bandFallback loop) s (fun t => (t.time.loop loop.val).searching = true ∧ t = { s with time := t.time })) ∧
    (t0.lockSeen = true → t0.counting = false → s.recovery = false → Completes .counterStart s (fun t =>
      t.time.counting = true ∧ t.now = s.now ∧ t.tickNo = s.tickNo + 1 ∧ t.ready 5 = true ∧ t.ready 15 = s.ready 14)) ∧
    (y.qualified = false → (r = 2 → s.pinInput (s.fld F.TIME_REFSEL_CH10M 0) = true) → t0.holdover = false →
      Completes (.referenceQualify ref) s (fun t => t.time.ref r = { y with qualified := true, lostBefore := false } ∧
        y.since + 125000 * max 1 (s.act F.TIME_REFMON_QUAL 0) ≤ t.tickNo ∧
        (if r = 0 then t.bit F.TIME_REFMON_VALXTAL 0 else if r = 1 then t.bit F.TIME_REFMON_VAL100 0
          else t.bit F.TIME_REFMON_VAL10M 0) = true ∧
        (r = 0 → t.time.freerun = false) ∧ (y.lostBefore = false → t.errq = s.errq) ∧
        (y.lostBefore = true → ∃ u : State, u.errq = s.errq ∧ t.errq = (u.raise 0x0102 1024 [r]).errq))) ∧
    (y.qualified = true → r ≠ 0 → t0.holdover = false →
      (s.loopRef l ≠ r → Completes (.referenceLoss ref) s (fun t =>
        t.time.ref r = { qualified := false, lostBefore := true, since := s.tickNo } ∧
        (if r = 1 then t.bit F.TIME_REFMON_VAL100 0 else t.bit F.TIME_REFMON_VAL10M 0) = false ∧
        t.time.active = l ∧ t.time.holdover = false ∧
        ∃ u : State, u.errq = s.errq ∧ t = u.raise 0x0101 1024 [r, s.followers r])) ∧
      (s.loopRef l = r → s.loopRef (1 - l) = r ∨ other.qualified = false → Completes (.referenceLoss ref) s (fun t =>
        t.time.holdover = true ∧ (t.time.loop t.time.active).frozen = true ∧ (∃ x : Int, t.time.freq = .held x) ∧
        t.time.counter = t0.counter ∧ t.time.counting = t0.counting))) ∧
    (t0.switchPending = true → l ≤ 1 → Completes (.switchover ps) s (fun t => t.time.active = 1 - l ∧ t.time.switchPending = false ∧
      (t.time.loop (1 - l)).frozen = false ∧ t.tickNo = s.tickNo + 1 ∧
      (∃ x : Int, t.time.freq = .pull x t.tickNo (s.passTicks 1).pullRate 0) ∧ ∃ u : State, u.errq = s.errq ∧
        t = u.raise 0x0103 1024 [1 - l, ps.toNat])) ∧
    (other.qualified = true → Completes .shadowLock s (fun t => (t.time.loop (1 - l)).shadow = true ∧ t.stbyReady = true ∧
      (if 1 - l = 0 then t.bit F.TIME_TPLL_0_BANDVALID 0 else t.bit F.TIME_TPLL_1_BANDVALID 0) = true ∧
      t = { s with time := t.time, regs := t.regs, free := t.free }))

/-- Parts of R32, R37, R49 to R54, R136, R476, R477, R480, in the cases that the premises name. While the counter
counts, a slew that is under way ends, later, with remainder 0. With PPS enabled and the time base the device's own, a
PPS edge whose error is within STEPLIM becomes the slew and its change the trim, one beyond it steps the counter where
PPSSTEP is set and raises 0x0108 where it is not; a missing edge raises 0x0108 after 1.5 s with the last error (log
entry 101). STEPGO and an armed SYNC100 edge step the counter by the whole ticks, with every pending target of the
sills, the trackers and the arms, and leave the rest to the slew; an edge that is not armed or has no trigger is only
timestamped. A write of SLEW starts the slew anew. Under the constellation's alignment SLEW is refused with 0x0109 and
STEPGO moves nothing. FORCESW asks for the switchover where the standby is ready and otherwise does nothing, and in
holdover leaves it for a loop that can follow. NOW_LO and SYNCTS_LO snapshot; CLK10 qualifies and is lost. Model's
choices: log entries 11, 25, 71, 98 and 101. -/
def Obligations.TimeSteps : Prop :=
  ∀ (q : Fin 33) (stamp : Stamp) (trig : Bool) (foff v : Word) (rest : List Posted) (s : State),
    let t0 := s.time
    let e := ppsError stamp (s.act F.TIME_PPSOFF_OFFTICK 0)
    let small := e.natAbs ≤ s.act F.TIME_PPSCFG_STEPLIM 0 * 40000 ∧ e.natAbs < 2 ^ 31
    let part (x : Stamp) : Nat := x.toNat % 32
    let whole (x : Stamp) : Stamp := x - BitVec.ofNat 64 (part x)
    let steps (x : Stamp) (t : State) : Prop :=
      (whole x = 0 → t.now = s.now ∧ t.time.slewRem = t0.slewRem + part x ∧ t.time.stepCnt = t0.stepCnt) ∧
      (whole x ≠ 0 → t.now = s.now + ticks 1 + whole x ∧ t.time.slewRem = part x ∧
        t.time.stepCnt = (t0.stepCnt + 1) % 256 ∧ t.time.stepped = true ∧
        t.sills = mapStore (moveSill (whole x)) s.sills ∧ t.trackers = mapStore (moveTracker (whole x)) s.trackers ∧
        t.links = mapStore (moveLink (whole x)) s.links ∧ t.arms = s.arms.map (fun c => (c.1, c.2 + whole x)))
    let u := s.landed q.val rest
    (t0.slewRem ≠ 0 → t0.counting = true → Completes .slewDone s (fun t => t.time.slewRem = 0 ∧ s.tickNo < t.tickNo ∧
      t.now = s.now + ticks (t.tickNo - s.tickNo) ∧ t = { s with tickNo := t.tickNo, time := t.time })) ∧
    (s.actBit F.TIME_PPSCFG_EN 0 = true → s.constOwn = false → t0.counting = true →
      s.captureSees (s.act F.TIME_PPSCFG_CH 0) (tickOf (s.realOf stamp)) = true →
      (small → Completes (.ppsEdge stamp) s (fun t => t = { s with time := { t0 with
        ppsErr := e, ppsSeen := true, ppsTick := s.tickNo, slewRem := -e, slewAcc := 0
        trim := if t0.ppsSeen then t0.trim - (e - t0.ppsErr) else t0.trim } })) ∧
      (¬small → s.actBit F.TIME_PPSCFG_PPSSTEP 0 = true → Completes (.ppsEdge stamp) s (fun t =>
        t.time.ppsErr = e ∧ steps (BitVec.ofInt 64 (-e)) t)) ∧
      (¬small → s.actBit F.TIME_PPSCFG_PPSSTEP 0 = false → Completes (.ppsEdge stamp) s (fun t =>
        t.time.slewRem = t0.slewRem ∧ t.time.ppsErr = e ∧ ∃ w : State, w.errq = s.errq ∧ t = w.raise 0x0108 1024
          [(BitVec.ofInt 64 e).toNat % 2 ^ 32, (BitVec.ofInt 64 e).toNat / 2 ^ 32]))) ∧
    (s.actBit F.TIME_PPSCFG_EN 0 = true → s.constOwn = false → Completes .ppsMissing s (fun t =>
      t0.ppsTick + 1875000000 ≤ t.tickNo ∧
      t.time.ppsTick = t.tickNo ∧ ∃ w : State, w.errq = s.errq ∧ t = w.raise 0x0108 1024
        [(BitVec.ofInt 64 t0.ppsErr).toNat % 2 ^ 32, (BitVec.ofInt 64 t0.ppsErr).toNat / 2 ^ 32])) ∧
    Completes (.nowLo q) s (fun t => t = { s with time := { t0 with snap := s.now } }) ∧
    Completes (.synctsLo q) s (fun t => t = { s with hostSide := { s.hostSide with
      syncSnap := s.hostSide.syncTs.toNat / 2 ^ 32 } }) ∧
    (s.bit F.CHASSIS_SYNC_ARM 0 = true → s.trigDone = true → s.constOwn = false → t0.counting = true → stamp = s.now →
      Completes (.sync100Edge stamp true) s (fun t => steps (s.syncValue - stamp) t ∧ t.hostSide.syncTs = stamp ∧
        t.bit F.CHASSIS_SYNC_ARM 0 = false ∧ t.bit F.CHASSIS_STATUS_ARMED 0 = false ∧ t.bit F.CHASSIS_STATUS_SYNCOK 0 = true)) ∧
    (s.bit F.CHASSIS_SYNC_ARM 0 = false ∨ trig = false ∨ s.trigDone = false → stamp = s.now →
      Completes (.sync100Edge stamp trig) s (fun t =>
      t.now = s.now ∧ t.time.stepCnt = t0.stepCnt ∧ t.hostSide = { s.hostSide with syncTs := stamp, syncTick := s.tickNo } ∧
      t = { s with regs := t.regs, hostSide := t.hostSide, time := t.time })) ∧
    (s.bit F.CHASSIS_STATUS_CLK10OK 0 = false → foff.toInt.natAbs ≤ 1000 * s.refTol → Completes (.clk10Qualify foff) s (fun t =>
      t.fld F.CHASSIS_CLK10_FOFF 0 = foff.toNat ∧ t.bit F.CHASSIS_STATUS_CLK10OK 0 = true ∧
      s.hostSide.clk10Since + 125000 * max 1 (s.act F.TIME_REFMON_QUAL 0) ≤ t.tickNo ∧ t.errq = s.errq)) ∧
    (1000 * s.refTol < foff.toInt.natAbs → Completes (.clk10Qualify foff) s (fun t => t.fld F.CHASSIS_CLK10_FOFF 0 = foff.toNat ∧
      t.bit F.CHASSIS_STATUS_CLK10OK 0 = s.bit F.CHASSIS_STATUS_CLK10OK 0 ∧ t.hostSide.clk10Since = s.tickNo ∧
      t = { s with regs := t.regs, hostSide := t.hostSide })) ∧
    (s.bit F.CHASSIS_STATUS_CLK10OK 0 = true → Completes (.clk10Loss foff) s (fun t =>
      t.fld F.CHASSIS_CLK10_FOFF 0 = foff.toNat ∧ t.bit F.CHASSIS_STATUS_CLK10OK 0 = false ∧
      ∃ w : State, w.errq = s.errq ∧ t = w.raise 0x0B0D (17 * 1024) [foff.toNat])) ∧
    (s.writing q.val .time 0 0x18 v rest →
      (s.constOwn = false → Completes (.slew q v) s (fun t => t.time = { t0 with slewRem := v.toInt, slewAcc := 0 } ∧
        t.fld F.TIME_SLEW_OFFSET 0 = v.toNat ∧ t = { u with time := t.time, regs := t.regs, prior := t.prior })) ∧
      (s.constOwn = true → Completes (.slew q v) s (· = u.raise 0x0109 1024 [0x10018]))) ∧
    (s.writing q.val .time 0 0 v rest → bitOf v.toNat 31 = true →
      (s.constOwn = false → t0.counting = true → Completes (.stepgo q v) s (steps s.stepValue)) ∧
      (s.constOwn = true → Completes (.stepgo q v) s (fun t => t.now = s.now ∧ t.time.stepCnt = t0.stepCnt ∧
        t.time.slewRem = t0.slewRem))) ∧
    (s.writing q.val .time 0 0 v rest → bitOf v.toNat 20 = true →
      (t0.holdover = false → Completes (.forcesw q v) s (fun t =>
        t.time.switchPending = (t0.switchPending || s.stbyReady) ∧ t.time.active = t0.active ∧ t.time.holdover = false ∧
        (bitOf v.toNat 31 = false → t = { u with time := t.time, regs := t.regs, prior := t.prior } ∧
          t.time = { t0 with switchPending := t.time.switchPending, localRec := t.time.localRec, freq := t.time.freq } ∧
          ((∀ x a rate done, t0.freq ≠ .pull x a rate done) → t.time.freq = t0.freq)))) ∧
      (t0.holdover = true → ∀ l, s.exitLoop = some l → Completes (.forcesw q v) s (fun t =>
        t.time.holdover = false ∧ t.time.active = l ∧ (t.time.loop l).frozen = false)))

/-- Parts of R57 to R66, in the cases that the premises name. A measurement in range sets FREF and REFOK and goes on
to a hop or a search, one out of range raises 0x0111 with the product modulo 2^32 (log entry 103); a hop and a search
with no change held end in lock detection, the search with its band in the table; a window closes at W reference edges
or 2 W feedback counts and with no other counts; a good one counts towards LOCKED, the second bad one in a row at a
locked, enabled loop holds it with 0x0110; REBAND moves to the next band; a swallowed edge counts; HELD_EXIT measures
anew; EN, HOLD and SEARCH written start, hold and search. Model's choices: log entries 17 and 103. -/
def Obligations.MultiplyingLoops : Prop :=
  ∀ (q : Fin 33) (n : Fin 8) (fref v : Word) (band : Fin 64) (a b : Nat) (rest : List Posted) (s : State),
    let k := n.val
    let x := s.mpll k
    let f := s.fld F.MPLL_DIV_N k * fref.toNat
    let en := s.bit F.MPLL_CTRL_EN k
    let detecting (t : State) : Prop := (t.mpll k).phase = .detecting ∧ (t.mpll k).good = 0 ∧ (t.mpll k).bad = 0 ∧
      t.bit F.MPLL_STATUS_HOPPING k = false ∧ t.bit F.MPLL_STATUS_SEARCHING k = false
    let writes := s.writing q.val .mpll k 0 v rest
    (x.phase = .measuring → (12207 ≤ f ∧ f < 3200000000 →
      Completes (.measureDone n fref) s (fun t => t.fld F.MPLL_FREF_FREF k = fref.toNat ∧ t.bit F.MPLL_STATUS_REFOK k = true ∧
        ((t.mpll k).phase = .hopping ∨ (t.mpll k).phase = .searching) ∧
        (∀ i, i ≠ k → t.mpll i = s.mpll i) ∧ t = { s with regs := t.regs, mplls := t.mplls, trackers := t.trackers } ∧
        ∀ i, t.mt i = { s.mt i with past := (t.mt i).past })) ∧
      (¬(12207 ≤ f ∧ f < 3200000000) → Completes (.measureDone n fref) s (fun t => (t.mpll k).phase = .outOfRange ∧
        t.bit F.MPLL_STATUS_REFOK k = false ∧ ∃ w : State, w.errq = s.errq ∧ t = w.raise 0x0111 (2 * 1024 + k) [k, f % 2 ^ 32]))) ∧
    (x.phase = .hopping → x.change = none → Completes (.hopDone n) s detecting) ∧
    (x.phase = .searching → x.change = none → Completes (.searchDone n band) s (fun t => detecting t ∧
      t.fld F.MPLL_STATUS_BAND k = band.val ∧ ∃ i, i < 16 ∧ t.fldI F.MPLL_BAND_VALID k i = 1 ∧
        t.fldI F.MPLL_BAND_BAND k i = band.val ∧ t.fldI F.MPLL_BAND_KEY k i = s.mpllOsc k / 100000 % 2 ^ 16)) ∧
    (x.phase = .detecting → windowCloses x.win a b = true → ((a : Int) - b).natAbs ≤ x.tol →
      Completes (.lockWindow n a b) s (fun t => s.onlyMpll { t with regs := s.regs, trackers := s.trackers } k
          { x with good := x.good + 1, bad := 0, win := s.lockW k, tol := s.lockTol k } ∧
        t.bit F.MPLL_STATUS_LOCKED k = (decide (max 1 (s.act F.MPLL_LOCKDET_LOCKCNT k) ≤ x.good + 1) ||
          s.bit F.MPLL_STATUS_LOCKED k))) ∧
    (x.phase = .detecting → windowCloses x.win a b = false → Completes (.lockWindow n a b) s (· = s)) ∧
    (x.phase = .detecting → windowCloses x.win a b = true → x.tol < ((a : Int) - b).natAbs → x.bad = 1 → en = true →
      s.bit F.MPLL_STATUS_LOCKED k = true → Completes (.lockWindow n a b) s (fun t => (t.mpll k).phase = .holding ∧
        (t.mpll k).byLoss = true ∧ t.bit F.MPLL_STATUS_LOCKED k = false ∧ t.bit F.MPLL_STATUS_HELD k = true ∧
        ∃ w : State, w.errq = s.errq ∧ t = w.raise 0x0110 (2 * 1024 + k) [k, s.fld F.MPLL_STATUS_BAND k,
          s.fld F.MPLL_FREF_FREF k])) ∧
    (x.phase = .detecting → s.fld F.MPLL_STATUS_BAND k < 63 → Completes (.reband n true) s (fun t =>
      t.fld F.MPLL_STATUS_BAND k = s.fld F.MPLL_STATUS_BAND k + 1 ∧ t.bit F.MPLL_STATUS_LOCKED k = s.bit F.MPLL_STATUS_LOCKED k ∧
      t = { s with regs := t.regs })) ∧
    (en = true → s.act F.MPLL_GUARD_TGUARD k ≠ 0 → x.swallowing = true → Completes (.rateGuardSwallow n false) s (fun t =>
      t.fld F.MPLL_SWALLOW_COUNT k = min (s.fld F.MPLL_SWALLOW_COUNT k + 1) (2 ^ 32 - 1) ∧ t.errq = s.errq ∧ t.mpll k = x)) ∧
    (s.bit F.MPLL_STATUS_HELD k = true → x.byProgram = false → x.byTracker = false →
      Completes (.heldExit n true) s (fun t => detecting t ∧ (t.mpll k).byLoss = false ∧ t.bit F.MPLL_STATUS_HELD k = false) ∧
      Completes (.heldExit n false) s (fun t => (t.mpll k).phase = .measuring ∧ t.bit F.MPLL_STATUS_HELD k = false)) ∧
    (writes → en = false → bitsOf v.toNat 16 4 < 6 →
      (bitOf v.toNat 0 = true → bitOf v.toNat 1 = false → bitOf v.toNat 31 = false → Completes (.mpllEn q n v) s (fun t =>
        t.bit F.MPLL_CTRL_EN k = true ∧ (t.mpll k).phase = .measuring ∧ t.bit F.MPLL_STATUS_HOPPING k = true ∧
        t.bit F.MPLL_STATUS_LOCKED k = false ∧ t.fld F.MPLL_SWALLOW_COUNT k = 0)) ∧
      (bitOf v.toNat 0 = true → bitOf v.toNat 1 = true → bitOf v.toNat 31 = false → Completes (.hold q n v) s (fun t =>
        t.bit F.MPLL_CTRL_HOLD k = true ∧ (t.mpll k).phase = .holding ∧ (t.mpll k).byProgram = true ∧
        t.bit F.MPLL_STATUS_HELD k = true))) ∧
    (writes → en = true → x.phase = .detecting → bitOf v.toNat 0 = true → bitOf v.toNat 1 = false → bitOf v.toNat 31 = true →
      Completes (.search q n v) s (fun t => (t.mpll k).phase = .searching ∧ t.bit F.MPLL_STATUS_SEARCHING k = true ∧
        t.bit F.MPLL_STATUS_LOCKED k = false))

/-! ### Trackers -/

/-- Parts of R69 to R80, R83, R94 to R101, in the cases that the premises name. An edge of an enabled tracker's line enters the
glitch filter, or takes the opposite edge of its line out of it where that one is less than the glitch time old. The count edge
with the earliest timestamp in the filters, 40 ns or more behind the last one, gives no count where the mode selects none, and
otherwise moves the position by one count in the decoded direction; the first one in ACQ begins the history. An index edge that
IDXEDGE does not select does nothing; a selected one latches the position at its own timestamp, and in modes 2 and 3 sets the
position to IDXVAL. A dropout coasts, or with LIMIT 0 is OVERLIMIT at once; the coast limit ends in OVERLIMIT, with the slots
kept, freed, or freed with the safe mask, by the policy; standstill holds the position. POS_LO snapshots; EN set starts in ACQ
with the position kept, EN cleared ends in OFF. Model's choices: log entries 11, 20, 21, 23, 107, 108 and 109. -/
def Obligations.TrackerMotion : Prop :=
  ∀ (q : Fin 33) (n : Fin 8) (line : Fin 3) (rise : Bool) (stamp : Stamp) (v : Word) (rest : List Posted) (s : State),
    let k := n.val
    let x := s.mt k
    let c := s.lineChannel k line.val
    let here := s.reachTickOf stamp
    let ts := stamp + BitVec.ofInt 64 (max (-31) (signedOf 6 (here.act F.SILL_DSK_CDSK c)))
    let last := (x.filt.filter (fun o => decide (o.line = line.val))).getLast?
    let en := s.bit F.MT_CTRL_EN k
    let quiet := s.liveSlots k = [] ∧ x.watch = [] ∧ s.bit F.MT_CTRL_RECEN k = false ∧ s.prior = []
    (en = true → here.captureSees c (tickOf (here.realOf stamp)) = true → s.time.counting = true →
      ((∀ o, last = some o → o.rise = rise ∨ (o.span : Nat) ≤ stampDiff ts o.t) →
        Completes (.encoderEdge n line rise stamp) s
          (here.onlyMt · k { x with
            filt := x.filt ++ [{ t := ts, line := line.val, rise := rise, span := here.glitchSpan k line.val }] })) ∧
      (∀ o, last = some o → o.rise ≠ rise → stampDiff ts o.t < (o.span : Nat) →
        Completes (.encoderEdge n line rise stamp) s (fun t => (t.mt k).filt = x.filt.erase o ∧ (t.mt k).pos = x.pos ∧
          t.fld F.MT_ERRCNT_GLITCH k = min (s.fld F.MT_ERRCNT_GLITCH k + 1) 65535))) ∧
    (en = true → ∀ e, x.nextEdge = some e →
      (∀ o, x.hist.head? = some o → 1600 ≤ stampDiff e.t o.t) →
      let edge := decodeEdge (s.fld F.MT_CTRL_MODE k) (s.bit F.MT_CTRL_INVERT k) x.lvlA x.lvlB e
      (edge.2.2 = none → Completes (.countEdge n) s (fun t => (t.mt k).pos = x.pos ∧ (t.mt k).lvlA = edge.1 ∧
        (t.mt k).lvlB = edge.2.1 ∧ (t.mt k).filt = x.filt.erase e ∧ t.regs = s.regs)) ∧
      (∀ d, edge.2.2 = some d → Completes (.countEdge n) s (fun t =>
        (t.mt k).pos = signedOf 64 (wrapOf 64 ((x.pos / 65536 + d) * 65536)) ∧ (t.mt k).base = e.t ∧ (t.mt k).lvlA = edge.1 ∧
        (t.mt k).lvlB = edge.2.1 ∧ (t.mt k).filt = x.filt.erase e ∧ t.bit F.MT_STATUS_DIR k = decide (d < 0)))) ∧
    (∀ e, en = true → x.filt = [e] → e.line = 0 → e.rise = true → x.lvlA = false → x.hist = [] → x.st = .acq → quiet →
      x.breachCoast = false → s.fld F.MT_CTRL_MODE k = 0 → s.bit F.MT_CTRL_INVERT k = false → s.bit F.MT_CTRL_BREACHACT k = false →
      Completes (.countEdge n) s (fun t =>
        let d : Int := if x.lvlB then -1 else 1
        (t.mt k).pos = signedOf 64 (wrapOf 64 ((x.pos / 65536 + d) * 65536)) ∧ (t.mt k).st = .acq ∧ (t.mt k).lvlA = true ∧
        (t.mt k).base = e.t ∧ (t.mt k).dirRev = x.lvlB ∧ t.bit F.MT_STATUS_DIR k = x.lvlB ∧ (t.mt k).filt = [] ∧
        (t.mt k).hist = [{ t := e.t, n := x.n + d, v := 0 }])) ∧
    (en = true → ∀ e, x.filt.find? (fun e => decide (e.line = 2)) = some e →
      let then_ := s.reachStamp (e.t + BitVec.ofNat 64 e.span)
      (e.rise = then_.actBit F.MT_CTRL_IDXEDGE k → Completes (.indexEdge n) s (fun t => (t.mt k).pos = x.pos ∧
        (t.mt k).filt = x.filt.erase e ∧ t.regs = s.regs)) ∧
      (e.rise ≠ then_.actBit F.MT_CTRL_IDXEDGE k →
        (s.fld F.MT_CTRL_IDXMODE k < 2 → Completes (.indexEdge n) s (fun t => (t.mt k).pos = x.pos)) ∧
        (s.fld F.MT_CTRL_IDXMODE k ≠ 0 → Completes (.indexEdge n) s (fun t => ∃ cycles : Nat,
          let u := then_.setMt k { x with filt := x.filt.erase e }
          t.fld F.MT_IDXPOS_LO_ILO k = wrapOf 64 (u.posWith k e.t cycles) % 2 ^ 32 ∧
          t.fld F.MT_IDXPOS_HI_IHI k = wrapOf 64 (u.posWith k e.t cycles) / 2 ^ 32 % 2 ^ 32)) ∧
        (2 ≤ s.fld F.MT_CTRL_IDXMODE k → Completes (.indexEdge n) s (fun t =>
          (t.mt k).pos = 65536 * signedOf 32 (s.fld F.MT_IDXVAL_IVAL k) ∧ (t.mt k).base = e.t ∧
          t.fld F.MT_CTRL_IDXMODE k = if s.fld F.MT_CTRL_IDXMODE k = 2 then 1 else s.fld F.MT_CTRL_IDXMODE k)))) ∧
    (∀ d, x.dropAt = some d →
      let limit := (s.reachStamp d).act F.MT_COAST_LIMIT k
      (limit = 0 → Completes (.dropout n) s (fun t => (t.mt k).st = .overlimit ∧ (t.mpll k).byTracker = true)) ∧
      (0 < limit → Completes (.dropout n) s (fun t => (t.mt k).st = .coast ∧ (t.mt k).model = true ∧
        (t.mt k).dropAt = none ∧
        (t.mt k).limitAt = some (x.mBase + BitVec.ofNat 64 (40000 * limit)) ∧ (t.mt k).v = x.v ∧
        (t.mpll k).byTracker = true ∧ t.now = (s.reachStamp d).now))) ∧
    (∀ d, x.limitAt = some d → x.st = .coast →
      let due := s.reachStamp d
      (due.policy k = 1 → Completes (.coastLimit n) s (fun t =>
        (t.mt k).st = .overlimit ∧ (t.mt k).limitAt = none ∧ (t.mt k).slots = x.slots ∧
        ∃ u : State, u.errq = s.errq ∧ t = u.raise 0x0207 (3 * 1024 + k) [k, 1, 0])) ∧
      (due.policy k ≠ 1 → Completes (.coastLimit n) s (fun t =>
        (t.mt k).st = .overlimit ∧ (t.mt k).limitAt = none ∧ t.liveSlots k = [] ∧
        (due.policy k = 2 → ∀ p i, p < 32 → i < 32 → bitOf (due.actI F.MT_SAFESET_MASK k p) i = true →
          t.overridden p i = true)))) ∧
    (∀ z, x.stopAt = some z → Completes (.standstill n) s (fun t =>
      (t.mt k).st = .still ∧ (t.mt k).v = 0 ∧ (t.mt k).a = 0 ∧ (t.mt k).pos = x.pos ∧ (t.mt k).stopAt = none ∧
      (quiet → t.regs = s.regs))) ∧
    Completes (.posLo q n) s (fun t => ∃ p : Int, p = (s.posNow k).1 ∧ t.fld F.MT_POS_LO_PLO k = wrapOf 64 p % 2 ^ 32 ∧
      t.fld F.MT_POS_HI_PHI k = wrapOf 64 p / 2 ^ 32 % 2 ^ 32 ∧ t = { s with regs := t.regs, free := t.free }) ∧
    (s.writing q.val .mt k 0 v rest → en = false → bitOf v.toNat F.MT_CTRL_EN.lo = true → Completes (.trackerEn q n v) s (fun t =>
      t.bit F.MT_CTRL_EN k = true ∧ (t.mt k).st = .acq ∧ (t.mt k).pos = x.pos ∧ (t.mt k).hist = [] ∧ (t.mt k).slots = x.slots ∧
      t.fld F.MT_ERRCNT_GLITCH k = 0 ∧ t.fld F.MT_ERRCNT_OVERSPEED k = 0)) ∧
    (s.writing q.val .mt k 0 v rest → en = true → bitOf v.toNat F.MT_CTRL_EN.lo = false → quiet →
      Completes (.trackerEn q n v) s (fun t => t.bit F.MT_CTRL_EN k = false ∧ (t.mt k).st = .off ∧ (t.mt k).pos = x.pos))

/-- Parts of R81 to R92, R228, R229, in the cases that the premises name. With no prediction under way, a position
entry arms the lowest free slot, or raises 0x0204 where none is free; AMEND gives the only live slot, armed with the
sill and tag named, another position, and CANCEL frees it, waiting for the other trackers that the item names. A
predicted slot commits at the horizon's half as an entry for its sill; a commit that found the queue full enters once
there is room; the window's close frees the slot and watches its crossing; in COAST the model predicts the only live
slot anew. Model's choices: log entries 11, 12 and 20. -/
def Obligations.TrackerSlots : Prop :=
  ∀ (q : Fin 33) (n : Fin 8) (slot : Fin 256) (ch : Fin 1024) (pos : Stamp) (dir : Fin 3) (action : Fin 8) (width tag : Half)
    (all : Bool) (rest : List Posted) (s : State),
    let k := n.val
    let x := s.mt k
    let i := slot.val
    let c := s.slot k i
    let post := (s.seq q.val).post
    let alone := s.liveSlots k = [i] ∧ c.state = 1 ∧ c.ch = ch.val ∧ c.tag = tag.toNat
    (s.owner .sill ch.val = q.val → s.predicts k = false → plainPost rest = true →
      (x.freeSlot = some i → ¬(x.st = .overlimit ∧ x.limited = s.tickNo + 1) →
        post = .posEntry k pos.toInt dir.val action.val ch.val width.toNat tag.toNat :: rest →
        Completes (.launchpArrival q n pos dir action ch width tag) s (fun t => t.slot k i = {
            x := pos.toInt, state := 1, dir := dir.val, action := action.val, owner := q.val, ch := ch.val
            width := width.toNat, tag := tag.toNat, seen := some ((s.landed q.val rest).posNow k).1, gen := c.gen
            armedAt := s.tickNo + 1 } ∧
          (∀ j, j ≠ i → t.slot k j = s.slot k j) ∧ t.regs = s.regs ∧ t.commits = s.commits)) ∧
      (x.freeSlot = none → post = .posEntry k pos.toInt dir.val action.val ch.val width.toNat tag.toNat :: rest →
        Completes (.launchpArrival q n pos dir action ch width tag) s (fun t => t.trackers = s.trackers ∧
          t = (s.landed q.val rest).raise 0x0204 (3 * 1024 + k) [k, q.val, tag.toNat])) ∧
      (alone → post = .amendPos k ch.val tag.toNat pos.toInt :: rest → Completes (.trackerAmend q n ch tag pos) s (fun t =>
        (t.slot k i).x = pos.toInt ∧ (t.slot k i).state = 1 ∧ (∀ j, j ≠ i → t.slot k j = s.slot k j) ∧ t.regs = s.regs)) ∧
      (∀ left, alone → s.actBit F.MT_CTRL_RECEN k = false → post = .cancel (BitVec.ofNat 16 ch.val) tag.toNat all left :: rest →
        k ∈ left → Completes (.trackerCancel q n ch tag all) s (fun t =>
          t.slot k i = { c with state := 0, pred := none, seen := none } ∧
          t.lane = s.lane ∧ (t.seq q.val).post =
            if left = [k] then rest else .cancel (BitVec.ofNat 16 ch.val) tag.toNat all (left.filter (· ≠ k)) :: rest))) ∧
    (∀ t0, c.state = 1 → c.pred = some t0 → s.predicts k = true → Completes (.horizonBackstop n slot) s (fun t =>
      (t.slot k i).state = 2 ∧ (t.slot k i).time = t0 ∧ (∀ j, j ≠ i → t.slot k j = s.slot k j) ∧
      ∃ e : QEntry, t.commits = s.commits ++ [(c.ch, e)] ∧ e.time = t0 ∧ e.action = c.action ∧ e.width = c.width ∧
        e.tag = c.tag ∧ e.held = some (k, i + 256 * (c.gen + 1)))) ∧
    (∀ m y, s.sills.find? (fun d => d.2.waiting.any (fun w => ofSlot k i w.2.held)) = some (m, y) → s.sill m = y →
      ∀ w, y.waiting = [w] → s.sillRuns m = true → s.sillFill m < 16 → y.held = [] → 960 ≤ stampDiff w.2.time s.now →
      Completes (.commitRetry n slot) s (fun t => storeGet 0 t.laneDown (laneOf m) = w.1 + 1 ∧
        ({ s with laneDown := t.laneDown } : State).onlySill t m { y with waiting := [], queue := insertEntry s.now w.2 y.queue })) ∧
    (c.state = 2 → (s.reachTickOf (c.time - 960)).actBit F.MT_CTRL_XREC k = false → Completes (.windowClose n slot) s (fun t =>
      t.slot k i = { c with state := 0, pred := none, seen := none } ∧
      (t.mt k).watch = x.watch ++ [{ slot := i, tag := c.tag, x := c.x, dir := c.dir, time := c.time }] ∧
      (∀ j, j ≠ i → t.slot k j = s.slot k j) ∧ t.regs = s.regs)) ∧
    (∀ t0, x.st = .coast ∨ x.st = .overlimit ∧ s.policy k = 1 → alone → x.watch = [] → x.predict c = some t0 →
      Completes (.coastAmend n) s (fun t => t.slot k i = { c with pred := some t0 } ∧ t.commits = s.commits ∧ t.lane = s.lane))

/-! ### Configuration writes of the sills and sequencers -/

/-- Parts of R22, R110, R118, R143, in the cases that the premises name. Setting SILL.CTRL.EN loads level and driver
and clears the counters; clearing it cancels the entries that are not fixed; CLRCNT clears the counters alone;
CANCELALL removes every entry that is neither fixed nor a tracker's, with one report. Model's choices: log entry 12.
-/
def Obligations.SillWrites : Prop :=
  ∀ (q : Fin 33) (n : Fin 1036) (v : Word) (rest : List Posted) (s : State),
    let k := n.val
    let x := s.sill k
    let b (i : Nat) : Bool := bitOf v.toNat i
    let counters := [fldKey F.SILL_LATECNT_FIRED k 0, fldKey F.SILL_LATECNT_DISCARDED k 0, fldKey F.SILL_LOSTCNT_DEAD k 0,
      fldKey F.SILL_LOSTCNT_LOST k 0]
    let zeroed (t : State) : Prop := t.fld F.SILL_LATECNT_FIRED k = 0 ∧ t.fld F.SILL_LATECNT_DISCARDED k = 0 ∧
      t.fld F.SILL_LOSTCNT_DEAD k = 0 ∧ t.fld F.SILL_LOSTCNT_LOST k = 0
    let others (t : State) : Prop := ∀ i, i ≠ k → t.sill i = s.sill i
    (s.writing q.val .sill k 0 v rest → s.bit F.SILL_CTRL_EN k = false → b 0 = true → (∀ p, (s.port p).switches = []) →
      Completes (.sillEn q n v) s (fun t =>
      t.bit F.SILL_CTRL_EN k = true ∧ t.sill k = { x with
        level := b 13, driver := b 14, shown := (t.sill k).shown
        lastChange := if b 13 ≠ x.level then some (32 * (s.tickNo + 1 : Nat)) else x.lastChange } ∧ zeroed t ∧ others t ∧
      t.errq = s.errq)) ∧
    (s.writing q.val .sill k 0 v rest → s.bit F.SILL_CTRL_EN k = true → b 0 = false → x.waiting = [] →
      Completes (.sillEn q n v) s (fun t => t.bit F.SILL_CTRL_EN k = false ∧ (t.sill k).level = x.level ∧
        (t.sill k).queue = x.queue.filter (fun e => e.isFixed s.now) ∧ (t.sill k).pulse = x.pulse ∧ others t)) ∧
    (s.writing q.val .sill k 0x2C v rest → b 1 = true → b 0 = false → Completes (.clrcnt q n v) s (fun t =>
      zeroed t ∧ s.regsKeep t counters ∧ t = { s.landed q.val rest with regs := t.regs })) ∧
    (s.writing q.val .sill k 0x2C v rest → b 1 = false → b 0 = true → x.waiting = [] → x.fifo.length < 16 → x.lostSince = 0 →
      Completes (.cancelall q n v) s (fun t => (t.sill k).queue = x.queue.filter (fun e => !cancels s.now 0 true e) ∧
        (t.sill k).pulse = x.pulse ∧ others t ∧ t.regs = s.regs ∧ ∃ r : EvRec, (t.sill k).fifo = x.fifo ++ [r] ∧
        r.kind = 0x1A ∧ r.payload = 65536 * ((x.queue.filter (cancels s.now 0 true)).length % 256) + 16777216))

/-- Parts of R182, R194, R196, R199, R202, in the cases that the premises name. A sequencer's own alarm, vector and
stream registers are written without ownership; ALARM_LO arms the alarm with ALARM_HI; writing 1 to WPEND clears
vectors; START, RESUME, HALT and STEP; a stream port binds to a ring that names it. Model's choices: log entries 12
and 72. -/
def Obligations.SequencerWrites : Prop :=
  ∀ (q tgt : Fin 33) (port : Fin 4) (v : Word) (rest : List Posted) (i : UrsenInstr) (r : State) (s : State),
    let n := tgt.val
    let p := port.val
    let b (i : Nat) : Bool := bitOf v.toNat i
    let u := s.landed q.val rest
    let x := u.seq n
    let mine (off : Nat) : Prop := (s.seq q.val).post = .cfgw (cfgBase .seq n + off) v :: rest ∧
      (s.owner .seq n = q.val ∨ n = q.val) ∧ plainPost rest = true
    let ctrl : Prop := s.writing q.val .seq n 0 v rest ∧ n < 32
    let run := (u.setFld F.SEQ_CTRL_FAULTACT n (b2n (b 0))).setSeq n { x with st := .running, stepping := true, runStart := s.tickNo }
    let ring := v.toNat % 1024
    let dir := b2n (b 30)
    let named := if b 30 then s.fld F.RING_CTRL_PROD ring else s.fld F.RING_CTRL_CONS ring
    (mine 0x24 → Completes (.alarmLo q tgt v) s (fun t =>
      u.onlySeq { t with regs := s.regs } n { x with alarm := some (BitVec.ofNat 64 (v.toNat + 2 ^ 32 * s.fld F.SEQ_ALARM_HI_AHI n)) } ∧
      s.regsKeep t [fldKey F.SEQ_ALARM_LO_ALO n 0])) ∧
    (mine 0x1C → Completes (.wpend q tgt v) s (fun t => (∀ k, k < 16 →
      bitOf (t.fld F.SEQ_WPEND_PEND n) k = (bitOf (s.fld F.SEQ_WPEND_PEND n) k && !b k)) ∧ t.seqs = u.seqs ∧
      s.regsKeep t [fldKey F.SEQ_WPEND_PEND n 0])) ∧
    (ctrl → x.st = .halted ∨ x.st = .faulted → b 31 = true → Completes (.seqCtrlStart q tgt v) s (fun t =>
      (t.seq n).st = .running ∧ (t.seq n).pc = BitVec.ofNat 16 (s.fld F.SEQ_ENTRY_ADDR n / 4 * 4) ∧ (t.seq n).g = [] ∧
      (t.seq n).t = [] ∧ (t.seq n).flags = {} ∧ (t.seq n).stack = [] ∧ (t.seq n).alarm = none ∧ (t.seq n).post = x.post ∧
      (t.seq n).imem = x.imem ∧ (t.seq n).dmem = x.dmem ∧ (∀ k, k < 16 → bitOf (t.fld F.SEQ_WPEND_PEND n) k = false) ∧
      t.fld F.SEQ_SIGPEND_PEND n = 0 ∧ t.fld F.SEQ_SIGMERGE_MERGED n = 0)) ∧
    (ctrl → x.st = .halted → b 31 = false → b 30 = true → Completes (.seqCtrlResume q tgt v) s (fun t =>
      u.onlySeq { t with regs := s.regs } n { x with st := .running, runStart := s.tickNo } ∧
      s.regsKeep t [fldKey F.SEQ_CTRL_FAULTACT n 0])) ∧
    (ctrl → x.st = .running ∨ x.st = .waiting → b 31 = false → b 30 = false → b 29 = true → Completes (.seqCtrlHalt q tgt v) s
      (fun t => u.onlySeq { t with regs := s.regs } n { x with st := .halted, wait := none } ∧
        s.regsKeep t [fldKey F.SEQ_CTRL_FAULTACT n 0])) ∧
    (ctrl → x.st = .halted → b 31 = false → b 30 = false → b 29 = false → b 28 = true → run.fetched tgt = some i →
      ursenRun tgt i run = .next r → Completes (.seqCtrlStep q tgt v) s (fun t =>
        r.onlySeq t n (if i.jumps then (r.seq n).stepped else r.seq n) ∧
        ((t.seq n).pc ≠ x.pc ∨ (t.seq n).st ≠ .running →
          (t.seq n).stepping = false ∧ (t.seq n).wait = none ∧ (t.seq n).st ≠ .running ∧ (t.seq n).st ≠ .waiting))) ∧
    (mine (0x30 + 4 * p) → s.fldI F.SEQ_STREAM_EN n p = 1 → s.fldI F.SEQ_STREAM_DIR n p = 0 → b 31 = false →
      Completes (.streamBind q tgt port v) s (fun t => t.fldI F.SEQ_STREAM_EN n p = 0 ∧ t.fldI F.SEQ_STREAM_DIR n p = dir ∧
        t.fldI F.SEQ_STREAM_RING n p = ring ∧ (t.seq n).port p = [] ∧ (t.seq n).st = x.st ∧ t.errq = s.errq)) ∧
    (mine (0x30 + 4 * p) → s.fldI F.SEQ_STREAM_EN n p = 0 → b 31 = true → Completes (.streamBind q tgt port v) s (fun t =>
      t.fldI F.SEQ_STREAM_DIR n p = dir ∧ t.fldI F.SEQ_STREAM_RING n p = ring ∧ (t.seq n).port p = [] ∧
      (named = 320 + n → t.fldI F.SEQ_STREAM_EN n p = 1 ∧ t.errq = s.errq) ∧
      (named ≠ 320 + n → t.fldI F.SEQ_STREAM_EN n p = 0 ∧ s.thenRaises t 0x070B (if n = 32 then 0 else 8192 + n) [n, p, ring])))

/-- Parts of R15, R20 to R30, in the cases that the premises name. A CFGW of a sequencer lands in the register named,
with the master's code, where the address names a register and the sequencer may write it; one to a reserved address
raises 0x0708 and one to a foreign instance 0x0707, with no other effect; a change of a stream's binding that has to wait
for its buffer (R199) stays posted. SILL.DSK takes its two fields. A CFGA of the
owner arms its instance for its time, or, less than 50 ticks ahead, for the next boundary with 0x0C02; one of another
sequencer raises 0x0707. At its instant the arm of a sill makes its staged LATEPOL active. Model's choices: log
entries 11, 12, 59 and 73. -/
def Obligations.WritesAndArming : Prop :=
  ∀ (q : Fin 33) (addr v : Word) (stamp : Stamp) (b : Blk) (n off : Nat) (k : Fin 1036) (rest : List Posted) (s : State),
    let u := s.landed q.val rest
    let src := if q.val = 32 then 0 else 8192 + q.val
    let lead := s.leadTicks stamp
    ((s.seq q.val).post = .cfgw addr.toNat v :: rest → plainPost rest = true →
      (cfgDecode (addr.toNat % 2 ^ 31) = some (b, n, off) → regExists b off = true → s.mayWrite q.val b n off = true →
        s.streamWaits q.val addr.toNat v.toNat = false →
          Completes (.registerWrite q addr v) s (· = u.regWrite (320 + q.val) b n off v.toNat)) ∧
      (cfgDecode (addr.toNat % 2 ^ 31) = none ∨ cfgDecode (addr.toNat % 2 ^ 31) = some (b, n, off) ∧ regExists b off = false →
        Completes (.registerWrite q addr v) s (· = u.raise 0x0708 src [q.val, addr.toNat])) ∧
      (cfgDecode (addr.toNat % 2 ^ 31) = some (b, n, off) → regExists b off = true → s.mayWrite q.val b n off = false →
        Completes (.registerWrite q addr v) s (· = u.raise 0x0707 src [q.val, addr.toNat]))) ∧
    (s.writing q.val .sill k.val 4 v rest → addr.toNat = cfgBase .sill k.val + 4 → Completes (.registerWrite q addr v) s (fun t =>
      t.fld F.SILL_DSK_LDSK k.val = bitsOf v.toNat 8 6 ∧ t.fld F.SILL_DSK_CDSK k.val = bitsOf v.toNat 0 6 ∧
      s.regsKeep t [fldKey F.SILL_DSK_LDSK k.val 0, fldKey F.SILL_DSK_CDSK k.val 0] ∧
      t = { u with regs := t.regs, prior := t.prior })) ∧
    ((s.seq q.val).post = .cfga addr.toNat stamp :: rest → plainPost rest = true →
      cfgDecode (addr.toNat % 2 ^ 31) = some (b, n, off) →
      (s.owner b n = q.val → 50 ≤ lead → Completes (.cfgaArrival q addr stamp) s
        (· = { u with arms := storeInsert s.arms (ownerKey b n) stamp })) ∧
      (s.owner b n = q.val → lead < 50 → s.time.counting = true → Completes (.cfgaArrival q addr stamp) s
        (· = { u with arms := storeInsert s.arms (ownerKey b n) (s.now + ticks 1) }.raise 0x0C02 (blkSrc b n)
          [cfgBase b n, min (2 ^ 32 - 1) (50 - lead).toNat])) ∧
      (s.owner b n ≠ q.val → Completes (.cfgaArrival q addr stamp) s (· = u.raise 0x0707 src [q.val, addr.toNat]))) ∧
    (s.arms.find? (fun c => decide (c.1 = cfgBase .sill k.val)) = some (cfgBase .sill k.val, stamp) → s.time.counting = true →
      addr.toNat = cfgBase .sill k.val → Completes (.arm addr) s (fun t =>
        t.fld F.SILL_CTRL_LATEPOL k.val = s.stagedI F.SILL_CTRL_LATEPOL k.val 0 % 2 ∧
        s.regsKeep t [fldKey F.SILL_CTRL_LATEPOL k.val 0] ∧
        t = { s.reachStamp stamp with regs := t.regs, arms := storeErase s.arms (cfgBase .sill k.val) }))

/-! ### Ring descriptors and retention groups -/

/-- Parts of R329, R330, R334 to R340, in the cases that the premises name. EN takes a descriptor that holds and
clears its counters, or is refused with 0x0607; clearing EN ends the waits on the ring; the pointers are written while
the ring is stopped, and refused with 0x0605 while it runs and software does not own them; a length that fits is
staged while the ring runs and taken at once while it does not, and one that does not is refused with 0x0607; PWR puts
groups into ON, RETAIN and OFF, and OFF loses their contents. Model's choices: log entries 12 and 117. -/
def Obligations.RingWrites : Prop :=
  ∀ (q : Fin 33) (ring : Fin 1024) (v : Word) (rest : List Posted) (s : State),
    let r := ring.val
    let src := 12288 + r
    let b (i : Nat) : Bool := bitOf v.toNat i
    let o := bitsOf v.toNat 4 22
    let w (off : Nat) : Prop := s.writing q.val .ring r off v rest
    let p := (s.setFld F.RING_CTRL_PROD r (bitsOf v.toNat 16 10)).setFld F.RING_CTRL_CONS r (bitsOf v.toNat 0 10)
    (w 0 → s.ringEn r = false → b 31 = true →
      (p.ringBad r = none → Completes (.ringEn q ring v) s (fun t => t.ringEn r = true ∧
        t.fld F.RING_CTRL_PROD r = bitsOf v.toNat 16 10 ∧ t.fld F.RING_CTRL_CONS r = bitsOf v.toNat 0 10 ∧
        t.fld F.RING_STAT_FULLCNT r = 0 ∧ t = { s.landed q.val rest with regs := t.regs })) ∧
      (∀ f x, p.ringBad r = some (f, x) → Completes (.ringEn q ring v) s (fun t => t.ringEn r = false ∧
        s.thenRaises t 0x0607 src [r, fldItem f 0, x]))) ∧
    (w 0 → s.ringEn r = true → b 31 = false → Completes (.ringEn q ring v) s (fun t => t.ringEn r = false ∧
      (∀ x, x ∈ t.ringWaits → x.1 ≠ r) ∧
      ∀ m port x, m < 33 → (s.seq m).wait = some x → x.what = .ring port → s.fldI F.SEQ_STREAM_RING m port = r →
        s.fldI F.SEQ_STREAM_EN m port = 1 → (t.seq m).wait = some { x with gone := true })) ∧
    (s.nothingWaits = true → s.tail r = false → s.ringEn r = false → o < s.ringLen r →
      (w 0x10 → Completes (.wptr q ring v) s (fun t => t.fld F.RING_WPTR_OFF r = o ∧ t.bit F.RING_WPTR_LAP r = b 31 ∧
        s.regsKeep t [fldKey F.RING_WPTR_OFF r 0, fldKey F.RING_WPTR_LAP r 0] ∧ t = { s.landed q.val rest with regs := t.regs })) ∧
      (w 0x14 → Completes (.rptr q ring v) s (fun t => t.fld F.RING_RPTR_OFF r = o ∧ t.bit F.RING_RPTR_LAP r = b 31 ∧
        s.regsKeep t [fldKey F.RING_RPTR_OFF r 0, fldKey F.RING_RPTR_LAP r 0] ∧ t = { s.landed q.val rest with regs := t.regs }))) ∧
    (s.nothingWaits = true → s.ringEn r = true →
      (w 0x10 → s.fld F.RING_CTRL_PROD r / 64 ≠ 9 → Completes (.wptr q ring v) s
        (· = (s.landed q.val rest).raise 0x0605 src [r, 0])) ∧
      (w 0x14 → s.fld F.RING_CTRL_CONS r / 64 ≠ 9 → Completes (.rptr q ring v) s
        (· = (s.landed q.val rest).raise 0x0605 src [r, 1]))) ∧
    (w 0xC → 0 < o → v.toNat % 16 = 0 → s.fld F.RING_BASE_BASE r + o ≤ 0x300000 → Completes (.newlen q ring v) s (fun t =>
      t.fld F.RING_NEWLEN_NEWLEN r = o ∧ t.bit F.RING_NEWLEN_PENDING r = s.ringEn r ∧
      t.fld F.RING_LEN_LEN r = (if s.ringEn r then s.fld F.RING_LEN_LEN r else o) ∧
      t = { s.landed q.val rest with regs := t.regs })) ∧
    (w 0xC → o = 0 ∨ v.toNat % 16 ≠ 0 ∨ 0x300000 < s.fld F.RING_BASE_BASE r + o → Completes (.newlen q ring v) s
      (· = (s.landed q.val rest).raise 0x0607 src [r, fldItem F.RING_NEWLEN_NEWLEN 0, bitsOf v.toNat 0 26])) ∧
    (s.writing q.val .caldera 0 4 v rest → Completes (.pwr q v) s (fun t =>
      (∀ g, g < 8 → t.group g = match bitsOf v.toNat (2 * g) 2, s.group g with
        | 1, 0 => 1
        | 1, x => x
        | 2, _ => 2
        | _, 2 => 3
        | _, 1 => 0
        | _, x => x) ∧
      (∀ a, storeGet 0 t.caldera a = if bitsOf v.toNat (2 * groupOf a) 2 = 2 then 0 else storeGet 0 s.caldera a) ∧
      t.flaws = s.flaws.filter (fun x => x.flash || decide (bitsOf v.toNat (2 * groupOf x.addr) 2 ≠ 2)) ∧
      t = { s.landed q.val rest with regs := t.regs, caldera := t.caldera, flaws := t.flaws }))

/-! ### Zones -/

/-- Parts of R246, R256, R259 to R261, R269, in the cases that the premises name. An SRST puts a zone into RESET from
the next tick boundary on, for 8 ticks, its planes, pocket RAM and staged sets kept and its attention tokens cleared;
HOLD keeps it there. While a zone's gateway works, its personality posts entries, sends signals, uses rings that name
it and is refused by others with 0x0403, reads the counter of the last 4 ticks, and takes attention tokens; a write of
1 to ATNPEND takes them as well. Of two writes of one pocket-RAM word in a stage cycle port 0's stands, and a read
gives the new data. Model's choices: log entries 11, 12, 18 and 112. -/
def Obligations.ZoneRuns : Prop :=
  ∀ (q tgt : Fin 33) (zone : Fin 64) (addr v : Word) (e : LaunchItem) (bit line : Fin 32) (ring : Fin 1024) (item : BitVec 128)
    (rest : List Posted) (s : State),
    let k := zone.val
    let r := ring.val
    let ag := 448 + k
    let z := s.zone k
    let calm := s.fld F.ZONE_STATUS_STATE k ≠ 3 ∧ s.surveyed k = false
    let home := if z.valid then 1 else 0
    let kept (t : State) : Prop := (t.zone k).a = z.a ∧ (t.zone k).b = z.b ∧ (t.zone k).pocket = z.pocket ∧ t.swaps = s.swaps
    let cleared (t : State) : Prop := (∀ n, n < 32 → bitOf (t.fld F.ZONE_ATNPEND_PEND k) n = false) ∧
        t.fld F.ZONE_GWREFUSED_COUNT k = 0
    let on := s.gateway k = true
    ((s.seq q.val).post = .srst 2 addr.toNat :: rest → plainPost rest = true → addr.toNat = cfgBase .zone k → calm →
      Completes (.zoneReset q addr) s (fun t =>
      (t.zone k).resetAt = some (s.tickNo + 1) ∧ t.fld F.ZONE_STATUS_STATE k = 2 ∧ cleared t ∧ kept t)) ∧
    (∀ a, z.resetAt = some a → calm → s.bit F.ZONE_CTRL_HOLD k = false → s.bit F.ZONE_SIGSTAT_RELOADING k = false →
      Completes (.zoneResetEnd zone) s (fun t => (t.zone k).resetAt = none ∧ a + 8 ≤ t.tickNo ∧
        t.fld F.ZONE_STATUS_STATE k = home ∧ kept t)) ∧
    (s.writing q.val .zone k 0 v rest → calm → s.bit F.ZONE_CTRL_HOLD k = false → bitOf v.toNat 31 = true →
      Completes (.zoneHold q zone v) s (fun t => t.bit F.ZONE_CTRL_HOLD k = true ∧ t.fld F.ZONE_STATUS_STATE k = 2 ∧ cleared t ∧
        kept t)) ∧
    (s.writing q.val .zone k 0 v rest → calm → s.bit F.ZONE_CTRL_HOLD k = true → bitOf v.toNat 31 = false → z.resetAt = none →
      s.bit F.ZONE_SIGSTAT_RELOADING k = false → Completes (.zoneHold q zone v) s (fun t =>
        t.bit F.ZONE_CTRL_HOLD k = false ∧ t.fld F.ZONE_STATUS_STATE k = home ∧ kept t)) ∧
    (s.writing q.val .zone k 0x1C v rest → Completes (.atnpend q zone v) s (fun t =>
      (∀ n, n < 32 → bitOf (t.fld F.ZONE_ATNPEND_PEND k) n = (bitOf (s.fld F.ZONE_ATNPEND_PEND k) n && !bitOf v.toNat n)) ∧
      s.regsKeep t [fldKey F.ZONE_ATNPEND_PEND k 0] ∧ t.zones = s.zones)) ∧
    (on → Completes (.entryPost zone e) s (· = { s with gwEntries := s.gwEntries ++ [(k, e)] })) ∧
    (on → s.vectorsOn tgt.val 3 bit.val = [] → bitOf (s.fld F.SEQ_SIGPEND_PEND tgt.val) bit.val = false →
      Completes (.gatewaySignal zone tgt bit) s (fun t => ∃ u : State, bitOf (u.fld F.SEQ_SIGPEND_PEND tgt.val) bit.val = true ∧
        (∀ i, i < 32 → i ≠ bit.val → bitOf (u.fld F.SEQ_SIGPEND_PEND tgt.val) i = bitOf (s.fld F.SEQ_SIGPEND_PEND tgt.val) i) ∧
        s.regsKeep u [fldKey F.SEQ_SIGPEND_PEND tgt.val 0] ∧ u = { s with regs := u.regs } ∧
        t = (if tgt.val = 32 ∧ 16 ≤ bit.val ∧ s.ready 0 = true then u.postNote (0x20 + bit.val) else u))) ∧
    (on → s.fld F.RING_CTRL_PROD r = ag → s.ringEn r = true → 0 < s.ringRoom r → s.writeOpen r = true →
      Completes (.ringPush zone ring item) s (· = { s with ringWaits := s.ringWaits.filter (· ≠ (r, ag)) }.ringPut ag r item)) ∧
    (on → s.fld F.RING_CTRL_CONS r = ag → s.ringEn r = true → 0 < s.ringFill r → s.readOpen r 0 = true →
      s.sound (s.ringAddr r (s.fld F.RING_RPTR_OFF r)) 16 = true → ∀ x u, s.ringTake ag r = (x, u) →
      Completes (.ringPop zone ring) s (· = { u with out := u.out ++ [.item k x] })) ∧
    (on → s.ready 4 = true → s.reported 0x0403 (10240 + k) = false →
      let refused (t : State) : Prop := ∃ w : State, s.thenRaises w 0x0403 (10240 + k) [k, r] ∧
        w.thenRaises t (if s.ringEn r then 0x0604 else 0x0602) (12288 + r) [r, ag] ∧
        t.fld F.ZONE_GWREFUSED_COUNT k = min (s.fld F.ZONE_GWREFUSED_COUNT k + 1) 65535 ∧ t.caldera = s.caldera
      (s.fld F.RING_CTRL_PROD r ≠ ag → Completes (.ringPush zone ring item) s refused) ∧
      (s.fld F.RING_CTRL_CONS r ≠ ag → Completes (.ringPop zone ring) s refused)) ∧
    (on → s.time.counting = true → Completes (.timeTap zone) s (fun t => ∃ n, n ≤ 4 ∧
      t = { s with free := s.free + 1, out := s.out ++ [.tap k (s.now - ticks n)] })) ∧
    (on → bitOf (s.fld F.ZONE_ATNPEND_PEND k) line.val = true → s.levelHolds line.val = false →
      Completes (.handlerTakesToken zone line) s (fun t => bitOf (t.fld F.ZONE_ATNPEND_PEND k) line.val = false ∧
        (∀ n, n < 32 → n ≠ line.val → bitOf (t.fld F.ZONE_ATNPEND_PEND k) n = bitOf (s.fld F.ZONE_ATNPEND_PEND k) n) ∧
        .zone k ∉ (t.atn line.val).pending ∧ s.regsKeep t [fldKey F.ZONE_ATNPEND_PEND k 0] ∧ t.zones = s.zones)) ∧
    (∀ (ram : Store Nat) (i word d d' : Nat),
      (ramCycle ram i [(0, ⟨word, some d⟩), (0, ⟨word, some d'⟩)]).2 = [d % 2 ^ 36, d % 2 ^ 36] ∧
      (ramCycle ram i [(0, ⟨word, none⟩), (0, ⟨word, some d'⟩)]).2 = [d' % 2 ^ 36, d' % 2 ^ 36])

/-- Parts of R237, R282 to R286, R299 to R304, R307, in the cases that the premises name. A ZLOAD is refused with 0x050F, fails
its header, or, while no zone is surveyed, begins and takes its zones' shadows; a tile frame that passes enters the shadow plane,
one that fails its read-back twice ends the load with 0x0411; ABORT ends a load with 0x0510; a set is staged, refused with 0x0410,
or, where a zone of it is another's, discarded with 0x0707; at its instant the swap of a zone that is alone in its set exchanges
the zone's planes, or raises 0x0414 where its shadow is not valid; UNSTAGE takes a set back 64 ticks or more before its instant;
SWTIME_LO snapshots. Model's choices: log entries 11, 12 and 43. -/
def Obligations.LoadsAndSwaps : Prop :=
  ∀ (q : Fin 33) (zone : Fin 64) (addr v : Word) (m : BitVec 64) (stamp : Stamp) (x : Bool) (rest : List Posted) (s : State),
    let k := zone.val
    let a := addr.toNat
    let u := s.landed q.val rest
    let w := u.touch 352 a 256
    let img := w.calderaImage a
    let zones (n : Nat) (P : Nat → Prop) : Prop := ∀ i, i < 64 → bitOf n i = true → P i
    (s.pieceOpen a 256 = true → (s.seq q.val).post = .zload a :: rest → plainPost rest = true →
      (∀ c, u.loadRefused a = some c → Completes (.loadStart q addr) s (· = u.raise 0x050F 19456 [q.val, c])) ∧
      (∀ f, u.loadRefused a = none → imgHead img (w.zloadUse q.val a) a = some f → Completes (.loadStart q addr) s (fun t =>
        t.bit F.SUP_LOADSTAT_BUSY 0 = false ∧ t.bit F.SUP_LOADSTAT_LASTOK 0 = false ∧ t.load = s.load ∧ t.zones = s.zones ∧
        t.fld F.SUP_LOADSTAT_FRAMES 0 = 0 ∧ t.fld F.SUP_LOADSTAT_FAILSTEP 0 = f.step % 16 ∧ w.thenRaises t f.code 19456 f.detail)) ∧
      (u.loadRefused a = none → imgHead img (w.zloadUse q.val a) a = none → (∀ i, s.surveyed i = false) →
        Completes (.loadStart q addr) s (fun t => t.bit F.SUP_LOADSTAT_BUSY 0 = true ∧ t.fld F.SUP_LOADSTAT_FRAMES 0 = 0 ∧
          t.load = some {
            addr := a, mask := imgMask img, frame := 0, sweep := decide (imgNum img 24 4 % 2 = 1), q := q.val
            seen := imgBytes img 0 256, waiting := !s.wearOpen } ∧
          (s.wearOpen = true → zones (imgMask img) (fun i => t.bit F.ZONE_STATUS_SHDVALID i = false ∧
            t.fld F.ZONE_PID_SHD_PID i = 0 ∧ t.bit F.ZONE_STATUS_LOADING i = true ∧ (t.plane i true).tag = none ∧
            (t.plane i true).data = (s.plane i true).data ∧ t.activeB i = s.activeB i))))) ∧
    (∀ l, s.load = some l → l.waiting = false → 2 ≤ l.frame % 276 → l.frame % 276 < 257 → l.frame < imgFrames l.mask →
      let w := s.touch 352 (l.addr + frameAt l.frame) 528
      let img := w.loadImage l
      let i := (maskZones l.mask).getD (l.frame / 276) 0
      let j := l.frame % 276 - 2
      imgFrame img (0x3000000 - l.addr) l.mask l.frame = none →
      Completes (.routingFrameWrite true) s (fun t =>
        t.load = some { l with frame := l.frame + 1, seen := l.seen ++ imgBytes img (frameAt l.frame) 528 } ∧
        t.fld F.SUP_LOADSTAT_FRAMES 0 = (s.fld F.SUP_LOADSTAT_FRAMES 0 + 1) % 32768 ∧
        (t.plane i true).data = writeBytes (s.plane i true).data (512 * j) (framePayload img l.frame) ∧
        t.plane i false = s.plane i false ∧ (∀ n, n ≠ i → t.zone n = s.zone n)) ∧
      Completes (.routingFrameWrite false) s (fun t => t.load = none ∧ t.bit F.SUP_LOADSTAT_BUSY 0 = false ∧
        t.bit F.SUP_LOADSTAT_LASTOK 0 = false ∧ t.fld F.SUP_LOADSTAT_FAILSTEP 0 = 10 ∧ t.zones = s.zones ∧
        zones l.mask (fun n => t.bit F.ZONE_STATUS_LOADING n = false) ∧
        w.thenRaises t 0x0411 (10240 + i) [i, j, b2n (!s.activeB i)])) ∧
    (∀ l, s.load = some l → s.writing q.val .sup 0 0x808 v rest → bitOf v.toNat 0 = true → Completes (.abort q v) s (fun t =>
      t.load = none ∧ t.bit F.SUP_LOADSTAT_BUSY 0 = false ∧ t.bit F.SUP_LOADSTAT_LASTOK 0 = false ∧
      t.fld F.SUP_LOADSTAT_FAILSTEP 0 = 9 ∧ zones l.mask (fun n => t.bit F.ZONE_STATUS_LOADING n = false) ∧
      t.zones = s.zones ∧ s.thenRaises t 0x0510 19456 [2, s.fld F.SUP_LOADSTAT_FRAMES 0])) ∧
    ((s.seq q.val).post = .zswap m.toNat stamp x :: rest → plainPost rest = true →
      let owned := (maskZones m.toNat).all (fun i => s.owns q.val .zone i) = true
      let v := u.floodSwap m.toNat stamp x
      (∀ i, (maskZones m.toNat).find? (fun i => !s.owns q.val .zone i) = some i → Completes (.zswapArrival q m stamp x) s
        (· = u.raise 0x0707 (seqSrc q.val) [q.val, cfgBase .zone i])) ∧
      (∀ i c, owned → s.swapRefused m.toNat stamp (!x || s.ready 6) = some (i, c) → Completes (.zswapArrival q m stamp x) s
        (· = v.raise 0x0410 (10240 + i) [i, c])) ∧
      (owned → s.swapRefused m.toNat stamp (!x || s.ready 6) = none → m ≠ 0 → Completes (.zswapArrival q m stamp x) s (fun t =>
        t.swaps = s.swaps ++ [{ time := stamp, mask := m.toNat, owner := q.val }] ∧
        zones m.toNat (fun i => t.bit F.ZONE_STATUS_STAGED i = true) ∧ t = { v with regs := t.regs, swaps := t.swaps }))) ∧
    (∀ w, s.swaps.find? (fun w => w.has k) = some w →
      let due := s.time.counting = true ∨ inFuture w.time s.now = false ∨ w.time = s.now
      (due → w.mask = 2 ^ k → s.bit F.ZONE_STATUS_SHDVALID k = true → s.bit F.ZONE_CTRL_HOLD k = false → (s.zone k).resetAt = none →
        s.bit F.ZONE_SIGSTAT_RELOADING k = false → s.fld F.ZONE_STATUS_STATE k ≠ 3 → Completes (.swap zone) s (fun t =>
          t.activeB k = !s.activeB k ∧ (t.zone k).a = (s.zone k).a ∧ (t.zone k).b = (s.zone k).b ∧ (t.zone k).valid = true ∧
          (t.zone k).pocket = (s.zone k).pocket ∧ t.fld F.ZONE_PID_ACT_PID k = (s.plane k true).pid ∧
          t.bit F.ZONE_STATUS_SHDVALID k = (s.zone k).valid ∧ t.bit F.ZONE_STATUS_STAGED k = false ∧
          t.fld F.ZONE_STATUS_STATE k = 1 ∧ t.swaps = s.swaps.filter (· ≠ w) ∧ (∀ n, n ≠ k → t.zone n = s.zone n))) ∧
      (due → w.mask = 2 ^ k → s.bit F.ZONE_STATUS_SHDVALID k = false → Completes (.swap zone) s (fun t => t.zones = s.zones ∧
        t.swaps = s.swaps.filter (· ≠ w) ∧ t.bit F.ZONE_STATUS_STAGED k = false ∧ s.thenRaises t 0x0414 (10240 + k) [k])) ∧
      (s.writing q.val .zone k 0x30 v rest → bitOf v.toNat 0 = true → bitOf v.toNat 1 = false →
        64 ≤ s.ticksTo w.time → Completes (.unstage q zone v) s (fun t => t.swaps = s.swaps.filter (· ≠ w) ∧
          zones w.mask (fun i => t.bit F.ZONE_STATUS_STAGED i = false) ∧ t = { u with regs := t.regs, swaps := t.swaps }))) ∧
    Completes (.swtimeLo q zone) s (s.onlyZone · k { s.zone k with snap := (s.swapTime k).toNat / 2 ^ 32 })

/-- Parts of R287 to R293, R309 to R318, in the cases that the premises name. Power-up loading boots the primary image
where it passes, and ends in the configuration-error state where it fails and no fallback is named; a rebuild leaves
its zone valid, or empty where the read-back failed (log entry 114), and the last one sets READY bit 10; the audit;
signatures that agree, and that differ in the shadow or the active plane by SIGPOL; reloads asked for, refused and
ended. A survey empties the shadow; it borrows the zone or gives up with 0x0411; at its test's end PHASE reads 3 and
the restoration follows (log entry 113); a survey yields while it writes. Model's choices: log entries 43, 44, 48, 113
and 114. -/
def Obligations.ZoneImagesAndSurveys : Prop :=
  ∀ (q : Fin 33) (zone : Fin 64) (v : Word) (fault : Option Word) (rest : List Posted) (s : State),
    let k := zone.val
    let src := 10240 + k
    let block := s.fld F.ZONE_RELOAD_BLOCK k
    let act := s.plane k false
    let shd := s.plane k true
    let sig (p : Plane) : List Nat := [p.signature % 2 ^ 32, p.signature / 2 ^ 32 % 2 ^ 32]
    let sk := s.fld F.SUP_SURVSTAT_ZONE 0
    let phase := s.fld F.SUP_SURVSTAT_PHASE 0
    let causes := s.survey.causes
    let steady := s.bit F.ZONE_CTRL_HOLD sk = false ∧ (s.zone sk).resetAt = none ∧ s.bit F.ZONE_SIGSTAT_RELOADING sk = false
    (s.loadDue = true → s.ready 0 = true → s.wearOpen = true →
      (s.selector = none → Completes .powerUpLoad s (· = { s with loadDue := false })) ∧
      (∀ x, s.selector = some x → s.bootCheck x.primary x.pdigest = none → Completes .powerUpLoad s (fun t =>
        t.loadDue = false ∧ t.bit F.SUP_BOOT_CFGERR 0 = false ∧ t.cfgerr = false ∧ t.audit = some x.primary ∧
        t.bit F.SUP_BOOT_FALLBACK 0 = false ∧ t.fld F.SUP_BOOT_FAILSTEP 0 = 0 ∧ t.ready 14 = (s.ready 14 || !s.recovery) ∧
        t.fld F.SUP_PREADY_MAP 0 = 2 ^ 32 - 1)) ∧
      (∀ x f, s.selector = some x → s.bootCheck x.primary x.pdigest = some f → bitOf x.flags 0 = false →
        Completes .powerUpLoad s (fun t => t.loadDue = false ∧ t.bit F.SUP_BOOT_CFGERR 0 = true ∧ t.cfgerr = true ∧
          t.fld F.SUP_BOOT_FAILSTEP 0 = f.step % 16 ∧ t.audit = s.audit ∧ ∀ n, n < 64 → (t.zone n).valid = false))) ∧
    (k ∈ s.rebuilds → Completes (.zoneRebuild zone) s (fun t =>
      t.rebuilds = s.rebuilds.filter (fun j => decide (j ≠ k)) ∧ (s.rebuilds = [k] → s.recovery = false → t.ready 10 = true) ∧
      ((t.zone k).valid = true ∧ t.rebuilt = s.rebuilt ++ [k] ∧ t.bit F.SUP_BOOT_REBUILT 0 = true ∨
        (t.zone k).valid = false ∧ t.rebuilt = s.rebuilt))) ∧
    (∀ b, s.audit = some b → s.ready 10 = true → s.arraySound = true → let img := s.storeImage b
      Completes .auditDone s (fun t => t.bit F.SUP_BOOT_AUDITDONE 0 = true ∧ t.audit = none ∧ t.zones = s.zones ∧
        (imgDigest img (imgMask img) = imgBytes img 32 32 → t.errq = s.errq) ∧
        (imgDigest img (imgMask img) ≠ imgBytes img 32 32 → t.bit F.SUP_BOOT_AUDITFAIL 0 = true ∧
          s.thenRaises t 0x050E 19456 [b]))) ∧
    (∀ shadow, s.sweeps k shadow = true → (s.plane k shadow).signature = (s.plane k shadow).golden →
      Completes (.signatureCheck zone shadow []) s (fun t => t.errq = s.errq ∧ ∀ n, t.zone n = s.zone n)) ∧
    (s.sweeps k true = true → shd.signature ≠ shd.golden → Completes (.signatureCheck zone true []) s (fun t =>
      t.bit F.ZONE_STATUS_SHDVALID k = false ∧ t.fld F.ZONE_PID_SHD_PID k = 0 ∧ s.thenRaises t 0x0421 src (k :: sig shd))) ∧
    (s.sweeps k false = true → act.signature ≠ act.golden → s.fld F.ZONE_CTRL_SIGPOL k = 0 →
      Completes (.signatureCheck zone false []) s (fun t => (∀ n, t.zone n = s.zone n) ∧ s.thenRaises t 0x0420 src ([k, 0] ++
        sig act) ∧
        t.fld F.ZONE_SIGSTAT_MISMATCH k = min (s.fld F.ZONE_SIGSTAT_MISMATCH k + 1) 65535)) ∧
    (s.sweeps k false = true → act.signature ≠ act.golden → s.fld F.ZONE_CTRL_SIGPOL k = 1 → s.bit F.ZONE_RELOAD_VALID k = true →
      s.surveyed k = false → Completes (.signatureCheck zone false []) s (fun t => t.bit F.ZONE_SIGSTAT_RELOADING k = true ∧
        t.fld F.ZONE_STATUS_STATE k = 2)) ∧
    (s.sweeps k false = true → act.signature ≠ act.golden → s.fld F.ZONE_CTRL_SIGPOL k = 2 →
      Completes (.signatureCheck zone false []) s (fun t => t.bit F.ZONE_CTRL_HOLD k = true ∧
        (s.surveyed k = false → t.fld F.ZONE_STATUS_STATE k = 2) ∧
        (s.surveyed k = true → t.survey.causes = s.survey.causes ++ [.hold k]))) ∧
    (s.writing q.val .zone k 0x30 v rest → bitOf v.toNat 0 = false → bitOf v.toNat 1 = true →
      (s.bit F.ZONE_RELOAD_VALID k = true → s.surveyed k = true → Completes (.reload q zone v) s
        (· = { s.landed q.val rest with survey := { s.survey with causes := s.survey.causes ++ [.reload k] } })) ∧
      (s.bit F.ZONE_RELOAD_VALID k = true → s.surveyed k = false → s.fld F.ZONE_STATUS_STATE k ≠ 3 →
        Completes (.reload q zone v) s (fun t =>
        t.bit F.ZONE_SIGSTAT_RELOADING k = true ∧ t.fld F.ZONE_STATUS_STATE k = 2 ∧ t.errq = s.errq)) ∧
      (s.bit F.ZONE_RELOAD_VALID k = false → Completes (.reload q zone v) s
        (· = (s.landed q.val rest).raise 0x0422 src [k, block, 0]))) ∧
    (s.bit F.ZONE_SIGSTAT_RELOADING k = true → s.arraySound = true →
      (∀ c, s.reloadFails k = some c → Completes (.maskReload zone) s (fun t => t.bit F.ZONE_SIGSTAT_RELOADING k = false ∧
        s.zoneKept t k ∧ (∀ n, n ≠ k → t.zone n = s.zone n) ∧ s.thenRaises t 0x0422 src [k, block, c])) ∧
      (let img := s.storeImage block
        let p := act.putMasks img (zoneFrame (imgMask img) k)
        s.reloadFails k = none → p.signature = p.golden → Completes (.maskReload zone) s (fun t => t.plane k false = p ∧
          t.bit F.ZONE_SIGSTAT_RELOADING k = false ∧ t.plane k true = shd ∧ t.errq = s.errq ∧ ∀ n, n ≠ k → t.zone n = s.zone n))) ∧
    (s.bit F.SUP_SURVCTL_EN 0 = true → phase = 0 → s.ready 0 = true → s.nextSurvey k = true → s.wearOpen = true →
      Completes (.surveyWriting zone) s (fun t =>
      t.fld F.SUP_SURVSTAT_PHASE 0 = 1 ∧ t.fld F.SUP_SURVSTAT_ZONE 0 = k ∧ t.plane k true = {} ∧ t.plane k false = act ∧
      t.survey = { s.survey with causes := [], last := some k })) ∧
    (sk < 64 → phase = 1 → causes = [] → s.borrowable sk = true → Completes .surveyBorrow s (fun t =>
      (t.fld F.SUP_SURVSTAT_PHASE 0 = 0 ∧ t.fld F.ZONE_STATUS_STATE sk = s.fld F.ZONE_STATUS_STATE sk ∧
        t.activeB sk = s.activeB sk ∧ ∃ frame : Nat, frame < 256 ∧
          s.thenRaises t 0x0411 (10240 + sk) [sk, frame, b2n (!s.activeB sk)]) ∨
      (t.fld F.SUP_SURVSTAT_PHASE 0 = 2 ∧ t.fld F.ZONE_STATUS_STATE sk = 3 ∧ t.activeB sk = (!s.activeB sk) ∧
        (t.plane sk false).tag = some (0, 0) ∧ t.plane sk true = s.plane sk false ∧ t.tickNo = s.tickNo + 1 ∧
        t.survey = { s.survey with home := s.fld F.ZONE_STATUS_STATE sk }))) ∧
    (sk < 64 → phase = 2 → causes = [] → s.survey.ended = none → Completes (.surveyRestore fault) s (fun t =>
      t.fld F.SUP_SURVSTAT_PHASE 0 = 3 ∧ t.survey = { s.survey with ended := some (s.tickNo, fault.map (·.toNat)) } ∧
      t = { s with regs := t.regs, survey := t.survey })) ∧
    (∀ a found, s.survey.ended = some (a, found) → sk < 64 → causes = [] → s.survey.home < 3 →
      s.bit F.ZONE_SWCTL_SURVRAM sk = false → steady → Completes (.surveyRestore fault) s (fun t =>
        t.fld F.SUP_SURVSTAT_PHASE 0 = 0 ∧ t.activeB sk = (!s.activeB sk) ∧
        t.fld F.ZONE_STATUS_STATE sk = (if (s.zone sk).valid then 1 else 0) ∧ (t.zone sk).a = (s.zone sk).a ∧
        (t.zone sk).b = (s.zone sk).b ∧ (t.zone sk).pocket = (s.zone sk).pocket ∧ t.survey.ended = none ∧
        storeGet 0 t.survey.done sk = t.tickNo + 1 ∧ (found = none → t.errq = s.errq) ∧
        (∀ r, found = some r → t.bit F.ZONE_SIGSTAT_SURVFAIL sk = true ∧ s.thenRaises t 0x0440 (10240 + sk) [sk, r]))) ∧
    (sk < 64 → phase = 1 → causes = [.borrow] → s.survey.ended = none → Completes .surveyYield s (fun t =>
      t.fld F.SUP_SURVSTAT_PHASE 0 = 0 ∧ t.survey.causes = [] ∧ t.zones = s.zones ∧ t.errq = s.errq ∧
      storeGet 0 t.survey.yielded sk = s.tickNo + 1 ∧
      t.fld F.SUP_SURVSTAT_YIELDS 0 = min (s.fld F.SUP_SURVSTAT_YIELDS 0 + 1) 65535))

/-! ### Links and the constellation -/

/-- Parts of R305, R415 to R420, R434, R435, R442, in the cases that the premises name. Training ends in a link that
is up or has failed, and is retried 100 ms later; a link that is no child's goes down and trains anew; LINK.CTRL
enables, disables and clears the counters; a NAK has the frames behind it replayed; a NAK or a forwarded frame that
fails its check, or comes out of order, is asked for again; frames go on by their route, to the parent or to the one
other tree link; unknown types are counted; entries, signals and swap sets from other devices are accepted, or refused
with a note; a note raises its record. Model's choices: log entries 40, 60 and 119. -/
def Obligations.LinksAndRemoteItems : Prop :=
  ∀ (q tgt : Fin 33) (l : Fin 8) (cause : Fin 3) (lock rate10 : Bool) (lost zc tag : Half) (v : Word) (lseq type reason : Byte)
    (flags : Fin 8) (dst src : Fin 512) (hops : Fin 64) (payload : List Byte) (e : LaunchItem) (bit : Fin 32) (mask : BitVec 64)
    (stamp : Stamp) (what : Fin 3) (rest : List Posted) (s : State),
    let i := l.val
    let d := src.val
    let x := s.link i
    let lsrc := 14336 + i
    let rate := s.fld F.LINK_CTRL_RATE i
    let u := s.landed q.val rest
    let b (n : Nat) : Bool := bitOf v.toNat n
    let c := e.target.toNat
    let entry : QEntry := {
      time := e.time, action := e.action.toNat, width := e.width.toNat, tag := e.tag.toNat, src := 256 + i, dev := d,
        remote := true }
    -- `f` finds a frame that is not to be taken; `cut` leaves by links that it was being forwarded by
    let bad (f : Instr) (cut : List Out) : Prop :=
      let asked := Out.frame i 0x0D (frameBytes 0x0D 4 0 s.srcField 0 x.txSeq (leBytes 1 x.rxSeq ++ leBytes 3 0))
      (x.coming = .badCrc → Completes f s (fun t => t.out = s.out ++ cut ++ [asked] ∧ (t.link i).rxSeq = x.rxSeq ∧
        t = { s with regs := t.regs, links := t.links, out := t.out } ∧
        t.fld F.LINK_ERR_CRCERR i = min (s.fld F.LINK_ERR_CRCERR i + 1) 65535)) ∧
      (x.coming = .gap → Completes f s (fun t => t.out = s.out ++ [asked] ∧ (t.link i).rxSeq = x.rxSeq ∧
        t = { s with links := t.links, out := t.out })) ∧
      (x.coming = .poisoned → Completes f s (fun t => t.out = s.out ++ cut ∧ (t.link i).rxSeq = (x.rxSeq + 1) % 256 ∧
        t = { s with links := t.links, out := t.out }))
    let known := 2 ≤ type.toNat ∧ type.toNat ≤ 14
    let onward := s.onward i flags.val dst.val hops.val
    -- the frame counts as received on the link that leads to the device
    let got := s.frameFrom d
    let note (t : State) (kind why zc tag : Nat) : State :=
      t.sendTo d 0x0B (leBytes 1 kind ++ leBytes 1 why ++ leBytes 2 zc ++ leBytes 2 tag ++ leBytes 2 0)
    let refused (w : State) (kind why zc tag : Nat) (t : State) : Prop :=
      t = note (w.raise 0x0A0B 15360 [d, kind + 65536 * zc, why]) kind why zc tag
    let framed (o : Nat) (t : State) : Prop :=
      t.out = s.out ++ [.frame o type.toNat (frameBytes type.toNat flags.val dst.val d (hops.val + 1) (s.link o).txSeq payload)] ∧
        t = { s with links := t.links, out := t.out }
    (s.fld F.LINK_STATUS_STATE i = 1 → lock = true → s.vserLost = false → s.vserhLost = false → s.bit F.CONST_CTRL_RECEN 0 = false →
      Completes (.trainingEnd l lock rate10) s (fun t => ∃ w : State, ∃ bytes, w.fld F.LINK_STATUS_STATE i = 2 ∧
        w.bit F.LINK_STATUS_RATE10 i = (if rate = 1 then false else if rate = 2 then true else rate10) ∧
        (∃ more, w.out = s.out ++ .frame i 2 bytes :: more) ∧ w.errq = s.errq ∧ t = w.judgePhases)) ∧
    (s.fld F.LINK_STATUS_STATE i = 1 → lock = false ∨ s.vserLost = true ∨ s.vserhLost = true →
      Completes (.trainingEnd l lock rate10) s (fun t => ∃ w : State, s.thenRaises w 0x0A02 lsrc [i, if rate = 1 then 1 else 2] ∧
        w.fld F.LINK_STATUS_STATE i = 3 ∧ w.link i = { x with failedAt := s.tickNo } ∧ t = w.judgePhases)) ∧
    (s.fld F.LINK_STATUS_STATE i = 3 → s.bit F.LINK_CTRL_EN i = true → Completes (.trainingRetry l) s (fun t =>
      t.fld F.LINK_STATUS_STATE i = 1 ∧ x.failedAt + 125000000 ≤ t.tickNo ∧ s.regsKeep t [fldKey F.LINK_STATUS_STATE i 0] ∧
      t = { s with regs := t.regs, tickNo := t.tickNo, time := t.time })) ∧
    (s.linkUp i = true → s.fld F.LINK_STATUS_ROLE i ≠ 2 → s.bit F.CONST_CTRL_RECEN 0 = false →
      Completes (.linkDown l cause lost) s (fun t => ∃ w : State, w.fld F.LINK_STATUS_STATE i = 1 ∧ (w.link i).ident = none ∧
        (w.link i).claim = none ∧ (w.link i).replay = [] ∧ w.fld F.LINK_STATUS_ROLE i = 0 ∧
        w.fld F.LINK_DOWNCNT_COUNT i = min (s.fld F.LINK_DOWNCNT_COUNT i + 1) 65535 ∧
        (s.const.parent ≠ some i → w.const.parent = s.const.parent ∧
          w.errq = (s.raise 0x0A01 lsrc [i, cause.val + 1, x.replay.length]).errq) ∧
        (s.const.parent = some i → w.const.parent = none ∧ (s.inPhase 5 = true → w.bit F.CONST_STATUS_AHOLD 0 = true)) ∧
        t = w.judgePhases.elect)) ∧
    (s.writing q.val .link i 0 v rest → s.bit F.LINK_CTRL_EN i = false → b 31 = true → b 0 = false →
      Completes (.linkEn q l v) s (fun t =>
      ∃ w : State, w.fld F.LINK_STATUS_STATE i = 1 ∧ w.bit F.LINK_CTRL_EN i = true ∧ w = { u with regs := w.regs } ∧
        t = w.judgePhases.elect)) ∧
    (s.writing q.val .link i 0 v rest → s.bit F.LINK_CTRL_EN i = true → b 31 = false → s.linkUp i = false →
      bitsOf v.toNat 24 2 = rate →
      Completes (.linkEn q l v) s (fun t => ∃ w : State, w.fld F.LINK_STATUS_STATE i = 0 ∧ w.bit F.LINK_CTRL_EN i = false ∧
        w = { u with regs := w.regs } ∧ t = w.judgePhases.elect)) ∧
    (s.writing q.val .link i 0 v rest → s.bit F.LINK_CTRL_EN i = b 31 → b 0 = true → bitsOf v.toNat 24 2 = rate →
      Completes (.linkClrcnt q l v) s (fun t => ∃ w : State, w.fld F.LINK_ERR_CRCERR i = 0 ∧ w.fld F.LINK_ERR_REPLAY i = 0 ∧
        w.fld F.LINK_DOWNCNT_COUNT i = 0 ∧ w.fld F.LINK_STATUS_STATE i = s.fld F.LINK_STATUS_STATE i ∧
        w = { u with regs := w.regs } ∧ t = w.judgePhases.elect)) ∧
    (let again := x.replay.dropWhile (fun f => decide (f.1 ≠ lseq.toNat));
      let failed := match x.naked with
        | some (n, m) => if n = lseq.toNat then m else 0
        | none => 0
      s.linkUp i = true → x.coming = .good →
      (again = [] → Completes (.nak l lseq) s (· = s.frameIn i)) ∧
      (again ≠ [] → 8 ≤ failed → Completes (.nak l lseq) s (· = (s.frameIn i).linkDown i 3)) ∧
      (again ≠ [] → failed < 8 → s.reported 0x0A03 lsrc = false → Completes (.nak l lseq) s (fun t =>
        t.fld F.LINK_ERR_REPLAY i = min (s.fld F.LINK_ERR_REPLAY i + 1) 65535 ∧
        t.link i = { x with rxSeq := (x.rxSeq + 1) % 256, naked := some (lseq.toNat, failed + 1) } ∧
        (∀ j, j ≠ i → t.link j = s.link j) ∧ s.thenRaises t 0x0A03 lsrc [i] ∧ ∀ f ∈ again, Out.frame i f.2.1 f.2.2 ∈ t.out))) ∧
    (s.linkUp i = true → bad (.nak l lseq) []) ∧
    (s.linkUp i = true → payload.length ≤ 256 → i ∉ onward → bad (.frameForward l type flags dst src hops payload)
      (if known then onward.map (fun o => Out.poison o type.toNat) else [])) ∧
    (256 < payload.length → exec (.frameForward l type flags dst src hops payload) s = .fault (.malformed "FRAME_FORWARD")) ∧
    (payload.length ≤ 256 → x.coming = .good → s.linkUp i = true → known →
      (bitOf flags.val 2 = true ∨ hops.val = 63 → Completes (.frameForward l type flags dst src hops payload) s (· = s.frameIn i)) ∧
      (∀ o, bitOf flags.val 2 = false → hops.val < 63 → bitOf flags.val 0 = false → s.linkUp o = true →
        (if bitOf flags.val 1 then s.const.parent else s.linkTo dst.val) = some o →
        Completes (.frameForward l type flags dst src hops payload) s (framed o)) ∧
      (∀ o, bitOf flags.val 2 = false → hops.val < 63 → bitOf flags.val 0 = true →
        (s.roleLinks 1 ++ s.roleLinks 2).filter (fun o => decide (o ≠ i)) = [o] →
        Completes (.frameForward l type flags dst src hops payload) s (framed o))) ∧
    (let unknown (t : State) : Prop := t.fld F.LINK_ERR_CRCERR i = min (s.fld F.LINK_ERR_CRCERR i + 1) 65535 ∧
        (t.link i).rxSeq = (x.rxSeq + 1) % 256 ∧ s.thenRaises t 0x0A0E lsrc [i, type.toNat];
      ¬ known → s.reported 0x0A0E lsrc = false → Completes (.unknownFrameType l type) s unknown ∧
        (payload.length ≤ 256 → x.coming = .good → s.linkUp i = true →
          Completes (.frameForward l type flags dst src hops payload) s unknown)) ∧
    (known → Completes (.unknownFrameType l type) s (· = s)) ∧
    (s.inPhase 5 = false → Completes (.remoteEntry l src e) s (refused (s.frameIn i) 0 1 c e.tag.toNat) ∧
      Completes (.remoteSignal src tgt bit) s (refused got 1 1 tgt.val 0)) ∧
    (∀ n, s.inPhase 5 = true → sillOf e.target = some n →
      (s.remoteOpen n = false → Completes (.remoteEntry l src e) s (refused (s.frameIn i) 0 2 c e.tag.toNat)) ∧
      (s.remoteOpen n = true → s.refuseAction n entry = none → s.sillRuns n = true → s.sillFill n < 16 →
        (s.sill n).held = [] → 960 ≤ stampDiff e.time s.now →
          Completes (.remoteEntry l src e) s ((s.frameIn i).onlySill · n { s.sill n with
          queue := insertEntry s.now entry (s.sill n).queue }))) ∧
    (s.inPhase 5 = true →
      (tgt.val < 32 → bitOf (s.fld F.CONST_XSIG_MASK 0) tgt.val = false →
        Completes (.remoteSignal src tgt bit) s (refused got 1 3 tgt.val 0)) ∧
      (tgt.val = 32 ∨ bitOf (s.fld F.CONST_XSIG_MASK 0) tgt.val = true → s.vectorsOn tgt.val 3 bit.val = [] →
        bitOf (s.fld F.SEQ_SIGPEND_PEND tgt.val) bit.val = false → Completes (.remoteSignal src tgt bit) s (fun t => ∃ w : State,
          bitOf (w.fld F.SEQ_SIGPEND_PEND tgt.val) bit.val = true ∧ s.regsKeep w [fldKey F.SEQ_SIGPEND_PEND tgt.val 0] ∧
          w = { got with regs := w.regs } ∧
          t = (if tgt.val = 32 ∧ 16 ≤ bit.val ∧ s.ready 0 = true then w.postNote (0x20 + bit.val) else w)))) ∧
    ((∀ k, k < 64 → bitOf mask.toNat k = true → s.bit F.ZONE_SWCTL_XSWAP k = true) → mask ≠ 0 →
      s.swapRefused mask.toNat stamp (s.inPhase 5) = none → Completes (.remoteSwapSet src mask stamp) s (fun t =>
        t.swaps = s.swaps ++ [{ time := stamp, mask := mask.toNat, owner := s.devNum + 64 }] ∧
        (∀ k, k < 64 → bitOf mask.toNat k = true → t.bit F.ZONE_STATUS_STAGED k = true) ∧
        t = { got with regs := t.regs, swaps := t.swaps })) ∧
    (∀ k, k < 64 → mask.toNat = 2 ^ k → s.bit F.ZONE_SWCTL_XSWAP k = false → s.swapRefused mask.toNat stamp (s.inPhase 5) = none →
      Completes (.remoteSwapSet src mask stamp) s (· = note (got.raise 0x0412 (10240 + k) [d, k, 5]) 2 5 k 0)) ∧
    (what.val = 2 → Completes (.refusalNote src what reason zc tag) s
      (· = got.raise 0x0413 (10240 + zc.toNat % 64) [d, zc.toNat, reason.toNat])) ∧
    (what.val < 2 → Completes (.refusalNote src what reason zc tag) s
      (· = got.raise 0x0A0C 15360 [d, what.val + 65536 * zc.toNat, tag.toNat, reason.toNat]))

/-- Parts of R422 to R443, in the cases that the premises name. A neighbour's IDENT and CLAIM are kept and judged; the
election ends 200 µs after the claim; a child's REPORT takes the place of its last one; an ASSIGN that begins with the
root and has fewer than 16 entries is the whole tree, one of 16 adds to it, and the entry of this device gives it its
number; TSYNC sends, keeps, measures and, from the parent at P5, slews within its bounds; the alignment window ends in
P5, the alignment's hold ends with a record, STATE brings P6, its loss ends barrier waits; a device without a parent
takes a new one or claims the root; barriers count arrivals and release; BAR, CTRL, HOPQ and XSTR writes. The cases
with a report still missing and with no record to the root asked for are the ones stated. Lists longer than a frame
holds are malformed. Model's choices: log entries 36, 37, 38, 42, 61 and 115. -/
def Obligations.TreeForms : Prop :=
  ∀ (q : Fin 33) (l : Fin 8) (uid : BitVec 64) (prio phase seq rxseq flags gen diam depth : Byte) (pref : BitVec 16) (peer : Fin 8)
    (est : Bool) (hops : Fin 64) (plink : Byte) (reps : List (BitVec 64 × BitVec 64 × BitVec 16 × Byte))
    (devs : List (BitVec 64 × Fin 512 × Fin 512)) (stamp txprev rxlast : Stamp) (count : BitVec 16) (k : Fin 16) (n : Fin 8) (v : Word)
    (rest : List Posted) (s : State),
    let i := l.val
    let x := s.link i
    let u := s.landed q.val rest
    let c := s.const
    let b (n : Nat) : Bool := bitOf v.toNat n
    let silent := s.bit F.CONST_CTRL_RECEN 0 = false
    let nextIn := (x.rxSeq + 1) % 256
    let down := s.frameDown
    let unreported := ∃ j, j ∈ s.roleLinks 2 ∧ j ∉ c.reported
    (s.linkUp i = true → Completes (.ident l uid prio pref peer phase) s (fun t => ∃ w : State,
      w.link i = { x with rxSeq := nextIn, ident := some ⟨uid.toNat, prio.toNat, pref.toNat, peer.val, phase.toNat⟩ } ∧
      w.bit F.LINK_STATUS_PEEROK i = true ∧ w.fld F.LINK_STATUS_PEERPRIO i = prio.toNat ∧
      w.fld F.LINK_PEER_LO_LO i + 2 ^ 32 * w.fld F.LINK_PEER_HI_HI i = uid.toNat ∧ w = { s with regs := w.regs, links := w.links } ∧
      t = (if x.ident.any (fun y => decide (2 ≤ y.phase % 128)) = true ∧ phase.toNat % 128 < 2 then
        w.neighbourLeft i (fun s => s.mapLink i (fun y => { y with claim := none })) else w).judgePhases.elect)) ∧
    (s.linkUp i = true → Completes (.claim l uid prio est hops plink) s (fun t => ∃ w : State,
      w.link i = { x with rxSeq := nextIn, claim := some ⟨uid.toNat, prio.toNat, est, hops.val, plink.toNat⟩ } ∧
        w = { s with links := w.links } ∧
      t = w.syncRoles.elect)) ∧
    (∀ a, c.claim = some a → s.forming = true → s.inPhase 2 = true → silent → unreported →
      (∀ j, j < 8 → s.bit F.LINK_CTRL_EN j = true → s.fld F.LINK_STATUS_STATE j ≠ 1) → (a.uid ≠ s.uid → c.parent.isSome) →
      Completes .rootElected s (fun t => t.bit F.CONST_STATUS_ROOT 0 = decide (a.uid = s.uid) ∧ t.inPhase 3 = true ∧
        c.claimAt + 250000 ≤ t.tickNo)) ∧
    (10 < reps.length → exec (.report l reps) s = .fault (.malformed "REPORT")) ∧
    (reps.length ≤ 10 → s.linkUp i = true →
      let sofar := (if reps.head?.map (fun r => r.1.toNat) = x.ident.map (fun p => p.uid) then []
        else c.repComing.filter (fun r => decide (r.via = i))) ++ reps.map (repOf i)
      let others := c.repComing.filter (fun r => decide (r.via ≠ i))
      (s.childOn i = false → Completes (.report l reps) s (· = s.frameIn i)) ∧
      (s.childOn i = true → reps.length < 10 → Completes (.report l reps) s (fun t => ∃ w : State,
        w.const.reports = c.reports.filter (fun r => decide (r.via ≠ i)) ++ sofar ∧ w.const.repComing = others ∧
        i ∈ w.const.reported ∧ w = { s.frameIn i with const := w.const } ∧ t = w.report)) ∧
      (s.childOn i = true → reps.length = 10 → Completes (.report l reps) s
        (· = { s.frameIn i with const := { c with repComing := others ++ sofar } }))) ∧
    (16 < devs.length → exec (.assign devs) s = .fault (.malformed "ASSIGN")) ∧
    (devs.length ≤ 16 → s.inPhase 3 = true → c.parent.isSome → silent →
      let new : List TreeDev := devs.map (fun e => { uid := e.1.toNat, num := e.2.1.val, parent := e.2.2.val })
      let coming := (if new.head?.any (fun d => decide (d.num = d.parent)) then [] else c.coming) ++ new
      let whole := devs.length < 16 ∧ coming.head?.any (fun d => decide (d.num = d.parent)) = true
      Completes (.assign devs) s (fun t =>
        (whole → t.const.tree = coming ∧ t.const.coming = []) ∧ (¬ whole → t.const.tree = c.tree ∧ t.const.coming = coming) ∧
        ∀ d, new.find? (fun d => decide (d.uid = s.uid)) = some d → t.fld F.CONST_ID_NUM 0 = d.num ∧
          t.bit F.CONST_ID_VALID 0 = true)) ∧
    (s.linkUp i = true → Completes (.tsyncSend l stamp) s (fun t => (t.link i).tsSeq = (x.tsSeq + 1) % 256 ∧
      (t.link i).sent = ((x.tsSeq, stamp) :: x.sent).take 8 ∧ (∃ bytes, t.out = s.out ++ [.frame i 6 bytes]) ∧
      t = { s with links := t.links, out := t.out })) ∧
    (s.linkUp i = true → x.rx = none → c.parent ≠ some i → Completes (.tsync l seq rxseq flags txprev rxlast stamp) s
      (s.onlyLink · i { x with
        rxSeq := nextIn, rx := some ⟨seq.toNat, stamp, rxseq.toNat, rxlast, true⟩, peerP5 := bitOf flags.toNat 0, peerHold := bitOf flags.toNat 1 })) ∧
    (∀ r t1, s.linkUp i = true → x.rx = some r → (r.seq + 1) % 256 = seq.toNat → r.first = true →
      x.sent.find? (fun p => decide (p.1 = r.rxseq)) = some (r.rxseq, t1) →
      let theta := (stampDiff r.rxlast t1 + stampDiff txprev r.time - signedOf 16 (s.fld F.LINK_ASYM_STEPS i)) / 2
      let delay := (stampDiff r.time t1 - stampDiff txprev r.rxlast) / 2
      let ds := (delay :: x.delays).take 64
      ds.foldl (· + ·) 0 / (ds.length : Int) ≤ 480 →
      (c.parent ≠ some i → Completes (.tsync l seq rxseq flags txprev rxlast stamp) s (fun t => (t.link i).delays = ds ∧
        t.fld F.LINK_OFFSET_STEPS i = sat32 theta ∧ t.bit F.LINK_STATUS_LONG i = false ∧ t.time = s.time ∧ t.errq = s.errq)) ∧
      (c.parent = some i → s.inPhase 5 = true → s.bit F.CONST_STATUS_ROOT 0 = false → bitOf flags.toNat 1 = false →
        -s.alignBound ≤ theta → theta ≤ s.alignBound → theta.natAbs ≤ 40 * s.fld F.CONST_ALIGN_STEPLIM 0 →
        Completes (.tsync l seq rxseq flags txprev rxlast stamp) s (fun t =>
          t.time = { s.time with slewRem := theta, slewAcc := 0, holdRec := t.time.holdRec } ∧
          t.const.badSince = none ∧ t.const.okSince.isSome ∧ t.errq = s.errq))) ∧
    (∀ t0, c.windowAt = some t0 → s.inPhase 5 = false → s.bit F.CONST_STATUS_ROOT 0 = false → silent → unreported →
      Completes (.alignmentWindowEnd stamp) s (fun t =>
      t.constOwn = true ∧ t.time.localRec = false ∧ t.inPhase 5 = true ∧ t.const.windowAt = none ∧ t0 + 10000000 ≤ t.tickNo)) ∧
    (∀ t0 p, c.okSince = some t0 → c.parent = some p → s.bit F.CONST_STATUS_AHOLD 0 = true → (s.link p).peerHold = false → silent →
      Completes .aholdClear s (fun t => t.bit F.CONST_STATUS_AHOLD 0 = false ∧ t.time.holdRec = s.time.holdover ∧
        max t0 c.holdAt + 1250000 ≤ t.tickNo ∧
        s.thenRaises t 0x0A09 15360 [t.tickNo - c.holdAt, s.fld F.LINK_OFFSET_STEPS p])) ∧
    (s.inPhase 4 = false → Completes (.state phase count diam depth) s (· = down)) ∧
    (s.inPhase 4 = true → bitOf phase.toNat 4 = true →
      (s.bit F.CONST_STATUS_ROOT 0 = true → Completes (.state phase count diam depth) s (· = s)) ∧
      (s.bit F.CONST_STATUS_ROOT 0 = false → silent → Completes (.state phase count diam depth) s (fun t =>
        t.fld F.CONST_TOPO_COUNT 0 = count.toNat % 1024 ∧ t.fld F.CONST_TOPO_DIAM 0 = diam.toNat % 64 ∧
        (s.inPhase 6 = false → s.inPhase 5 = true → bitOf phase.toNat 6 = true →
          t.inPhase 6 = true ∧ t.const.p6count = count.toNat) ∧
        (s.inPhase 6 = false → s.inPhase 5 = false ∨ bitOf phase.toNat 6 = false → t.inPhase 6 = false)))) ∧
    (s.inPhase 4 = true → bitOf phase.toNat 4 = false → c.head.src ≠ s.devNum →
      Completes (.state phase count diam depth) s (fun t =>
      t.const = { c with tree := c.tree.filter (fun d => decide (d.num ≠ c.head.src)) } ∧
      t.fld F.CONST_TOPO_COUNT 0 = t.const.tree.length % 1024 ∧ t.fld F.CONST_STATUS_PHASE 0 = s.fld F.CONST_STATUS_PHASE 0)) ∧
    (∀ t0, c.belowAt = some t0 → s.inPhase 6 = true → silent → Completes .p6Loss s (fun t => ∃ r : State, r.inPhase 6 = false ∧
      r.const.belowAt = none ∧ t0 + 250000 ≤ r.tickNo ∧
      (∀ m w j d g, m < 33 → (s.seq m).wait = some w → w.what = .barrier j d g → (r.seq m).wait = some { w with
        what := .barrier j d true }) ∧
      s.thenRaises r 0x0A0D 15360 [s.fld F.CONST_TOPO_COUNT 0, s.fld F.CONST_EXPECT_COUNT 0] ∧
      t = if s.bit F.CONST_STATUS_ROOT 0 then r.judgeReady else r)) ∧
    (c.parent = none → s.bit F.CONST_STATUS_ROOT 0 = false → s.forming = true → s.inPhase 4 = true →
      (s.newParents = [] → Completes .reattach s
        (· = ({ s with const := { c with est := true } }.take { s.ownClaim with est := true } none).elect)) ∧
      (∀ h m j, s.newParents = [(h, m, j)] → silent → Completes .reattach s (fun t => t.const.parent = some j ∧
        t.const.claim = some { c.claim.getD s.ownClaim with hops := h + 1, parent := j }))) ∧
    (let counts := s.inTree = true ∧ s.fld F.LINK_STATUS_ROLE i = 2 ∧
        (gen.toNat = s.barGen k.val ∨ (i, gen.toNat) ∉ (c.bar k.val).last);
      (counts → Completes (.barrierDone l k gen) s (fun t => ∃ w : State, i ∈ (w.const.bar k.val).kids ∧
        (i, gen.toNat) ∈ (w.const.bar k.val).last ∧ (w.const.bar k.val).arrived = (c.bar k.val).arrived ∧
        w = { s.frameIn i with const := w.const } ∧ t = w.barCheck k.val)) ∧
      (¬ counts → Completes (.barrierDone l k gen) s (· = s.frameIn i))) ∧
    (s.inTree = true → s.bit F.CONST_STATUS_ROOT 0 = false → Completes (.barrierRelease k gen) s (fun t =>
      t.barGen k.val = (gen.toNat + 1) % 256 ∧ ((gen.toNat + 1) % 256 ≠ s.barGen k.val →
        ∀ m w d g, m < 33 → (s.seq m).wait = some w → w.what = .barrier k.val d g →
          (t.seq m).wait = some { w with what := .barrier k.val true g }))) ∧
    (s.writing q.val .const 0 (0x100 + 8 * k.val) v rest → b 31 = true → Completes (.barEn q k v) s (fun t => ∃ w : State,
      w.barEn k.val = true ∧ w.seqs = u.seqs ∧ w.const = s.const ∧ t = w.barCheck k.val)) ∧
    (s.writing q.val .const 0 (0x100 + 8 * k.val) v rest → b 31 = false → s.inTree = false →
      bitOf (s.fieldWord .const 0 (0x100 + 8 * k.val) false) 31 = true → Completes (.barEn q k v) s (fun t =>
        t.barEn k.val = false ∧
        ∀ m w d g, m < 33 → (s.seq m).wait = some w → w.what = .barrier k.val d g →
          (t.seq m).wait = some { w with what := .barrier k.val d true })) ∧
    (s.writing q.val .const 0 0 v rest → s.bit F.CONST_CTRL_EN 0 = false → b 31 = true →
      bitOf (s.fieldWord .const 0 0 false) 31 = false → Completes (.constEn q v) s (fun t => ∃ w : State,
        w.bit F.CONST_CTRL_EN 0 = true ∧ w = { u with regs := w.regs } ∧ t = w.judgePhases.elect)) ∧
    (s.writing q.val .const 0 0 v rest → b 31 = false → bitOf (s.fieldWord .const 0 0 false) 31 = true →
      Completes (.constEn q v) s (fun t => t.bit F.CONST_CTRL_EN 0 = false ∧ t.const.claim = none ∧ t.const.parent = none ∧
        t.const.tree = [] ∧ t.fld F.CONST_ID_VALID 0 = 0 ∧ t.constOwn = false ∧ t.now = s.now)) ∧
    (s.writing q.val .const 0 0x28 v rest → let d := v.toNat % 512
      Completes (.hopq q v) s (fun t => t.fld F.CONST_HOPQ_DEV 0 = d ∧
        t.bit F.CONST_HOPQ_VALID 0 = (treeHops c.tree s.devNum d).isSome ∧
        t.fld F.CONST_HOPQ_HOPS 0 = (treeHops c.tree s.devNum d).getD 0 % 64 ∧ t.fld F.CONST_HOPQ_LINK 0 = (s.linkTo d).getD 0 % 8 ∧
        t = { u with regs := t.regs })) ∧
    (s.writing q.val .const 0 (0x200 + 8 * n.val) v rest → bitOf (s.fieldWord .const 0 (0x200 + 8 * n.val) false) 31 = false →
      b 31 = true → Completes (.xstrEn q n v) s (fun t => t.fldI F.CONST_XSTR_EN 0 n.val = 1 ∧ ∃ cr, cr ≤ 64 ∧
        t.fldI F.CONST_XSTRS_CREDITS 0 n.val = cr ∧ storeGet 0 t.const.credits n.val = cr ∧ t.free = s.free + 1))

/-! ### Signal engines -/

/-- Parts of R348 to R351, in the cases that the premises name. Products add to, subtract from or replace the masked
accumulators at accumulator width; an overflow latches GOV; an operation of the other mode leaves a free value (the
model's choice, log entry 52). R351 to R353, R370, R373: the ALU's results and flags, moves between registers, and the
operations on accumulators. -/
def Obligations.EngineProductsAndArithmetic : Prop :=
  (∀ (e : Fin 16) (sign : Fin 4) (sc g : Fin 64) (w : Bool) (mask : Fin 16) (lanes : Fin 4) (s : State),
    s.seCanRun e.val = true → codeOk sc.val = true → groupOk g.val = true →
    let n := e.val
    let x := s.engine n
    let a (k : Nat) : Int := storeGet 0 x.cur.a k
    let sat := s.bit F.SE_MODE_SATACC n
    let other (k : Nat) : Word := x.reg ((groupRegs g.val).getD k 0)
    let quad (k : Nat) : Int := factor (sSigned sign.val) 16 (x.reg sc.val) * factor (gSigned sign.val) 16 (other k)
    let pair (k : Nat) : Int := factor (sSigned sign.val) (if w then 16 else 32) (x.reg sc.val) *
      factor (gSigned sign.val) (if w then 32 else 16) (other k)
    let res (kind : Nat) (isPair : Bool) (i : Nat) (p : Int) : Int × Bool :=
      if kind = 0 then accSum sat isPair (a i) p else if kind = 1 then accSum sat isPair (a i) (-p) else (p, false)
    -- lane `k` of `m` acts on accumulator `i k`
    let acts (c : Instr) (kind count m : Nat) (i : Nat → Nat) (isPair : Bool) (p : Nat → Int) : Prop := Completes c s (fun t =>
      (t.engine n).pc = x.pc + 1 ∧ (t.engine n).q = x.q ∧ (t.engine n).dmem = x.dmem ∧
      (∀ k, k < count → storeGet 0 (t.engine n).cur.a (i k) = if bitOf m k then (res kind isPair (i k) (p k)).1 else a (i k)) ∧
      ((∃ k, k < count ∧ bitOf m k = true ∧ (res kind isPair (i k) (p k)).2 = true) → t.bit F.SE_GOV_GOV n = true) ∧
      ((∀ k, k < count → bitOf m k = true → (res kind isPair (i k) (p k)).2 = false) → t = { s with engines := t.engines }))
    let free (c : Instr) (count m : Nat) (i : Nat → Nat) : Prop := Completes c s (fun t => (t.engine n).pc = x.pc + 1 ∧
      (∀ j, (∀ k, k < count → bitOf m k = true → i k ≠ j) → storeGet 0 (t.engine n).cur.a j = a j) ∧
      t = { s with engines := t.engines, free := t.free })
    (x.cur.sr.pair = false →
      acts (.mac e sign sc g mask .nop .nop .nop) 0 4 mask.val id false quad ∧
      acts (.msu e sign sc g mask .nop .nop .nop) 1 4 mask.val id false quad ∧
      acts (.mpy e sign sc g mask .nop .nop .nop) 2 4 mask.val id false quad ∧
      free (.macp e sign sc g w lanes .nop .nop .nop) 2 lanes.val (2 * ·) ∧
      free (.msup e sign sc g w lanes .nop .nop .nop) 2 lanes.val (2 * ·) ∧
      free (.mpyp e sign sc g w lanes .nop .nop .nop) 2 lanes.val (2 * ·)) ∧
    (x.cur.sr.pair = true →
      acts (.macp e sign sc g w lanes .nop .nop .nop) 0 2 lanes.val (2 * ·) true pair ∧
      acts (.msup e sign sc g w lanes .nop .nop .nop) 1 2 lanes.val (2 * ·) true pair ∧
      acts (.mpyp e sign sc g w lanes .nop .nop .nop) 2 2 lanes.val (2 * ·) true pair ∧
      free (.mac e sign sc g mask .nop .nop .nop) 2 mask.val (2 * ·) ∧
      free (.msu e sign sc g mask .nop .nop .nop) 2 mask.val (2 * ·) ∧
      free (.mpy e sign sc g mask .nop .nop .nop) 2 mask.val (2 * ·))) ∧
  (∀ (e : Fin 16) (rd ra rb : Fin 64) (imm : BitVec 12) (d u : Fin 4) (mask : Fin 16) (h : Bool) (s : State),
    s.seCanRun e.val = true → codeOk rd.val = true → codeOk ra.val = true → codeOk rb.val = true →
    let n := e.val
    let x := s.engine n
    let a := x.reg ra.val
    let b := x.reg rb.val
    let acc (k : Nat) : Int := storeGet 0 x.cur.a k
    let outer (k : Nat) : Int := storeGet 0 x.cur.out k
    let sat := s.bit F.SE_MODE_SATACC n
    let pair := x.cur.sr.pair
    let width := if pair then 56 else 40
    let gives (c : Instr) (y : Engine) : Prop := Completes c s (s.onlyEngine · n y)
    let alu (c : Instr) (r : Word × Flags) : Prop := gives c ((x.wrote rd.val r.1).withSr (fun f => f.withFlags r.2))
    let f := x.cur.sr.flags
    let limited (c : Instr) (r : Int × Bool) : Prop :=
      (r.2 = false → gives c (x.wroteAcc d.val r.1)) ∧
      (r.2 = true → Completes c s (fun t => storeGet 0 (t.engine n).cur.a d.val = r.1 ∧ t.bit F.SE_GOV_GOV n = true ∧
        (t.engine n).pc = x.pc + 1))
    let am := scaled (s.seScale n) (s.bit F.SE_MODE_SAT n) pair h (outer u.val)
    let lim : Int := 2 ^ (if pair then 47 else 31)
    alu (.seAdd e rd ra rb .nop .nop .nop) (aluAdd f a b) ∧
    alu (.seSub e rd ra rb .nop .nop .nop) (aluSub f a b) ∧
    alu (.seAnd e rd ra rb .nop .nop .nop) (aluAnd f a b) ∧
    alu (.seOr e rd ra rb .nop .nop .nop) (aluOr f a b) ∧
    alu (.seXor e rd ra rb .nop .nop .nop) (aluXor f a b) ∧
    alu (.seShl e rd ra rb .nop .nop .nop) (aluShl f a b) ∧
    alu (.seShr e rd ra rb .nop .nop .nop) (aluShr f a b) ∧
    alu (.seSar e rd ra rb .nop .nop .nop) (aluSar f a b) ∧
    gives (.seCmp e ra rb .nop .nop .nop) (x.next.withSr (fun f => f.withFlags (subFlags a b))) ∧
    gives (.seMov e rd ra .nop .nop .nop) (x.wrote rd.val a) ∧
    gives (.seMovi e rd imm .nop .nop .nop) (x.wrote rd.val (imm.signExtend 32)) ∧
    gives (.nop e .nop .nop .nop) x.next ∧
    Completes (.aclr e mask .nop .nop .nop) s (fun t => (t.engine n).pc = x.pc + 1 ∧ t = { s with engines := t.engines } ∧
      (pair = false → ∀ k, k < 4 → storeGet 0 (t.engine n).cur.a k = if bitOf mask.val k then 0 else acc k) ∧
      (pair = true → storeGet 0 (t.engine n).cur.a 0 = (if mask.val % 4 = 0 then acc 0 else 0) ∧
        storeGet 0 (t.engine n).cur.a 2 = if mask.val / 4 = 0 then acc 2 else 0)) ∧
    (x.accOk d.val = true → x.accOk u.val = true →
      limited (.aadd e d u .nop .nop .nop) (accSum sat pair (acc d.val) (acc u.val)) ∧
      limited (.aneg e d .nop .nop .nop) (if acc d.val = -2 ^ (width - 1) then
        (if sat then 2 ^ (width - 1) - 1 else acc d.val, true) else (-acc d.val, false)) ∧
      gives (.ald e d ra .nop .nop .nop) (x.wroteAcc d.val (a.toInt * if pair then 65536 else 1)) ∧
      gives (.exp e rd u .nop .nop .nop) (x.wrote rd.val (BitVec.ofInt 32 (expOf pair (outer u.val)))) ∧
      limited (.norm e d ra .nop .nop .nop) (normOf sat pair (acc d.val) a.toInt) ∧
      (-lim ≤ acc d.val → acc d.val < lim → gives (.sata e d .nop .nop .nop) (x.wroteAcc d.val (acc d.val))) ∧
      (lim ≤ acc d.val → gives (.sata e d .nop .nop .nop) ((x.wroteAcc d.val (lim - 1)).withSr (fun f => { f with sat := true }))) ∧
      (acc d.val < -lim → gives (.sata e d .nop .nop .nop) ((x.wroteAcc d.val (-lim)).withSr (fun f => { f with sat := true }))) ∧
      gives (.amov e rd u h .nop .nop .nop) (if am.2 then (x.wrote rd.val (BitVec.ofInt 32 am.1)).withSr (fun f => { f with sat := true })
        else x.wrote rd.val (BitVec.ofInt 32 am.1))))

/-- Parts of R360, R361, R366 to R369, R374 to R378, R380, in the cases that the premises name. Branches, calls,
loops, returns, IDLE, HALT and MODE; control registers; SACK and SPUT; signals; reserved codes and full stacks fault
before any slot acts. Model's choices: log entries 50 and 87. -/
def Obligations.EngineControl : Prop :=
  ∀ (e : Fin 16) (cond : Fin 15) (target : Fin 4096) (rot port : Fin 4) (c : Fin 512) (len reg ctl : Fin 64) (count : Fin 1024)
    (tgt : Fin 33) (bit : Fin 32) (p : Bool) (wd : BitVec 64) (s : State),
    s.seCanRun e.val = true →
    let n := e.val
    let x := s.engine n
    let y := x.next
    let r := x.reg reg.val
    let gives (c : Instr) (z : Engine) : Prop := Completes c s (s.onlyEngine · n z)
    let state (c : Instr) (k : Nat) : Prop := Completes c s (fun t => t.seState n = k ∧ (t.engine n) = y ∧
      s.regsKeep t [fldKey F.SE_STATUS_STATE n 0] ∧ t = { s with regs := t.regs, engines := t.engines })
    let loops (m : Nat) (t : Engine) : Prop := t = { y with loops := [{
      first := x.pc + 1, last := x.pc + (len.val + 1), count := m, depth := x.calls.length, level := x.level
      rot := if rot.val = 3 then 4 else rot.val }] }
    let avail := s.seAvail n port.val
    let ring := s.seRing n port.val
    let rdp := s.fld F.RING_RPTR_OFF ring
    (condHolds x.cur.sr.flags cond.val = true → gives (.seBr e cond target .nop .nop .nop) { x with pc := target.val }) ∧
    (condHolds x.cur.sr.flags cond.val = false → gives (.seBr e cond target .nop .nop .nop) y) ∧
    (x.calls.length < 8 → gives (.seCall e target .nop .nop .nop) { x with pc := target.val, calls := (x.pc + 1) :: x.calls }) ∧
    (8 ≤ x.calls.length → Completes (.seCall e target .nop .nop .nop) s (s.seFaulted n 0x0803 [n, x.pc])) ∧
    (∀ b rest, x.calls = b :: rest → gives (.seRet e .nop .nop .nop) { x with pc := b, calls := rest }) ∧
    (x.calls = [] → Completes (.seRet e .nop .nop .nop) s (s.seFaulted n 0x0803 [n, x.pc])) ∧
    (x.level = 1 → gives (.rti e .nop .nop .nop) { x with pc := x.ra1, level := 0, onShadow := false }) ∧
    (x.level = 2 → gives (.rti e .nop .nop .nop) { x.withSr (fun _ => x.sr2) with pc := x.ra2, level := x.below }) ∧
    (x.level = 0 → Completes (.rti e .nop .nop .nop) s (s.seFaulted n 0x0801 [n, x.pc])) ∧
    Completes (.loop e rot (.imm c) len .nop .nop .nop) s (fun t => loops (if c.val = 0 then 512 else c.val) (t.engine n) ∧
      t = { s with engines := t.engines }) ∧
    (codeOk reg.val = true → r ≠ 0 → Completes (.loop e rot (.reg reg) len .nop .nop .nop) s (fun t => loops r.toNat (t.engine n) ∧
      t = { s with engines := t.engines })) ∧
    (codeOk reg.val = true → r = 0 → gives (.loop e rot (.reg reg) len .nop .nop .nop) { x with pc := x.pc + (len.val + 1) + 1 }) ∧
    (x.level < 2 → state (.idle e .nop .nop .nop) 2) ∧
    state (.seHalt e .nop .nop .nop) 0 ∧
    gives (.mode e p .nop .nop .nop) (y.mapCur (fun t => { t with a := [], out := [], sr := { t.sr with pair := p } })) ∧
    (codeOk reg.val = true →
      (ctl.val < 27 → ctl.val ≠ 19 → gives (.movc e true reg ctl .nop .nop .nop) (x.wrote reg.val (s.ctlRead n x ctl.val).1)) ∧
      (ctl.val = 19 → Completes (.movc e true reg ctl .nop .nop .nop) s (fun t => ∃ v, s.onlyEngine { t with free := s.free } n
        (x.wrote reg.val v))) ∧
      (ctl.val < 8 → gives (.movc e false reg ctl .nop .nop .nop) { y with b := storeSet 0 x.b ctl.val (r.setWidth 16) }) ∧
      (8 ≤ ctl.val → ctl.val < 16 → gives (.movc e false reg ctl .nop .nop .nop)
        { y with l := storeSet 0 x.l (ctl.val - 8) (r.setWidth 16) }) ∧
      (ctl.val = 16 → gives (.movc e false reg ctl .nop .nop .nop) { y with pmode := r }) ∧
      (ctl.val = 18 → gives (.movc e false reg ctl .nop .nop .nop) (y.mapCur (fun t => { t with rrb := r.toNat % 32 }))) ∧
      (ctl.val = 24 → Completes (.movc e false reg ctl .nop .nop .nop) s (fun t => t.bit F.SE_GOV_GOV n = false ∧ t.engine n = y ∧
        s.regsKeep t [fldKey F.SE_GOV_GOV n 0])) ∧
      (ctl.val = 25 → Completes (.movc e false reg ctl .nop .nop .nop) s (fun t => t.fld F.SE_MODE_SCALE n = r.toNat % 32 ∧
        t.fld F.SE_MODE_SAT n = bitsOf r.toNat 6 1 ∧ t.fld F.SE_MODE_SATACC n = bitsOf r.toNat 7 1 ∧ t.engine n = y))) ∧
    (s.sePortIs n port.val 0 = true → 1 ≤ avail → s.nothingWaits = true → s.tail ring = false → rdp + 1 < s.ringLen ring →
      s.fld F.RING_WM_ITEMS ring = 0 → Completes (.sack e port 1 .nop .nop .nop) s (fun t =>
        t.seAvail n port.val = (avail - 1) % 8192 ∧ t.fld F.RING_RPTR_OFF ring = (rdp + 1) % 2 ^ 22 ∧ t.engine n = y ∧
        t = { s with regs := t.regs, engines := t.engines })) ∧
    (s.sePortIs n port.val 0 = false → gives (.sack e port count .nop .nop .nop) y) ∧
    (s.sePortIs n port.val 1 = true → count.val ≤ avail → Completes (.sput e port count .nop .nop .nop) s (fun t =>
      t.seAvail n port.val = (avail - count.val) % 8192 ∧ (storeGet {} (t.engine n).ports port.val).items =
        (storeGet {} x.ports port.val).items ++ s.windowItems n port.val count.val ∧ (t.engine n).pc = x.pc + 1 ∧
          t.errq = s.errq)) ∧
    (s.sePortIs n port.val 1 = true → avail < count.val → Completes (.sput e port count .nop .nop .nop) s (fun t =>
      t.seAvail n port.val = 0 ∧ (storeGet {} (t.engine n).ports port.val).items =
        (storeGet {} x.ports port.val).items ++ s.windowItems n port.val avail ∧
          t.errq = (s.raise 0x0807 (9216 + n) [n, port.val, count.val]).errq)) ∧
    (s.vectorsOn tgt.val 3 bit.val = [] → bitOf (s.fld F.SEQ_SIGPEND_PEND tgt.val) bit.val = false →
      Completes (.esig e tgt bit .nop .nop .nop) s (fun t => ∃ w : State, bitOf (w.fld F.SEQ_SIGPEND_PEND tgt.val) bit.val = true ∧
        s.regsKeep w [fldKey F.SEQ_SIGPEND_PEND tgt.val 0] ∧ w.engine n = y ∧
        t = if tgt.val = 32 ∧ 16 ≤ bit.val ∧ s.ready 0 = true then w.postNote (0x20 + bit.val) else w)) ∧
    (seDecode wd.toNat = none → Completes (.illegalInstructionWord e wd) s (s.seFaulted n 0x0801 [n, x.pc]))

/-- Parts of R354 to R359, R363, R364, R370 to R372, in the cases that the premises name. Loads and stores of half
words, words and groups at a pointer, with its update; misaligned accesses and two stores in one word fault; the
address slot updates a pointer or rotates Q. Model's choices: log entry 50. -/
def Obligations.EngineMoves : Prop :=
  ∀ (e : Fin 16) (second : Bool) (reg : Fin 64) (ptr other : Fin 8) (md : Fin 4) (imm : BitVec 6) (rrb : Fin 64) (s : State),
    s.seCanRun e.val = true →
    let n := e.val
    let x := s.engine n
    let y := x.next
    let a := x.ptr ptr.val
    let scale := s.seScale n
    let sat := s.bit F.SE_MODE_SAT n
    let i := reg.val - 8
    let plain := codeOk reg.val = true
    let accum := 8 ≤ reg.val ∧ reg.val < 12 ∧ x.accOk i = true
    let up := if x.cur.sr.pair then 65536 else 1
    let half (k : Nat) : Int := ((BitVec.ofNat 16 (x.mem (a + 2 * k) 2)).signExtend 32).toInt
    let full : Int := (BitVec.ofNat 32 (x.mem a 4)).toInt
    let gives (c : Instr) (z : Engine) : Prop := Completes c s (s.onlyEngine · n z)
    let loads (z : Engine) (l : List (Nat × Int)) : Engine := { z with flight := l.map (fun r =>
      { dest := .reg x.onShadow (x.phys r.1), value := r.2, left := 1 }) }
    let stored (bs : List Byte) : Engine := { y with dmem := writeBytes x.dmem a bs }
    let scaledOut (h : Bool) : Int × Bool := scaled scale sat x.cur.sr.pair h (storeGet 0 x.cur.out i)
    let storedAcc (h : Bool) (size : Nat) : Engine :=
      let z := stored (leBytes size (wrapOf (8 * size) (scaledOut h).1))
      if (scaledOut h).2 then z.withSr (fun f => { f with sat := true }) else z
    (a % 2 = 0 →
      (plain → gives (.ldH e second reg ptr md .nop .nop) ((loads y [(reg.val, half 0)]).movePtr x (.ldH reg ptr md))) ∧
      (accum → gives (.ldH e second reg ptr md .nop .nop) ((x.wroteAcc i (half 0 * up)).movePtr x (.ldH reg ptr md))) ∧
      (plain → gives (.stH e second reg ptr md .nop .nop) ((stored (leBytes 2 ((x.reg reg.val).toNat % 65536))).movePtr x (.stH reg ptr md))) ∧
      (accum → gives (.stH e second reg ptr md .nop .nop) ((storedAcc true 2).movePtr x (.stH reg ptr md)))) ∧
    (a % 4 = 0 →
      (plain → gives (.ldW e second reg ptr md .nop .nop) ((loads y [(reg.val, full)]).movePtr x (.ldW reg ptr md))) ∧
      (accum → gives (.ldW e second reg ptr md .nop .nop) ((x.wroteAcc i (full * up)).movePtr x (.ldW reg ptr md))) ∧
      (plain → gives (.stW e second reg ptr md .nop .nop) ((stored (leBytes 4 (x.reg reg.val).toNat)).movePtr x (.stW reg ptr md))) ∧
      (accum → gives (.stW e second reg ptr md .nop .nop) ((storedAcc false 4).movePtr x (.stW reg ptr md)))) ∧
    (a % 8 = 0 → groupOk reg.val = true →
      gives (.ldQ4 e second reg ptr md .nop .nop) ((loads y ((List.range 4).map (fun k => ((groupRegs reg.val).getD k 0,
        half k)))).movePtr x
        (.ldQ4 reg ptr md)) ∧
      gives (.stQ4 e second reg ptr md .nop .nop) ((stored ((groupRegs reg.val).flatMap (fun c => leBytes 2 (x.reg c).toNat))).movePtr x
        (.stQ4 reg ptr md))) ∧
    (a % 4 ≠ 0 → plain → Completes (.ldW e second reg ptr md .nop .nop) s (s.seFaulted n 0x0802 [n, x.pc, a]) ∧
      Completes (.stW e second reg ptr md .nop .nop) s (s.seFaulted n 0x0802 [n, x.pc, a])) ∧
    Completes (.stW e second reg ptr md (.stH reg ptr md) .nop) s (s.seFaulted n 0x0801 [n, x.pc]) ∧
    gives (.addm e ptr other .nop .nop) (y.bumpPtr x ptr.val (storeGet 0 x.cur.m other.val).toInt) ∧
    gives (.addi e ptr imm .nop .nop) (y.bumpPtr x ptr.val imm.toInt) ∧
    gives (.rrbd e rrb .nop .nop) (y.mapCur (fun r => { r with rrb := (r.rrb + 64 - rrb.val) % 32 })) ∧
    (storeGet 0 x.l ptr.val = 0 → Completes (.addi e ptr imm .nop .nop) s (fun t =>
      storeGet 0 (t.engine n).cur.p ptr.val = storeGet 0 x.cur.p ptr.val + BitVec.ofInt 16 imm.toInt ∧
      ∀ k, k ≠ ptr.val → storeGet 0 (t.engine n).cur.p k = storeGet 0 x.cur.p k))

/-- Parts of R246, R355, R360, R365 to R368, R375 to R381, in the cases that the premises name. Iteration ends,
interrupts of both levels, resets and restarts; stream copies; the registers of an engine: a port binds, IRQSET,
ATNPEND, START, RESUME, HALT and STEP. Model's choices: log entries 11, 12 and 72. -/
def Obligations.EngineEvents : Prop :=
  ∀ (q : Fin 33) (e : Fin 16) (port : Fin 4) (addr v : Word) (rest : List Posted) (s : State),
    let n := e.val
    let p := port.val
    let x := s.engine n
    let st := s.seState n
    let b (i : Nat) : Bool := bitOf v.toNat i
    let ag := 384 + n
    let r := s.seRing n p
    let k := s.seAvail n p
    let sp : SePort := storeGet {} x.ports p
    let len := s.seLen n p
    let slot := if sp.slot + 1 < len then sp.slot + 1 else 0
    let at_ := 16 * s.fldI F.SE_SWIN_LBASE n p + 16 * sp.slot
    let ctrl : Prop := s.writing q.val .se n 0 v rest
    let started (t : State) : Prop := t.seState n = 1 ∧ t.engine n = { x with
      main := {}, shadow := {}, q := [], b := [], l := [], pmode := 0, calls := [], loops := [], level := 0, onShadow := false
      flight := [], iter := false, below := 0, pc := s.fld F.SE_ENTRY_WORD n }
    let off := 0x40 + 16 * p
    let named := if b 30 then s.fld F.RING_CTRL_PROD (v.toNat % 1024) else s.fld F.RING_CTRL_CONS (v.toNat % 1024)
    let fits := named = ag ∧ 16 * s.fldI F.SE_SWIN_LBASE n p + 16 * len ≤ 65536
    (x.iter = true → ∀ l ls, x.loops = l :: ls → Completes (.iterationEnd e) s (s.onlyEngine · n
      { (x.mapCur (fun t => { t with rrb := (t.rrb + 32 - l.rot) % 32 })) with
        iter := false, loops := if l.count ≤ 1 then ls else { l with count := l.count - 1 } :: ls
        pc := if l.count ≤ 1 then x.pc else l.first })) ∧
    Completes (.accessSlotTaken e) s (· = s) ∧
    (∀ i, st = 1 ∨ st = 2 → x.iter = false → x.level = 0 → s.asleep = false → s.irqSource n false = some i →
      Completes (.level1Interrupt e) s (fun t => t.seState n = 1 ∧
        t.engine n = { x with level := 1, onShadow := true, ra1 := x.pc, pc := s.fld F.SE_VEC_VEC1 n } ∧
        (0 < i → bitOf (t.fld F.SE_IRQPEND_PEND n) i = false) ∧
        s.regsKeep t [fldKey F.SE_IRQPEND_PEND n 0, fldKey F.SE_STATUS_STATE n 0])) ∧
    (∀ i, st = 1 ∨ st = 2 → x.iter = false → x.flight = [] → x.level < 2 → s.asleep = false → s.irqSource n true = some i →
      Completes (.level2Interrupt e) s (fun t => t.seState n = 1 ∧
        t.engine n = { x with level := 2, below := x.level, ra2 := x.pc, sr2 := x.cur.sr, pc := s.fld F.SE_VEC_VEC2 n } ∧
        (0 < i → bitOf (t.fld F.SE_IRQPEND_PEND n) i = false) ∧
        s.regsKeep t [fldKey F.SE_IRQPEND_PEND n 0, fldKey F.SE_STATUS_STATE n 0])) ∧
    ((s.seq q.val).post = .srst 1 addr.toNat :: rest → plainPost rest = true → addr.toNat = cfgBase .se n →
      Completes (.engineReset q addr) s (fun t => t.seState n = 0 ∧ t.fld F.SE_FAULT_CAUSE n = 0 ∧
        t.fld F.SE_FAULT_RESTARTS n = 0 ∧ t.bit F.SE_GOV_GOV n = false ∧
      t.fld F.SE_IRQPEND_PEND n = 0 ∧ (t.engine n).imem = x.imem ∧ (t.engine n).dmem = x.dmem ∧ (t.engine n).main = {} ∧
      (t.engine n).flight = [] ∧ (∀ i, i < 32 → bitOf (t.fld F.SE_ATNPEND_PEND n) i = false) ∧
      ∀ i, i < 4 → s.fldI F.SE_SCFG_DIR n i = 0 → t.seAvail n i = 0)) ∧
    (st = 3 → s.bit F.SE_CTRL_FAULTACT n = true → Completes (.engineRestart e) s (fun t => started t ∧
      t.fld F.SE_FAULT_RESTARTS n = min (s.fld F.SE_FAULT_RESTARTS n + 1) 255 ∧ x.faultAt + 1250 ≤ t.tickNo)) ∧
    (let a := s.ringAddr r (s.aheadOff r k);
      s.sePortIs n p 0 = true → s.ready 4 = true → k < len → s.ringEn r = true → s.fld F.RING_CTRL_CONS r = ag → k < s.ringFill r →
      s.group (groupOf a) = 0 → s.fldI F.SE_SWM_LWM n p = 0 → Completes (.consumeCopy e port .clean) s (fun t =>
        (t.engine n).dmem = writeBytes x.dmem at_ (readBytes s.caldera a 16) ∧ t.seAvail n p = (k + 1) % 8192 ∧
        storeGet {} (t.engine n).ports p = { sp with slot := slot } ∧ t = { s with engines := t.engines, regs := t.regs })) ∧
    (∀ item more, s.sePortIs n p 1 = true → s.ready 4 = true → sp.items = item :: more → s.ringEn r = true →
      s.fld F.RING_CTRL_PROD r = ag → 0 < s.ringRoom r → s.writeOpen r = true → s.fldI F.SE_SWM_LWM n p = 0 → r < 1024 →
      Completes (.produceCopy e port) s (fun t =>
        let w := { s with ringWaits := s.ringWaits.filter (· ≠ (r, ag)) }.ringPut ag r item
        t.caldera = w.caldera ∧ t.fld F.RING_WPTR_OFF r = w.fld F.RING_WPTR_OFF r ∧ t.seAvail n p = (k + 1) % 8192 ∧
        storeGet {} (t.engine n).ports p = { slot := slot, items := more } ∧ (t.engine n).dmem = x.dmem)) ∧
    (s.writing q.val .se n off v rest → st = 0 → s.fldI F.SE_SCFG_EN n p = 0 → b 31 = true →
      (fits → Completes (.streamPortEn q e port v) s (fun t => t.fldI F.SE_SCFG_EN n p = 1 ∧ t.seRing n p = v.toNat % 1024 ∧
        storeGet {} (t.engine n).ports p = {} ∧ t.seAvail n p = (if b 30 then len % 8192 else 0) ∧ t.errq = s.errq)) ∧
      (¬fits → Completes (.streamPortEn q e port v) s (fun t => t.fldI F.SE_SCFG_EN n p = 0 ∧
        s.thenRaises t 0x0806 (9216 + n) [n, p, v.toNat % 1024]))) ∧
    (s.writing q.val .se n 0x2C v rest → b 0 = true → Completes (.irqset q e v) s (fun t =>
      bitOf (t.fld F.SE_IRQPEND_PEND n) 6 = true ∧
      ∀ i, i < 6 → bitOf (t.fld F.SE_IRQPEND_PEND n) i = bitOf (s.fld F.SE_IRQPEND_PEND n) i)) ∧
    (s.writing q.val .se n 0x34 v rest → Completes (.seAtnpend q e v) s (fun t => (∀ i, i < 32 →
      bitOf (t.fld F.SE_ATNPEND_PEND n) i = (bitOf (s.fld F.SE_ATNPEND_PEND n) i && !b i)) ∧
      s.regsKeep t [fldKey F.SE_ATNPEND_PEND n 0] ∧ t.engines = s.engines)) ∧
    (ctrl → st = 0 ∨ st = 3 → b 31 = true → Completes (.seCtrlStart q e v) s started) ∧
    (ctrl → st = 0 → b 31 = false → b 30 = true → Completes (.seCtrlResume q e v) s (fun t => t.seState n = 1 ∧
      t.engines = s.engines)) ∧
    (ctrl → st = 1 ∨ st = 2 → x.iter = false → x.flight = [] → b 31 = false → b 30 = false → b 29 = true →
      Completes (.seCtrlHalt q e v) s (fun t => t.seState n = 0 ∧ t.engine n = x ∧
        s.regsKeep t [fldKey F.SE_CTRL_FAULTACT n 0, fldKey F.SE_STATUS_STATE n 0])) ∧
    (ctrl → st = 0 → x.iter = false → x.flight = [] → x.loops = [] → b 31 = false → b 30 = false → b 29 = false → b 28 = true →
      x.pc < 4096 → seDecode (leNat (readBytes x.imem (8 * x.pc) 8)) = some ⟨.nop, .nop, .nop, .nop⟩ →
      Completes (.seCtrlStep q e v) s (fun t => t.seState n = 0 ∧ t.engine n = x.next))

/-! ### Flash -/

/-- Parts of R389 to R397, R399, R406 to R411, R414, R469, in the cases that the premises name. What the next
descriptor of a queue in host memory comes to, operation by operation, where nothing of the flash is busy; a refused
one completes with its code and touches nothing. OTP_PROGRAM, SWAP_BOOT and SET_PROTECTION to 0 begin work of the
supervisor, which `FlashEventsAndTimeouts` ends. The last case that R410 refuses cannot arise by R410's own reading of
the level: with all eight PL0 words blown the level is no longer 1. Model's choices: log entries 26 to 31, 47, 84, 136
and 137. -/
def Obligations.FlashDescriptors : Prop :=
  ∀ (desc : BitVec 256) (ok : Bool) (corr uncorr : Half) (first : Word) (data : Option (List Byte)) (s : State),
    let i := s.flash.reach
    let d := descOf i (leBytes 32 desc.toNat)
    let e := { d with priv := s.sessPriv 1 0 }
    let next := (i + 1) % 128
    let b := d.bank
    let g := d.arg % 4
    let free : FlashBank → FlashBank := fun k => { k with op := 3, page := 0, resumes := 0, idx := i, data := [], own := true }
    let ended (w t : State) (code low info : Nat) : Prop := w.descEnded t d next code low info
    let taken (t : State) (k : Nat) (y : FlashBank) : Prop :=
      t.bank k = y ∧ t.flash.queue = [e] ∧ t.flash.reach = next ∧ bitOf (t.fld F.FLASH_STATUS_BUSY 0) k = true ∧ t.out = s.out ∧
        t.errq = s.errq ∧ t.caldera = s.caldera
    let passes := s.descRefused d true (s.sessPriv 1 0) = none
    let corrected := min corr.toNat 255
    let found := if bitOf d.faddr 31 then (List.range d.len).map (fun n => s.otpByte (d.otpOff + n)) else s.flashBytes d.faddr d.len
    s.hostQ = true → s.flash.queue = [] → s.flash.jobs = [] → i ≠ s.fld F.FLASH_QHEAD_HEAD 0 → s.ready 2 = true → s.warm = none →
    s.bufOpen d = true →
    (∀ k, k < 4 → (s.bank k).op = 0 ∧ ((s.bank k).held = none ∨ d.op = 4 ∨ d.op = 5)) →
    (∀ o, d.bad true = some o → Completes (.invalidOperation desc) s (ended s · 7 0 o)) ∧
    (∀ code info, s.descRefused d true (s.sessPriv 1 0) = some (code, info) →
      ∀ c ∈ [(1, Instr.read desc ok corr uncorr first), (2, Instr.program desc data), (3, Instr.erase desc),
        (4, Instr.suspend desc),
        (5, Instr.resume desc), (6, Instr.otpProgram desc), (7, Instr.swapBoot desc), (8, Instr.setProtection desc)],
        d.op = c.1 → Completes c.2 s (ended s · code 0 info)) ∧
    (d.op = 1 → passes → d.hbuf = true →
      (ok = false → Completes (.read desc ok corr uncorr first) s (ended s · 8 0 (d.buf % 2 ^ 32))) ∧
      (ok = true → (bitOf d.faddr 31 = true ∧ s.plevel = 0) ∨
          (bitOf d.faddr 31 = false ∧ ∀ k, d.block ≤ k → k ≤ (d.faddr + d.len - 1) / 131072 → s.undef k = false) →
        Completes (.read desc ok corr uncorr first) s (fun t => ∃ w : State, w.out = s.out ++ [.pcie d.buf found] ∧
          w.fld F.FLASH_ECC_CORR 0 = min (s.fld F.FLASH_ECC_CORR 0 + corr.toNat) 65535 ∧ w.flash = s.flash ∧ w.caldera = s.caldera ∧
          (uncorr = 0 → w.errq = s.errq ∧ ended w t 1 corrected 0) ∧
          (uncorr ≠ 0 → w.fld F.FLASH_ECC_UNCORR 0 = min (s.fld F.FLASH_ECC_UNCORR 0 + uncorr.toNat) 65535 ∧
            ∃ v : State, v.errq = (s.raise 0x0902 13312 [first.toNat, 352]).errq ∧ v.flash = s.flash ∧ v.caldera = s.caldera ∧
              (∃ more, v.out = w.out ++ more) ∧ ended v t 2 corrected first.toNat)))) ∧
    (d.op = 1 → passes → d.hbuf = false → bitOf d.faddr 31 = true → s.plevel = 0 → d.bufOk true = true →
      let w := s.spacePut (.command 1) d.buf found
      Completes (.read desc ok corr uncorr first) s (fun t =>
        if uncorr = 0 then ended w t 1 corrected 0
        else ended (w.raise 0x0902 13312 [first.toNat, 352]) t 2 corrected first.toNat)) ∧
    (d.op = 2 → passes → s.undef d.block = true → Completes (.program desc data) s (ended s · 4 0 d.block)) ∧
    (d.op = 2 → passes → s.undef d.block = false →
      (∀ l, d.hbuf = true → data = some l → d.len ≤ l.length → Completes (.program desc data) s (fun t => taken t b { s.bank b with
        op := 2, block := d.block % 64, page := d.faddr / 512 % 256, idx := i, data := l.take d.len, own := false })) ∧
      (d.hbuf = false → d.bufOk true = true → Completes (.program desc data) s (fun t => (t.bank b).op = 2 ∧ (t.bank b).idx = i ∧
        (t.bank b).block = d.block % 64 ∧ (t.bank b).page = d.faddr / 512 % 256 ∧
        (t.bank b).data = (s.spaceBytes (.command 1) d.buf d.len).1 ∧ t.flash.queue = [e])) ∧
      (d.hbuf = true → data = none → Completes (.program desc data) s (ended s · 8 0 (d.buf % 2 ^ 32)))) ∧
    (d.op = 3 → passes → Completes (.erase desc) s (fun t =>
      t.flash.mem = (s.eraseIntent d.block 0).flash.mem ∧
      taken t b { s.bank b with op := 3, block := d.block % 64, resumes := 0, idx := i, own := false })) ∧
    (d.op = 4 → passes → Completes (.suspend desc) s (ended s · 0x0A 0 g)) ∧
    (d.op = 5 → passes →
      ((s.bank g).held = none → Completes (.resume desc) s (ended s · 0x0A 0 g)) ∧
      (∀ h, (s.bank g).held = some h → (s.bank g).due = false → h.resumes ≠ 99 → Completes (.resume desc) s (fun t =>
        t.bank g = { s.bank g with op := 3, block := h.block, resumes := h.resumes + 1, idx := h.idx, own := h.own, held := none, due := false } ∧
        ∃ w : State, w.out = s.out ∧ w.errq = s.errq ∧ w.caldera = s.caldera ∧ w.flash.mem = s.flash.mem ∧ ended w t 1 0 0))) ∧
    (d.op = 6 → passes →
      (otpKeyWord d.otpOff = true ∨ otpUserWord d.otpOff = true → s.otpUsed d.otpOff = false → d.arg ≠ 0 →
        Completes (.otpProgram desc) s (fun t => t = { s with flash := { s.flash with
          queue := [e], reach := next, jobs := [{ key := i, todo := [], fin := .otp d.otpOff d.arg }] } })) ∧
      ((otpKeyWord d.otpOff = false ∧ otpUserWord d.otpOff = false) ∨ s.otpUsed d.otpOff = true ∨ d.arg = 0 →
        Completes (.otpProgram desc) s (ended (s.raise 0x0908 13312 [d.otpOff]) · 0x0B 0 d.otpOff))) ∧
    (d.op = 7 → passes →
      let n := d.arg % 2
      let w := s.arrayRead [(0x100000 * n, 917504)]
      (s.fld F.FLASH_STATUS_ACTBOOT 0 = n → Completes (.swapBoot desc) s (ended s · 0x0C 0 2)) ∧
      (s.fld F.FLASH_STATUS_ACTBOOT 0 ≠ n → (∃ k, s.fwCheck n true = some k) ∨ s.selector = none →
        Completes (.swapBoot desc) s (ended w · 0x0C 0 1)) ∧
      (∀ x, s.fld F.FLASH_STATUS_ACTBOOT 0 ≠ n → s.fwCheck n true = none → s.selector = some x →
        Completes (.swapBoot desc) s (fun t => t.bank 0 = { free (s.bank 0) with block := 8 * n + 7 } ∧
          t.flash.jobs = [{ key := i, todo := [], fin := .swap n }] ∧ t.flash.queue = [e] ∧ t.flash.reach = next ∧
          t.flash.mem = (w.eraseIntent (8 * n + 7) 1).flash.mem ∧ t.errq = w.errq ∧ t.out = w.out ∧ t.caldera = s.caldera))) ∧
    (d.op = 8 → passes →
      (g = s.plevel → Completes (.setProtection desc) s (ended s · 0x0C 0 1)) ∧
      (g = 3 → Completes (.setProtection desc) s (ended s · 0x0C 0 0)) ∧
      (g ≠ 2 → g ≠ 3 → s.plevel = 2 → Completes (.setProtection desc) s (ended s · 0x0C 0 2)) ∧
      (g = 2 → s.plevel ≠ 2 → Completes (.setProtection desc) s
        (ended ((s.setOtpWord 0x100 0xFFFFFFFF).raise 0x0909 13312 [s.plevel, 2]) · 1 0 0)) ∧
      (∀ k, g = 1 → s.plevel = 0 → s.nextFuse 0xC0 = some k → Completes (.setProtection desc) s
        (ended ((s.setOtpWord (0xC0 + 4 * k) 0xFFFFFFFF).raise 0x0909 13312 [0, 1]) · 1 0 0)) ∧
      (∀ k, g = 0 → s.plevel = 1 → s.nextFuse 0xE0 = some k → Completes (.setProtection desc) s (fun t =>
        t.caldera = [] ∧ (∀ x ∈ t.flaws, x.flash = true) ∧ t.plevel = 1 ∧ t.flash.otp = s.flash.otp ∧
        (∀ m, m < 4 → t.bank m = { free (s.bank m) with block := 0 }) ∧
        t.flash.jobs = [{ key := i, todo := ((List.range 256).filter (· % 64 ≠ 0)).map .erase, fin := .wipe 1 }] ∧
        t.flash.queue = [e] ∧ t.flash.reach = next ∧ t.errq = s.errq ∧ t.out = s.out)) ∧
      (s.plevel = 0 → g = 1 → s.nextFuse 0xC0 = none → Completes (.setProtection desc) s (ended s · 0x0C 0 3)) ∧
      (s.plevel = 1 → g = 0 → s.nextFuse 0xE0 = none → Completes (.setProtection desc) s (ended s · 0x0C 0 4)))

/-- Parts of R394, R397, R398, R400, R406, R408, R411, R412, R471, R472, in the cases that the premises name. A page of
a program ends, an erase ends or pauses, the supervisor's work for OTP_PROGRAM, SWAP_BOOT and SET_PROTECTION to 0 ends,
the registers CMD and QHEAD; a session times out and a lockout expires. Model's choices: log entries 11, 30 and 136. -/
def Obligations.FlashEventsAndTimeouts : Prop :=
  ∀ (desc : BitVec 256) (q : Fin 33) (v : Word) (bank : Fin 4) (k : Fin 4) (tr : Fin 3) (rest : List Posted) (s : State),
    let b := bank.val
    let x := s.bank b
    let g := 64 * b + x.block
    let u := s.landed q.val rest
    let busy (t : State) : Bool := bitOf (t.fld F.FLASH_STATUS_BUSY 0) b
    let susp (t : State) : Bool := bitOf (t.fld F.FLASH_STATUS_SUSP 0) b
    let quiet := s.flash.jobs = [] ∧ s.flash.jwait = [] ∧ s.hostQ = true
    (∀ d, quiet → x.op = 2 → x.own = false → x.due = false → 512 ≤ x.data.length → storeGet 0 s.flash.pages g ≤ x.page →
      x.page < 256 →
      s.flash.queue = [d] → d.idx = x.idx → d.done = false → Completes (.pageProgramDone bank) s (fun t =>
        t.flash.mem = flashPut s.flash.mem (512 * (256 * g + x.page)) (x.data.take 512) ∧ storeGet 0 t.flash.pages g = x.page + 1 ∧
        (x.data.length = 512 → t.bank b = { x with op := 0, data := [] } ∧ busy t = false ∧
          ∃ w : State, w.out = s.out ∧ w.errq = s.errq ∧ w.caldera = s.caldera ∧ w.descEnded t d s.flash.reach 1 0 0) ∧
        (512 < x.data.length → t.flash.queue = [{ d with moved := d.moved + 1 }] ∧ t.out = s.out ∧ t.errq = s.errq ∧
          t.caldera = s.caldera ∧
          (s.warm = none → t.bank b = { x with page := x.page + 1, data := x.data.drop 512 } ∧ busy t = true) ∧
          (s.warm ≠ none → t.bank b = { x with op := 0, data := [] } ∧ busy t = false)))) ∧
    (∀ d, quiet → x.op = 3 → x.own = false → x.held = none → g < 192 ∨ 194 < g → g < 256 → s.flash.queue = [d] → d.idx = x.idx →
      d.done = false → s.flash.pausing = [] → Completes (.eraseEnd bank) s (fun t =>
        t.bank b = { x with op := 0 } ∧ busy t = false ∧ t.undef g = false ∧
        (∀ a, a / 131072 = g → storeGet 0xFF t.flash.mem a = 0xFF) ∧ storeGet 0 t.flash.pages g = 0 ∧
        ∃ w : State, w.out = s.out ∧ w.errq = s.errq ∧ w.caldera = s.caldera ∧ w.descEnded t d s.flash.reach 1 0 0)) ∧
    (∀ e j, s.hostQ = true → s.flash.queue = [e] → e.done = false → s.flash.jobs = [j] → j.key = e.idx → j.todo = [] →
      s.supRuns j.key = false → s.warm = none →
      let ends (w t : State) : Prop := (w.jobDrop e.idx).descEnded t e s.flash.reach 1 0 0
      (∀ off a, e.op = 6 → j.fin = .otp off a → Completes (.otpProgram desc) s (ends (s.setOtpWord off a))) ∧
      (∀ n sel, e.op = 7 → j.fin = .swap n → n < 2 → s.selOpen = true → 192 * 256 ≤ s.flash.sel → s.selector = some sel →
        Completes (.swapBoot desc) s (fun t => t.fld F.FLASH_STATUS_ACTBOOT 0 = n ∧
          t.fld F.FLASH_SELSEQ_SEQ 0 = (sel.seq + 1) % 2 ^ 32 ∧
          ∃ w : State, w.out = s.out ∧ w.errq = s.errq ∧ w.caldera = s.caldera ∧ ends w t)) ∧
      (∀ now n, e.op = 8 → j.fin = .wipe now → s.nextFuse 0xE0 = some n → Completes (.setProtection desc) s
        (ends ((s.setOtpWord (0xE0 + 4 * n) 0xFFFFFFFF).raise 0x0909 13312 [now, 0])))) ∧
    (let d := { descOf s.flash.reach (leBytes 32 desc.toNat) with priv := s.sessPriv 1 0 };
      ∀ e, quiet → e.parked = false → d.op = 4 → d.arg % 4 = b → s.descRefused d true (s.sessPriv 1 0) = none →
        bitOf d.flags 1 = false → x.op = 3 →
        s.flash.queue = [e] → d.idx ≠ s.fld F.FLASH_QHEAD_HEAD 0 → s.ready 2 = true → s.warm = none →
          Completes (.suspend desc) s (fun t =>
          t.flash = { s.flash with pausing := s.flash.pausing ++ [(b, some d.idx)], queue := [e, d], reach := (d.idx + 1) % 128 } ∧
          t = { s with flash := t.flash })) ∧
    (quiet → x.op = 3 → s.flash.pausing = [(b, none)] → Completes (.erasePause bank) s (fun t =>
      t.bank b = { x with
        op := 0, own := false, held := some { block := x.block, resumes := x.resumes, idx := x.idx, own := x.own } } ∧ busy t = false ∧
      susp t = true ∧ t.flash.pausing = [] ∧ t.flash.mem = s.flash.mem ∧ t.out = s.out ∧ t.errq = s.errq)) ∧
    (∀ d e, quiet → x.op = 3 → s.flash.pausing = [(b, some d.idx)] → s.flash.queue = [e, d] → e.idx = x.idx → d.idx ≠ e.idx →
      e.done = false → Completes (.erasePause bank) s (fun t =>
        (t.bank b).op = 0 ∧ (t.bank b).held = some { block := x.block, resumes := x.resumes, idx := x.idx, own := x.own } ∧
          t.flash.pausing = [] ∧
        (∃ more, t.out = s.out ++ [.pcie (s.descAddr d.idx + 28) (leBytes 4 0),
          .pcie (s.descAddr d.idx + 24) (leBytes 4 (2 ^ 31 + 1))]
          ++ more) ∧ t.flash.queue = [e, { d with done := true, parked := false }])) ∧
    (s.writing q.val .flash 0 0x18 v rest → v.toNat = 2 ^ b → x.op = 3 → Completes (.cmdSuspend q v) s (fun t =>
      t.flash = { s.flash with pausing := s.flash.pausing ++ [(b, none)] } ∧ t = { u with flash := t.flash })) ∧
    (s.writing q.val .flash 0 0x18 v rest → v.toNat = 2 ^ b → x.op ≠ 3 → Completes (.cmdSuspend q v) s (· = u)) ∧
    (∀ h, s.writing q.val .flash 0 0x18 v rest → v.toNat = 2 ^ (4 + b) → x.op = 0 → x.held = some h → x.due = false →
      h.resumes ≠ 99 →
      Completes (.cmdResume q v) s (fun t =>
        t.bank b = { x with op := 3, block := h.block, resumes := h.resumes + 1, idx := h.idx, own := h.own, held := none, due := false } ∧
        busy t = true ∧ susp t = false ∧ t = { u with flash := t.flash, regs := t.regs })) ∧
    (s.writing q.val .flash 0 0x18 v rest → v.toNat = 2 ^ (4 + b) → x.held = none → Completes (.cmdResume q v) s (· = u)) ∧
    (s.writing q.val .flash 0 0x0C v rest → s.hostQ = true → Completes (.qhead q v) s (· = u)) ∧
    (s.writing q.val .flash 0 0x0C v rest → s.hostQ = false → Completes (.qhead q v) s (fun t =>
      t.fld F.FLASH_QHEAD_HEAD 0 = v.toNat % 128 ∧ s.regsKeep t [fldKey F.FLASH_QHEAD_HEAD 0 0] ∧ t = { u with regs := t.regs })) ∧
    (let y := storeGet {} s.hostSide.sess k.val;
      s.fldI F.HOST_SESS_OPEN 0 k.val = 1 → Completes (.idleTimeout k) s (fun t => t.fldI F.HOST_SESS_OPEN 0 k.val = 0 ∧
        t.fldI F.HOST_SESS_PRIV 0 k.val = 0 ∧ y.used + y.idle * 1250000000 ≤ t.tickNo ∧
        s.thenRaises t 0x0B06 16384 [k.val, s.fldI F.HOST_SESS_TRANSPORT 0 k.val])) ∧
    (∀ e, storeGet 0 s.hostSide.lockEnd tr.val = e + 1 → Completes (.lockoutEnd tr) s (fun t =>
      e + 1 ≤ t.tickNo ∧ t.hostSide = { s.hostSide with lockEnd := storeErase s.hostSide.lockEnd tr.val } ∧ t.regs = s.regs ∧
      t = { s with tickNo := t.tickNo, time := t.time, hostSide := t.hostSide }))

/-! ### The host's ways in -/

/-- Parts of R447 to R451, R456, R461, R464, R479, in the cases that the premises name. The PCIe link comes up and
goes down; reads and writes through the BARs; the front page's doorbells, queue registers and notes; MSI-X. Without
its privilege an access does nothing but raise 0x0B01. Model's choices: log entries 6, 53, 54 and 66. -/
def Obligations.FrontPageAndPcie : Prop :=
  ∀ (rid : Half) (bar : Fin 3) (off : BitVec 26) (len : BitVec 13) (data : List Byte) (v : Word) (h : BitVec 256) (vec : Fin 32)
    (width speed : Fin 4) (q : Fin 33) (rest : List Posted) (s : State),
    let o := off.toNat
    let n := len.toNat
    let priv := s.sessPriv 1 0
    let up := s.bit F.HOST_PCIE_DLUP 0
    let u := s.landed q.val rest
    let front (t : State) (keys : List Nat) : Prop :=
      s.regsKeep t keys ∧ t = { s with regs := t.regs, hostSide := s.touched 1 0 }
    let may := up = true ∧ s.fld F.SUP_PWR_STATE 0 ≠ 2 ∧ bitOf priv 1 = true
    let refused (a : Nat) (t : State) : Prop := s.thenRaises t 0x0B01 16384 [a, rid.toNat]
    Completes .perstRise s (fun t => t.bit F.HOST_PCIE_PERST 0 = false ∧ s.regsKeep t [fldKey F.HOST_PCIE_PERST 0 0] ∧
      t = { s with regs := t.regs }) ∧
    (s.bit F.HOST_PCIE_PERST 0 = false → s.modePins % 2 = 0 → s.vserLost = false → s.vserhLost = false →
      s.fld F.SUP_PWR_STATE 0 < 3 →
      up = false → Completes (.dataLinkUp width speed) s (fun t => t.bit F.HOST_PCIE_DLUP 0 = true ∧
        t.fld F.HOST_PCIE_WIDTH 0 = 2 ^ width.val ∧ t.fld F.HOST_PCIE_SPEED 0 = speed.val + 1 ∧ t.ready 7 = true ∧
        s.regsKeep t [fldKey F.HOST_PCIE_DLUP 0 0, fldKey F.HOST_PCIE_WIDTH 0 0, fldKey F.HOST_PCIE_SPEED 0 0,
          fldKey F.SUP_READY_READY 0 0] ∧ t = { s with regs := t.regs, begun := withBit s.begun 7 })) ∧
    (∀ lost : Bool, (if lost then up = true else s.bit F.HOST_PCIE_PERST 0 = false) → Completes (.perstAssert lost) s (fun t =>
      s.thenRaises t 0x0B0A 16384 [if lost then 2 else 1] ∧ t.bit F.HOST_PCIE_DLUP 0 = false ∧ t.fld F.HOST_PCIE_WIDTH 0 = 0 ∧
      t.fld F.HOST_PCIE_SPEED 0 = 0 ∧ t.ready 7 = false ∧ (lost = false → t.bit F.HOST_PCIE_PERST 0 = true) ∧
      (∀ k, s.session 1 0 = some k → t.fldI F.HOST_SESS_OPEN 0 k = 0) ∧ t.hostSide.dma = [] ∧ t.hostSide.phase = true ∧
      (∀ c ∈ t.hostSide.quick, c.transport ≠ 1) ∧ (∀ c ∈ t.hostSide.long, c.transport ≠ 1) ∧
      t.bit F.FP_QCFG_EN 0 = false ∧ t.fld F.FP_CQTAIL_TAIL 0 = 0 ∧ t.hostSide.cpWait = [] ∧ t.msixMask = 2 ^ 32 - 1)) ∧
    (up = true → bar = 0 → n = 4 → o < 2 ^ 20 →
      (o = 0x04 → Completes (.barRead rid bar off len) s
        (· = { s with out := s.out ++ [.bar (leBytes 4 (s.fld F.SUP_READY_READY 0))] })) ∧
      (∀ x more, o = 0x0C → s.pcNotes = x :: more → Completes (.barRead rid bar off len) s
        (· = { s with pcNotes := more, pcNoteOvf := false, out := s.out ++ [.bar (leBytes 4 (256 + x))] })) ∧
      (0x81008 ≤ o → o % 4 = 0 → Completes (.barRead rid bar off len) s
        (· = { s with out := s.out ++ [.bar (leBytes 4 0)] }))) ∧
    (up = true → bar.val = 1 → o < 0x3000000 → 0 < n → o % 16 + n ≤ 16 → s.ready 4 = true → s.group (groupOf o) = 0 →
      (bitOf priv 0 = true → s.sound o n = true → Completes (.barRead rid bar off len) s
        (· = { s with hostSide := s.touched 1 0, out := s.out ++ [.bar (readBytes s.caldera o n)] })) ∧
      (bitOf priv 0 = false → Completes (.barRead rid bar off len) s (fun t =>
        t.errq = (s.raise 0x0B01 16384 [o, rid.toNat]).errq ∧ t.out.getLast? = some (.bar (List.replicate n 0)) ∧
        t.caldera = s.caldera))) ∧
    (up = true → bar.val = 1 → o < 0x3000000 → 0 < data.length → o % 16 + data.length ≤ 16 → s.ready 4 = true →
      s.group (groupOf o) = 0 →
      (bitOf priv 1 = true → s.busFree = true → Completes (.barWrite rid bar off data) s
        (fun t => t.flaws = (if data.length = 16 then s.mended o else s.flaws) ∧ t = { s with
          hostSide := s.touched 1 0, caldera := writeBytes s.caldera o data, bus := t.bus, flaws := t.flaws })) ∧
      (bitOf priv 1 = false → Completes (.barWrite rid bar off data) s (refused o))) ∧
    (bar = 0 → o = 0x10 → exec (.barWrite rid bar off (leBytes 4 v.toNat)) s = exec (.doorbell rid v) s) ∧
    (may → Completes (.doorbell rid v) s (fun t =>
      (∀ i k, i < 33 → k < 16 → bitOf (t.fld F.SEQ_WPEND_PEND i) k =
        (bitOf (s.fld F.SEQ_WPEND_PEND i) k || decide (k ∈ s.vectorsOn i 5 (v.toNat % 1024)))) ∧
      front t ((List.range 33).map (fun i => fldKey F.SEQ_WPEND_PEND i 0)))) ∧
    (up = true → s.fld F.SUP_PWR_STATE 0 ≠ 2 → bitOf priv 1 = false → Completes (.doorbell rid v) s (refused 0x10)) ∧
    (may → bitOf priv 3 = true → s.hostQ = true → Completes (.flashdb rid v) s (fun t =>
      t.fld F.FLASH_QHEAD_HEAD 0 = v.toNat % 128 ∧ front t [fldKey F.FLASH_QHEAD_HEAD 0 0])) ∧
    (may → bitOf priv 3 = false → Completes (.flashdb rid v) s (refused 0x14)) ∧
    (may → s.hostSide.cpWait = [] → s.bit F.FP_QCFG_EN 0 = false ∨ v.toNat % 256 = s.fld F.FP_QCFG_SIZE 0 →
      Completes (.queueEn rid v []) s (fun t =>
      t.bit F.FP_QCFG_EN 0 = bitOf v.toNat 31 ∧ t.fld F.FP_QCFG_SIZE 0 = v.toNat % 256 ∧
      front t [fldKey F.FP_QCFG_EN 0 0, fldKey F.FP_QCFG_SIZE 0 0])) ∧
    (may → s.hostSide.cpWait = [] → Completes (.cqtail rid v []) s (fun t =>
      t.fld F.FP_CQTAIL_TAIL 0 = v.toNat % 256 ∧ front t [fldKey F.FP_CQTAIL_TAIL 0 0])) ∧
    (let c := cmdOf 1 0 (leBytes 32 h.toNat) [];
      let hd := s.fld F.FP_CQHEAD_HEAD 0;
      may → s.hostSide.cpWait = [] → s.bit F.FP_QCFG_EN 0 = true → s.ready 0 = true → hd ≠ v.toNat % 256 → 2 ≤ s.cpFree →
        Completes (.cqtail rid v [h]) s (fun t =>
        t.fld F.FP_CQTAIL_TAIL 0 = v.toNat % 256 ∧ t.fld F.FP_CQHEAD_HEAD 0 = (if hd + 1 < s.cqSize then hd + 1 else 0) % 256 ∧
        t.hostSide.quick = (if longOp c.op then s.hostSide.quick else s.hostSide.quick ++ [c]) ∧
        t.hostSide.long = (if longOp c.op then s.hostSide.long ++ [c] else s.hostSide.long) ∧
        t = { s with regs := t.regs, hostSide := t.hostSide })) ∧
    (may → s.hostSide.cpWait = [] → Completes (.cphead rid v []) s (fun t =>
      t.fld F.FP_CPHEAD_HEAD 0 = v.toNat % 256 ∧ front t [fldKey F.FP_CPHEAD_HEAD 0 0])) ∧
    (may → s.bit F.FP_QCFG_EN 0 = true → Completes (.cphead rid v []) s (fun t => ∃ x : State, t = x.cpFlush ∧
      x.fld F.FP_CPHEAD_HEAD 0 = v.toNat % 256 ∧ front x [fldKey F.FP_CPHEAD_HEAD 0 0])) ∧
    (up = true → s.pcNotes = [] → Completes .fpNote s (· = { s with pcNoteOvf := false, out := s.out ++ [.bar (leBytes 4 0)] })) ∧
    (∀ x more, up = true → s.pcNotes = x :: more → Completes .fpNote s
      (· = { s with pcNotes := more, pcNoteOvf := false, out := s.out ++ [.bar (leBytes 4 (256 + x))] })) ∧
    (up = true → bitOf s.msixPend vec.val = true → Completes (.msixUnmask vec) s (· = { s with
      msixMask := withoutBit s.msixMask vec.val, msixPend := withoutBit s.msixPend vec.val, out := s.out ++ [.msix vec.val] })) ∧
    (up = true → bitOf s.msixPend vec.val = false → Completes (.msixUnmask vec) s
      (· = { s with msixMask := withoutBit s.msixMask vec.val })) ∧
    (s.writing q.val .host 0 8 v rest → up = true → 7 ≤ v.toNat % 32 →
      (bitOf s.msixMask (v.toNat % 32) = false → Completes (.msixraise q v) s
        (· = { u with out := s.out ++ [.msix (v.toNat % 32)] })) ∧
      (bitOf s.msixMask (v.toNat % 32) = true → Completes (.msixraise q v) s
        (· = { u with msixPend := withBit s.msixPend (v.toNat % 32) }))) ∧
    (s.writing q.val .host 0 8 v rest → v.toNat % 32 < 7 → Completes (.msixraise q v) s (· = u))

/-- Parts of R462 to R466, in the cases that the premises name. What each frame of the control port answers, and what
it leaves: notes, responses, commands, counted rejects; a SEND makes HRDY low for at most 20 us, and a frame that
begins then is ignored. Model's choices: log entries 6, 49, 51 and 146. -/
def Obligations.ControlPortFrames : Prop :=
  ∀ (quad whole : Bool) (len : Half) (message : List Byte) (crc : Word) (b : Byte) (s : State),
    let h := s.hostSide
    let w := s.setBit F.HOST_CP_QUAD 0 quad
    let st := leBytes 1 s.cpStatus
    let l := len.toNat
    let c := cmdOf 0 0 (message.take 32) ((message.take l).drop 32)
    let sent (body : List Byte) : List Out := s.out ++ [Out.port (st ++ body ++ leBytes 4 (crc32c (st ++ body)))]
    let early := whole = false ∨ message.length < l
    let long_ := l < 32 ∨ 4128 < l
    let wrong := crc32c (leBytes 2 l ++ message.take l) ≠ crc.toNat
    let busy (t : State) : Prop := s.tickNo < t.hostSide.busyEnd ∧ t.hostSide.busyEnd ≤ s.tickNo + 25000
    let counted (t : State) : Prop := t.fld F.HOST_CP_REJECTS 0 = min (s.fld F.HOST_CP_REJECTS 0 + 1) 65535 ∧
      s.regsKeep t [fldKey F.HOST_CP_REJECTS 0 0]
    let rejected (r : Nat) (t : State) : Prop := busy t ∧ t.hostSide = { h with
        reject := true, busyEnd := t.hostSide.busyEnd, blinkAt := t.hostSide.blinkAt, blinkDue := t.hostSide.blinkDue } ∧
      t.fld F.HOST_CP_REJECTS 0 = min (s.fld F.HOST_CP_REJECTS 0 + 1) 65535 ∧
      (s.reported 0x0B09 16384 = false → s.thenRaises t 0x0B09 16384 [r]) ∧
      (s.reported 0x0B09 16384 = true → t.out = s.out ++ [Out.port st] ∧ t.errq = s.errq)
    s.hrdy = true →
    (s.tickNo < h.busyEnd →
      (∀ f ∈ [Instr.status quad whole, .restatus quad, .fetch quad whole, .refetch quad, .send quad whole len message crc],
        Completes f s (fun t => counted t ∧ t = { s with regs := t.regs })) ∧
      (b.toNat % 64 = 0 ∨ 5 < b.toNat % 64 ∨ 128 ≤ b.toNat → Completes (.otherCommandByte b) s (fun t =>
        counted t ∧ t = { s with regs := t.regs }))) ∧
    (h.busyEnd ≤ s.tickNo → h.blinkDue = false →
    (∀ x more, s.cpNotes = x :: more →
      (whole = true → Completes (.status quad whole) s (fun t =>
        t.out = sent (leBytes 1 x ++ leBytes 1 (128 * b2n s.cpNoteOvf + more.length)) ∧
          t.hostSide = { h with lastNote := leBytes 1 x } ∧
        t = { w with cpNotes := more, cpNoteOvf := false, hostSide := t.hostSide, out := t.out })) ∧
      (whole = false → Completes (.status quad whole) s (· = { w with
        out := sent (leBytes 1 x ++ leBytes 1 (128 * b2n s.cpNoteOvf + more.length)) }))) ∧
    (∀ x, h.lastNote = [x] → Completes (.restatus quad) s (· = { w with
      out := sent (leBytes 1 x.toNat ++ leBytes 1 (128 * b2n s.cpNoteOvf + s.cpNotes.length)) })) ∧
    (h.responses = [] → Completes (.fetch quad whole) s (· = { w with out := sent (leBytes 2 0) })) ∧
    (∀ r more, h.responses = r :: more → Completes (.fetch quad whole) s (fun t => t.out = sent (leBytes 2 r.length ++ r) ∧
      t.hostSide = (if whole then { h with responses := more, lastResp := r } else h) ∧
      t = { w with hostSide := t.hostSide, out := t.out })) ∧
    Completes (.refetch quad) s (· = { w with out := sent (leBytes 2 h.lastResp.length ++ h.lastResp) }) ∧
    (b.toNat % 64 = 0 ∨ 5 < b.toNat % 64 ∨ 128 ≤ b.toNat → Completes (.otherCommandByte b) s (fun t =>
      counted t ∧ t = { s with regs := t.regs, out := s.out ++ [Out.port st] })) ∧
    (early → Completes (.send quad whole len message crc) s (rejected 3)) ∧
    (¬ early → long_ → Completes (.send quad whole len message crc) s (rejected 2)) ∧
    (¬ early → ¬ long_ → wrong → Completes (.send quad whole len message crc) s (rejected 1)) ∧
    (¬ early → ¬ long_ → ¬ wrong → 16 ≤ h.responses.length → Completes (.send quad whole len message crc) s (rejected 4)) ∧
    (¬ early → ¬ long_ → ¬ wrong → h.responses.length < 16 → s.fld F.SUP_PWR_STATE 0 ≠ 2 →
      Completes (.send quad whole len message crc) s (fun t => t.out = s.out ++ [Out.port st] ∧
        busy t ∧ t.hostSide = (let g := { s.touched 0 0 with reject := false, busyEnd := t.hostSide.busyEnd };
          if longOp c.op then { g with long := h.long ++ [c] } else { g with quick := h.quick ++ [c] }) ∧
        t = { w with free := s.free + 1, hostSide := t.hostSide, out := t.out })))

/-- Parts of R457 to R460, in the cases that the premises name. A DMA engine starts or is refused; the pointer it owns
is refused to the host; items and copies move between the Caldera and host memory; a failed access stops it; it
interrupts at its batch or time. Model's choices: log entries 6 and 56. -/
def Obligations.DmaEngines : Prop :=
  ∀ (rid : Half) (e : Fin 4) (v : Word) (item : BitVec 128) (a : Stamp) (status : Word) (data : List Byte) (s : State),
    let d := e.val
    let m := s.fld F.DMA_CTRL_MODE d
    let r := s.fld F.DMA_CTRL_RING d
    let src := 18432 + d
    let vm := bitsOf v.toNat 26 2
    let vr := bitsOf v.toNat 0 10
    let named := if vm = 0 then s.fld F.RING_CTRL_CONS vr else s.fld F.RING_CTRL_PROD vr
    let may := s.bit F.HOST_PCIE_DLUP 0 = true ∧ s.fld F.SUP_PWR_STATE 0 ≠ 2 ∧ bitOf (s.sessPriv 1 0) 1 = true
    let front (t : State) (keys : List Nat) : Prop :=
      s.regsKeep t keys ∧ t = { s with regs := t.regs, hostSide := s.touched 1 0 }
    let quiet := s.bit F.HOST_PCIE_DLUP 0 = false
    let n := s.fld F.DMA_HLEN_ITEMS d
    let wo := s.fld F.DMA_HWPTR_OFF d
    let ro := s.fld F.DMA_HRPTR_OFF d
    let hbase := s.fld F.DMA_HBASE_LO_LO d + 2 ^ 32 * s.fld F.DMA_HBASE_HI_HI d
    let ra := s.ringAddr r (s.fld F.RING_RPTR_OFF r)
    let wa := s.ringAddr r (s.fld F.RING_WPTR_OFF r)
    let da := s.fld F.DMA_DADDR_ADDR d / 16 * 16
    let moved : DmaCount := storeGet {} s.hostSide.dma d
    (may → s.bit F.DMA_CTRL_EN d = false → bitOf v.toNat 31 = true → 2 ≤ vm ∨ (named = 512 + d ∧ n ≠ 0) →
      Completes (.dmaEn rid e v) s (fun t => t.bit F.DMA_CTRL_EN d = true ∧ t.fld F.DMA_CTRL_MODE d = vm ∧
        t.fld F.DMA_CTRL_RING d = vr ∧ t.bit F.DMA_CTRL_ERR d = false ∧ t.bit F.DMA_CTRL_DONE d = false ∧
        storeGet {} t.hostSide.dma d = ({} : DmaCount) ∧ t = { s with regs := t.regs, hostSide := t.hostSide })) ∧
    (may → s.bit F.DMA_CTRL_EN d = false → bitOf v.toNat 31 = true → vm < 2 → named ≠ 512 + d ∨ n = 0 →
      Completes (.dmaEn rid e v) s (fun t => t.bit F.DMA_CTRL_EN d = false ∧
        s.thenRaises t 0x0B07 src [d, if named ≠ 512 + d then 1 else 2])) ∧
    (may → m ≠ 0 → Completes (.hwptr rid e v) s (fun t => t.fld F.DMA_HWPTR_OFF d = v.toNat % 2 ^ 22 ∧
      t.fld F.DMA_HWPTR_LAP d = v.toNat / 2 ^ 31 ∧ front t [fldKey F.DMA_HWPTR_OFF d 0, fldKey F.DMA_HWPTR_LAP d 0])) ∧
    (may → m = 0 → Completes (.hwptr rid e v) s (fun t => s.thenRaises t 0x0B07 src [d, 3] ∧ t.fld F.DMA_HWPTR_OFF d = wo)) ∧
    (may → m ≠ 1 → Completes (.hrptr rid e v) s (fun t => t.fld F.DMA_HRPTR_OFF d = v.toNat % 2 ^ 22 ∧
      t.fld F.DMA_HRPTR_LAP d = v.toNat / 2 ^ 31 ∧ front t [fldKey F.DMA_HRPTR_OFF d 0, fldKey F.DMA_HRPTR_LAP d 0])) ∧
    (may → m = 1 → Completes (.hrptr rid e v) s (fun t => s.thenRaises t 0x0B07 src [d, 3] ∧ t.fld F.DMA_HRPTR_OFF d = ro)) ∧
    (s.bit F.DMA_CTRL_EN d = true → Completes (.dmaBatch e 1 [] (some (a, status))) s (fun t =>
      s.thenRaises t 0x0B08 src [d, a.toNat % 2 ^ 32, a.toNat / 2 ^ 32, status.toNat] ∧
      t.bit F.DMA_CTRL_EN d = false ∧ t.bit F.DMA_CTRL_ERR d = true ∧ t.caldera = s.caldera)) ∧
    (s.bit F.DMA_CTRL_EN d = true → m = 0 → s.ringPlain r ra = true → s.nothingWaits = true → s.fld F.RING_CTRL_CONS r = 512 + d →
      s.sound ra 16 = true → s.fld F.RING_RPTR_OFF r + 1 < s.ringLen r → 0 < s.ringFill r → s.hostFill d < n → wo + 1 < n →
      (s.fld F.DMA_IRQ_BATCH d = 0 ∨ quiet) → s.fld F.DMA_HWB_LO_LO d + s.fld F.DMA_HWB_HI_HI d = 0 →
      Completes (.dmaBatch e 1 [] none) s (fun t =>
        t.out = s.out ++ [.pcie (hbase + 16 * wo) (readBytes s.caldera ra 16)] ∧ t.fld F.DMA_HWPTR_OFF d = (wo + 1) % 2 ^ 22 ∧
        t.fld F.RING_RPTR_OFF r = (s.fld F.RING_RPTR_OFF r + 1) % 2 ^ 22 ∧ t.caldera = s.caldera ∧
        t = { s with regs := t.regs, hostSide := t.hostSide, out := t.out })) ∧
    (s.bit F.DMA_CTRL_EN d = true → m = 1 → s.ringPlain r wa = true → s.busFree = true → s.fld F.RING_CTRL_PROD r = 512 + d →
      s.fld F.RING_WPTR_OFF r + 1 < s.ringLen r → 0 < s.ringRoom r → 0 < s.hostFill d → ro + 1 < n →
      (s.fld F.DMA_IRQ_BATCH d = 0 ∨ quiet) → s.fld F.DMA_HWB_LO_LO d + s.fld F.DMA_HWB_HI_HI d = 0 →
      Completes (.dmaBatch e 1 [item] none) s (fun t =>
        t.caldera = writeBytes s.caldera wa (leBytes 16 item.toNat) ∧ t.fld F.DMA_HRPTR_OFF d = (ro + 1) % 2 ^ 22 ∧
        t.fld F.RING_WPTR_OFF r = (s.fld F.RING_WPTR_OFF r + 1) % 2 ^ 22 ∧
        t.flaws = s.mended wa ∧ t = { s with
          regs := t.regs, caldera := t.caldera, bus := t.bus, flaws := t.flaws, ringWaits := t.ringWaits,
            hostSide := t.hostSide })) ∧
    (s.bit F.DMA_CTRL_EN d = true → da < 0x3000000 → s.ready 4 = true → s.group (groupOf da) = 0 →
      s.fld F.DMA_LEN_BYTES d / 16 = 1 →
      (m = 3 → s.sound da 16 = true → Completes (.dmaCopyDone e data) s (fun t => t.bit F.DMA_CTRL_EN d = false ∧
        t.bit F.DMA_CTRL_DONE d = true ∧
        s.regsKeep t [fldKey F.DMA_CTRL_EN d 0, fldKey F.DMA_CTRL_DONE d 0] ∧ t = { s with
          regs := t.regs, out := s.out ++ [.pcie (hbase / 16 * 16) (readBytes s.caldera da 16)] })) ∧
      (m = 2 → data.length = 16 → s.busFree = true → Completes (.dmaCopyDone e data) s (fun t => t.bit F.DMA_CTRL_EN d = false ∧
        t.bit F.DMA_CTRL_DONE d = true ∧ s.regsKeep t [fldKey F.DMA_CTRL_EN d 0, fldKey F.DMA_CTRL_DONE d 0] ∧
        t = { s with regs := t.regs, caldera := writeBytes s.caldera da data, bus := t.bus, flaws := s.mended da }))) ∧
    (s.bit F.DMA_CTRL_EN d = true → m < 2 → moved.moved ≠ 0 → s.fld F.DMA_IRQ_TIMEOUT d ≠ 0 → s.bit F.HOST_PCIE_DLUP 0 = true →
      bitOf s.msixMask (2 + d) = false → Completes (.dmaIrqTimeout e) s (fun t =>
        moved.since + 1250 * s.fld F.DMA_IRQ_TIMEOUT d ≤ t.tickNo ∧ t.out = s.out ++ [.msix (2 + d)] ∧
        storeGet {} t.hostSide.dma d = ({} : DmaCount) ∧
        t = { s with tickNo := t.tickNo, time := t.time, out := t.out, hostSide := t.hostSide }))

/-! ### Host commands -/

/-- Parts of R418, R452, R453, R455, R456, R463, R465, R472, in the cases that the premises name. What refuses a command
before its own checks, in the order of the checks, and how a command ends on each transport: a response with its blink
of HRDY, an entry of the completion ring once it has room, SESSION frames of at most 256 bytes. Model's choices: log
entries 64, 65 and 74. -/
def Obligations.HostCommandGates : Prop :=
  ∀ (tr : Fin 3) (ok : Bool) (mem : Option (List Byte)) (c : HostCmd) (src : Fin 512) (h : BitVec 256) (cpl : BitVec 128)
    (data out : List Byte) (status info : Nat) (s : State),
    let n := tr.val
    let w := s.lessQuick c
    let heads := s.quickHead n = some c ∧ s.runnable n = true
    let gated : List (Nat × Instr) := [(0x01, .info tr ok), (0x02, .sessionOpen tr ok), (0x03, .sessionAuth tr mem),
        (0x04, .sessionClose tr),
      (0x05, .wake tr), (0x10, .readMem tr), (0x11, .writeMem tr), (0x20, .seqLoad tr mem), (0x21, .seqCtrl tr),
        (0x22, .seLoad tr mem),
      (0x23, .seCtrl tr), (0x24, .grant tr), (0x25, .reset tr), (0x50, .relay tr mem)]
    let silent := c.quiet = true ∧ status = 0
    let o := out.take c.len
    let bytes (phase : Bool) : List Byte :=
      leBytes 2 c.tag ++ leBytes 1 status ++ leBytes 1 (b2n phase) ++ leBytes 4 info ++ leBytes 4 o.length ++ leBytes 4 0
    (∀ p ∈ gated, heads → c.op = p.1 →
      (∀ st x, s.notNow c = some (st, x) → Completes p.2 s (· = w.complete c st x [])) ∧
      (∀ st x, s.notNow c = none → s.noPriv c = some (st, x) → Completes p.2 s (· = w.complete c st x [])) ∧
      (∀ x, s.notNow c = none → s.noPriv c = none → c.badHeader = some x → Completes p.2 s (· = w.complete c 3 x []))) ∧
    (heads → knownOp c.op = false → s.notNow c = none → Completes (.badcmd tr) s (· = w.complete c 3 0 [])) ∧
    (let r := s.complete c status info out;
      c.transport = 0 → ¬ silent → r = { s with
        blinks := r.blinks, hostSide := { s.hostSide with
          responses := s.hostSide.responses ++ [bytes false ++
            o], blinkAt := r.hostSide.blinkAt, blinkDue := r.hostSide.blinkDue } } ∧
      (s.hrdy = false → r.blinks = s.blinks ∧ r.hostSide.blinkDue = s.hostSide.blinkDue) ∧
      (s.hrdy = true → s.hostSide.blinkDue = false →
        (s.hostSide.blinkFrom ≤ s.tickNo → r.blinks = s.blinks + 1 ∧ r.hostSide.blinkAt = some s.tickNo) ∧
        (s.tickNo < s.hostSide.blinkFrom → r.blinks = s.blinks ∧ r.hostSide.blinkDue = true))) ∧
    (c.transport = 1 → ¬ silent → s.queuesRun = true → c.dspace = false ∨ o = [] → s.hostSide.cpWait ≠ [] ∨ s.cpFree < 2 →
      s.complete c status info out = { s with
        out := s.out ++ (if o = [] then [] else [Out.pcie c.addr o])
        hostSide := { s.hostSide with cpWait := s.hostSide.cpWait ++ [⟨c, status, info, o.length⟩] } }) ∧
    (c.transport = 1 → ¬ silent → s.queuesRun = true → c.dspace = false ∨ o = [] → bitOf s.msixMask 1 = false →
      s.hostSide.cpWait = [] → 2 ≤ s.cpFree →
      (s.complete c status info out).out = s.out ++ (if o = [] then [] else [Out.pcie c.addr o]) ++
        [.pcie (s.fld F.FP_CPBASE_LO_LO 0 / 16 * 16 + 2 ^ 32 * s.fld F.FP_CPBASE_HI_HI 0 + 16 * s.fld F.FP_CPTAIL_TAIL 0)
          (bytes s.hostSide.phase), .msix 1] ∧
      (s.complete c status info out).fld F.FP_CPTAIL_TAIL 0 =
        (if s.fld F.FP_CPTAIL_TAIL 0 + 1 < s.cqSize then s.fld F.FP_CPTAIL_TAIL 0 + 1 else 0) % 256 ∧
      (s.complete c status info out).hostSide.phase =
        (if s.fld F.FP_CPTAIL_TAIL 0 + 1 < s.cqSize then s.hostSide.phase else !s.hostSide.phase)) ∧
    (c.transport = 2 → ¬ silent → s.complete c status info out = State.sendPieces c.peer 17 (bytes false ++ o) s) ∧
    (data ≠ [] → data.length ≤ 256 → State.sendPieces c.peer 17 data s = s.sendTo c.peer 0x0E data) ∧
    (∀ k, data.length = 256 → State.sendPieces c.peer (k + 1) (data ++ out) s =
      State.sendPieces c.peer k out (s.sendTo c.peer 0x0E data)) ∧
    (silent → c.transport ≠ 1 ∨ s.queuesRun = false ∨ o = [] → s.complete c status info out = s) ∧
    (s.inTree = true → s.fld F.SUP_PWR_STATE 0 ≠ 2 → Completes (.sessionFrame src (.command h data)) s (fun t =>
      let m := cmdOf 2 src.val (leBytes 32 h.toNat) data;
      let g := s.touched 2 src.val;
      t = { s.frameFrom src.val with hostSide := if longOp m.op then { g with long := s.hostSide.long ++ [m] }
        else { g with quick := s.hostSide.quick ++ [m] } })) ∧
    (s.inTree = true → s.hostSide.quick.find? (fun x => x.sent && decide (x.arg0 = src.val)) = some c →
      Completes (.sessionFrame src (.answer cpl out)) s (· = ((s.frameFrom src.val).lessQuick c).complete c 0 0 (leBytes 16 cpl.toNat ++ out))) ∧
    (∀ k, s.linkTo src.val = some k → (s.frameFrom src.val).onlyLink s k (s.link k) ∧
      (s.frameFrom src.val).link k = { s.link k with rxSeq := ((s.link k).rxSeq + 1) % 256 })

/-- Parts of R206, R245, R246, R379, R383, R454, R467 to R472, R504, in the cases that the premises name. What each
quick command does once nothing refuses it, on the control port or with its data in host memory. Model's choices: log
entries 35, 64, 75 and 76. -/
def Obligations.QuickCommands : Prop :=
  ∀ (tr : Fin 3) (mem : Option (List Byte)) (l : List Byte) (c : HostCmd) (s : State),
    let n := tr.val
    let w := s.lessQuick c
    let plain := c.dspace = false ∧ (n = 1 → c.addr % 16 = 0) ∧ (n ≠ 1 → c.addr = 0)
    let ends (x t : State) (status info : Nat) (out : List Byte) : Prop := t = x.complete c status info out
    let refused (code : Nat) (detail : List Nat) (t : State) : Prop := ends (w.raise code 0 detail) t 8 code []
    let q := c.arg0
    let a := c.addr % 2 ^ 32
    let slot := pieceNum l 0 1
    let open_ := s.anySlot = false
    let bound := pieceNum l 1 1 = n ∧ pieceNum l 2 2 = (if n = 2 then c.peer else 0)
    let ilen := pieceNum l 12 4
    let elen := pieceNum l 16 4
    (s.quickRuns n 0x01 c → plain → c.len ≤ 2 ^ 32 → Completes (.info tr true) s (ends w · 0 0 (leBytes 8 s.uid ++
      leBytes 4 (s.fld F.SUP_READY_READY 0) ++ leBytes 4 (s.fieldWord .sup 0 0x800 false) ++
        leBytes 4 (s.fieldWord .const 0 8 false) ++
      leBytes 2 s.fwVersion ++ leBytes 1 (s.fld F.SUP_PWR_STATE 0) ++ leBytes 1 s.plevel ++ leBytes 1 (s.sessPriv n c.peer) ++
      List.replicate 7 0))) ∧
    (s.quickRuns n 0x02 c → plain → c.len ≤ 2 ^ 32 →
      (s.lockLeft n = 0 → Completes (.sessionOpen tr true) s (fun t => ∃ (x : State) (m : List Byte), m.length = 16 ∧
        x.nonce n c.peer = some m ∧ x = { w with free := x.free, hostSide := x.hostSide } ∧ ends x t 0 0 m)) ∧
      (0 < s.lockLeft n → Completes (.sessionOpen tr true) s (ends w · 4 (s.lockLeft n) []))) ∧
    (s.quickRuns n 0x03 c → c.given 32 mem l → 32 ≤ c.len → c.len ≤ 2 ^ 32 →
      (0 < s.lockLeft n → Completes (.sessionAuth tr mem) s (ends w · 4 (s.lockLeft n) [])) ∧
      (s.lockLeft n = 0 → s.nonce n c.peer = none ∨ ¬ bound ∨ (¬ open_ ∧ s.slotUsable slot = false) →
        Completes (.sessionAuth tr mem) s (fun t =>
          ∃ x : State, x.fldI F.HOST_LOCK_FAILS 0 n = min (s.fldI F.HOST_LOCK_FAILS 0 n + 1) 255 ∧
          x.nonce n c.peer = none ∧ (∀ k, x.session n k = s.session n k) ∧ ends x t 6 (x.fldI F.HOST_LOCK_FAILS 0 n) [])) ∧
      (∀ m k, s.lockLeft n = 0 → s.nonce n c.peer = some m → bound → s.session n c.peer = some k →
        (open_ → Completes (.sessionAuth tr mem) s (fun t => ∃ x : State, x.fldI F.HOST_SESS_OPEN 0 k = 1 ∧
          x.fldI F.HOST_SESS_TRANSPORT 0 k = n ∧ x.fldI F.HOST_SESS_PRIV 0 k = 63 ∧ x.fldI F.HOST_LOCK_FAILS 0 n = 0 ∧
          x.nonce n c.peer = none ∧ ends x t 0 0 [])) ∧
        (¬ open_ → s.slotUsable slot = true → (hmac256 (s.slotKey slot) (m ++ l.take 16)).take 16 = piece l 16 16 →
          Nat.land (pieceNum l 4 4) (s.slotPriv slot) ≠ 0 → Completes (.sessionAuth tr mem) s (fun t => ∃ x : State,
            x.fldI F.HOST_SESS_OPEN 0 k = 1 ∧ x.fldI F.HOST_SESS_SLOT 0 k = slot ∧
            x.fldI F.HOST_SESS_PRIV 0 k = Nat.lor (Nat.land (pieceNum l 4 4) (s.slotPriv slot)) 1 % 64 ∧ ends x t 0 0 [])))) ∧
    (s.quickRuns n 0x04 c →
      (s.session n c.peer = none → Completes (.sessionClose tr) s (ends w · 0 0 [])) ∧
      (∀ k, s.session n c.peer = some k → Completes (.sessionClose tr) s (fun t => ∃ x : State, x.fldI F.HOST_SESS_OPEN 0 k = 0 ∧
        x.fldI F.HOST_SESS_PRIV 0 k = 0 ∧ (∀ i, i ≠ k → x.fldI F.HOST_SESS_OPEN 0 i = s.fldI F.HOST_SESS_OPEN 0 i) ∧
        ends x t 0 0 []))) ∧
    (s.quickRuns n 0x05 c →
      (s.fld F.SUP_PWR_STATE 0 < 2 → Completes (.wake tr) s (ends w · 0 0 [])) ∧
      (s.fld F.SUP_PWR_STATE 0 = 2 → Completes (.wake tr) s (fun t => ∃ x : State, x.fld F.SUP_PWR_STATE 0 = 0 ∧
        w.thenRaises x 0x0C31 0 [2, 4] ∧ ends x t 0 0 []))) ∧
    (s.quickRuns n 0x10 c → c.badMem false = none → s.ready 4 = true →
      (c.addr < 0x3000000 → c.len = 16 → c.addr % 16 = 0 → s.group (groupOf c.addr) = 0 → s.sound c.addr 16 = true →
        Completes (.readMem tr) s (ends w · 0 0 (readBytes s.caldera c.addr 16))) ∧
      (c.addr / 2 ^ 28 = 2 → Completes (.readMem tr) s (fun t => ∃ x : State, x.caldera = s.caldera ∧
        ends x t 9 (c.addr % 2 ^ 32) []))) ∧
    (s.quickRuns n 0x11 c → c.badMem true = none → s.ready 4 = true → c.addr < 0x3000000 → c.len = 16 → c.addr % 16 = 0 →
      s.group (groupOf c.addr) = 0 → s.busFree = true →
      Completes (.writeMem tr) s (fun t => ∃ x : State,
        x = { w with caldera := writeBytes s.caldera c.addr (c.data.take 16), bus := x.bus, flaws := s.mended c.addr } ∧
          ends x t 0 0 [])) ∧
    (s.quickRuns n 0x20 c → c.given c.len mem l → 64 ≤ c.len → c.len ≤ longestFile → q < 32 →
      (∀ k, s.seqFileBad q l = some k → Completes (.seqLoad tr mem) s (refused 0x070D [q, k])) ∧
      (s.seqFileBad q l = none → Completes (.seqLoad tr mem) s (fun t =>
        ∃ x : State, (x.seq q).imem = writeBytes [] 0 (piece l 64 ilen) ∧
        (x.seq q).dmem = writeBytes (s.seq q).dmem (pieceNum l 20 4) (piece l (64 + ilen) (pieceNum l 16 4)) ∧
        x.fld F.SEQ_ENTRY_ADDR q = pieceNum l 8 4 % 2 ^ 16 ∧
        (x.seq q).st = (if bitOf c.arg1 0 then SeqState.running else (s.seq q).st) ∧ ends x t 0 0 []))) ∧
    (s.quickRuns n 0x21 c → q < 32 → bitOf c.arg2 31 = false →
      (c.arg1 = 1 → (s.seq q).st = .halted → Completes (.seqCtrl tr) s (fun t => ∃ x : State,
        w.onlySeq x q { s.seq q with st := .running, runStart := s.tickNo } ∧ ends x t 0 0 [])) ∧
      (c.arg1 = 2 → (s.seq q).st = .running ∨ (s.seq q).st = .waiting → Completes (.seqCtrl tr) s (fun t => ∃ x : State,
        w.onlySeq x q { s.seq q with st := .halted, wait := none } ∧ ends x t 0 0 [])) ∧
      (3 < c.arg1 → Completes (.seqCtrl tr) s (ends w · 3 24 []))) ∧
    (s.quickRuns n 0x22 c → c.given c.len mem l → 64 ≤ c.len → c.len ≤ longestFile → q < 16 →
      (∀ k, s.seFileBad q l = some k → Completes (.seLoad tr mem) s (refused 0x0808 [q, k])) ∧
      (s.seFileBad q l = none → bitOf c.arg1 0 = false → Completes (.seLoad tr mem) s (fun t => ∃ x : State,
        (x.engine q).imem = writeBytes [] 0 (piece l 64 elen) ∧
        (x.engine q).dmem = writeBytes (s.engine q).dmem (pieceNum l 24 4) (piece l (64 + elen) (pieceNum l 20 4)) ∧
        x.fld F.SE_ENTRY_WORD q = pieceNum l 8 2 % 2 ^ F.SE_ENTRY_WORD.width ∧ x.seState q = s.seState q ∧ ends x t 0 0 []))) ∧
    (s.quickRuns n 0x23 c → q < 16 →
      (c.arg1 = 0 → bitOf c.arg2 31 = false → s.seState q = 0 ∨ s.seState q = 3 → Completes (.seCtrl tr) s (fun t => ∃ x : State,
        x = w.seStart q ∧ ends x t 0 0 [])) ∧
      (c.arg1 = 2 → bitOf c.arg2 31 = false → s.seState q = 0 ∨ s.seState q = 3 → Completes (.seCtrl tr) s (ends w · 0 0 [])) ∧
      (c.arg1 = 2 → bitOf c.arg2 31 = true → s.seState q = 0 ∨ s.seState q = 3 → Completes (.seCtrl tr) s
        (ends (w.setFld F.SE_ENTRY_WORD q (c.arg2 % 2 ^ 16)) · 0 0 []))) ∧
    (∀ b i off, s.quickRuns n 0x24 c → c.arg0 ≤ 32 → c.blk = some (b, i, off) → Completes (.grant tr) s (ends { w with
      owners := storeSet 32 s.owners (ownerKey b i) c.arg0
      flash := if b = .flash then { s.flash with privs := s.sessPriv n c.peer } else s.flash } · 0 0 [])) ∧
    (s.quickRuns n 0x24 c → c.arg0 ≤ 32 → c.blk = none → Completes (.grant tr) s (refused 0x0708 [32, a])) ∧
    (s.quickRuns n 0x25 c → c.arg0 = 3 → s.warm = none → Completes (.reset tr) s (ends { w with warm := some 3 } · 0 0 [])) ∧
    (∀ i off, s.quickRuns n 0x25 c → c.arg0 = 0 → c.blk = some (.seq, i, off) → i < 32 → Completes (.reset tr) s (fun t =>
      ∃ x : State, (x.seq i).st = .halted ∧ x.fld F.SEQ_FAULT_CAUSE i = 0 ∧ x.errq = s.errq ∧ ends x t 0 0 [])) ∧
    (s.quickRuns n 0x25 c → c.arg0 ≤ 3 → srstOk c.arg0 a = false → Completes (.reset tr) s (refused 0x0708 [32, a])) ∧
    (s.quickRuns n 0x50 c → c.given c.len mem l → 32 ≤ c.len → c.len ≤ 4128 → c.arg0 < 512 →
      (s.reachable c.arg0 = true → Completes (.relay tr mem) s (fun t =>
        t.hostSide.quick = s.hostSide.quick.replace c { c with sent := true } ∧ t.hostSide.responses = s.hostSide.responses ∧
        (∃ more, t.out = s.out ++ more))) ∧
      (s.reachable c.arg0 = false → Completes (.relay tr mem) s (refused 0x070E [32, c.arg0])))

/-- Parts of R292, R294, R388, R402 to R405, R454, R466, R469, in the cases that the premises name. What each long
command does once nothing refuses it: at once, or as work of the supervisor on the flash, which begins and which ends.
Model's choices: log entries 32, 57, 58, 77, 78, 134 and 136. -/
def Obligations.LongCommandsOfTheHost : Prop :=
  ∀ (mem data : Option (List Byte)) (l : List Byte) (c : HostCmd) (more : List HostCmd) (s : State),
    let w := s.lessLong more
    let v := w.jobDrop longKey
    let ends (x t : State) (status info : Nat) : Prop := t = x.complete c status info []
    let d := descOf 0 l
    let b := c.arg0
    let act := s.fld F.FLASH_STATUS_ACTBOOT 0
    let len := imgLength (imgMask (s.calderaImage c.addr))
    let blocks := storeBlocks len
    let idle := s.flash.jobs = [] ∧ (∀ k, k < 4 → (s.bank k).op = 0 ∧ (s.bank k).held = none)
    let erases (g : Nat) (k : FlashBank) : FlashBank :=
      { k with op := 3, block := g % 64, page := 0, resumes := 0, idx := 128, data := [], own := true }
    let goes (t : State) (todo : List SupOp) (fin : JobEnd) : Prop := t.hostSide.long = s.hostSide.long ∧
        t.flash.jobs = [⟨128, todo, fin⟩]
    let first (k : Nat) : Option Nat := ((List.range blocks).map (b + 16 + ·)).find? (fun g => decide (g / 64 = k))
    let back (y : State) (code corr info : Nat) : State := if c.transport = 1 then { y with out := y.out ++
      [.pcie (c.addr + 28) (leBytes 4 info), .pcie (c.addr + 24) (leBytes 4 (2 ^ 31 + 256 * min corr 255 + code))] } else y
    (s.longRuns 0x30 c more → c.addr < 0x3000000 → c.arg1 ≤ 2 → s.pieceOpen c.addr len = true → s.warm = none →
      (∀ r, s.installRefused b blocks = some r → Completes .imgInstall s (ends (w.raise 0x0511 19456 [b, r]) · 8 0x0511)) ∧
      (s.installRefused b blocks = none → idle → Completes .imgInstall s (fun t =>
        goes t ((copyJob (b + 16) blocks c.addr len).todo.filter (fun o => !(List.range 4).any (fun k =>
          match first k with
          | some g => decide (o = .erase g)
          | none => false))) (.long []) ∧
        (∀ k, k < 4 → t.bank k = (match first k with
          | some g => erases g (s.bank k)
          | none => s.bank k)) ∧
        t.errq = (w.touch (agent 5 32) c.addr len).errq))) ∧
    (s.longOver 0x30 c more (.long []) →
      (∀ f, imgCheck (s.storeImage b) (installUse b c.addr) (storeAddr b) = some f →
        Completes .imgInstall s (ends ((v.imageRead b).raise f.code 19456 f.detail) · 8 f.code)) ∧
      (imgCheck (s.storeImage b) (installUse b c.addr) (storeAddr b) = none →
        (c.arg1 = 0 → Completes .imgInstall s (ends (v.imageRead b) · 0 0)) ∧
        (c.arg1 ≠ 0 → s.selector = none → Completes .imgInstall s (ends ((v.imageRead b).raise 0x050A 19456 []) · 8 0x050A)) ∧
        (∀ x, c.arg1 ≠ 0 → s.selector = some x → s.selOpen = true → Completes .imgInstall s (fun t => ∃ y : State,
          y.fld F.FLASH_SELSEQ_SEQ 0 = (x.seq + 1) % 2 ^ 32 ∧ y.out = (v.imageRead b).out ∧ y.errq = (v.imageRead b).errq ∧
          y.flash.jobs = [] ∧ ends y t 0 0)))) ∧
    (s.longRuns 0x31 c more → b ≤ 0xFFFF → c.arg1 ≤ 0xFFFF → c.arg2 ≤ 1 → s.selReady = true →
      let r := (w.imageRead b).imageRead c.arg1
      (∀ f, s.selectCheck b = some f ∨ (s.selectCheck b = none ∧ s.selectCheck c.arg1 = some f) → Completes .imgSelect s
        (ends (r.raise f.code 19456 f.detail) · 8 f.code)) ∧
      (∀ x, s.selectCheck b = none → s.selectCheck c.arg1 = none → s.selector = some x → Completes .imgSelect s (fun t =>
        ∃ y : State,
        y.fld F.FLASH_SELSEQ_SEQ 0 = (x.seq + 1) % 2 ^ 32 ∧ y.fld F.FLASH_STATUS_ACTBOOT 0 = x.actboot % 2 ∧ y.errq = r.errq ∧
        ends y t 0 0))) ∧
    (s.longRuns 0x32 c more →
      (s.bit F.SUP_BOOT_CFGERR 0 = false → Completes .imgReload s (ends w · 7 s.bootBits)) ∧
      (s.bit F.SUP_BOOT_CFGERR 0 = true → (∀ k, k < 4 → (s.bank k).op ≠ 2) → s.journalOpen = true → s.warm = none →
        Completes .imgReload s (ends w.powerUpLoad · (if w.powerUpLoad.bit F.SUP_BOOT_CFGERR 0 then 8 else 0)
          (if w.powerUpLoad.bit F.SUP_BOOT_CFGERR 0 then 0x050C else 0)))) ∧
    (s.longRuns 0x40 c more → c.given 32 mem l → 32 ≤ c.len → c.len ≤ 2 ^ 32 → s.ready 2 = true → s.warm = none →
      (s.recovery = true → d.op ≠ 8 → Completes (.flashDesc mem data) s (ends w · 7 s.bootBits)) ∧
      (∀ code info, s.recovery = false → s.descRefused d s.hostQ (s.sessPriv c.transport c.peer) = some (code, info) →
        Completes (.flashDesc mem data) s
          (ends (back (if 5 ≤ code ∧ code ≤ 8 then w.raise 0x0901 13312 [0, code] else w) code 0 info) · 0 code)) ∧
      (s.recovery = false → s.descRefused d s.hostQ (s.sessPriv c.transport c.peer) = none →
        (∀ corr first, d.op = 1 → d.hbuf = true → data ≠ none → bitOf d.faddr 31 = false → idle →
          (∀ k, d.block ≤ k → k ≤ (d.faddr + d.len - 1) / 131072 → s.undef k = false) →
            s.eccFound d.faddr d.len = (corr, 0, first) →
          Completes (.flashDesc mem data) s (fun t => ∃ y : State, y.out = s.out ++ [.pcie d.buf (s.flashBytes d.faddr d.len)] ∧
            y.fld F.FLASH_ECC_CORR 0 = min (s.fld F.FLASH_ECC_CORR 0 + corr) 65535 ∧ y.errq = s.errq ∧ y.flash = s.flash ∧
            ends (back y 1 corr 0) t 0 1)) ∧
        (d.op = 3 → idle → Completes (.flashDesc mem data) s (fun t => goes t [] .plain ∧
          t.bank d.bank = erases d.block (s.bank d.bank) ∧ (∀ k, k ≠ d.bank → t.bank k = s.bank k) ∧ t.errq = s.errq ∧
          t.out = s.out)) ∧
        (d.op = 4 → (s.bank (d.arg % 4)).op ≠ 3 → Completes (.flashDesc mem data) s
          (ends (back w 0x0A 0 (d.arg % 4)) · 0 0x0A)) ∧
        (d.op = 6 → idle → otpUserWord d.otpOff = true → s.otpUsed d.otpOff = false → d.arg ≠ 0 →
          Completes (.flashDesc mem data) s (fun t => goes t [] (.otp d.otpOff d.arg) ∧ t = { s with flash := t.flash })))) ∧
    (c.dspace = false →
      (s.longOver 0x40 c more .plain → Completes (.flashDesc mem data) s (ends (back v 1 0 0) · 0 1)) ∧
      (∀ off a, s.longOver 0x40 c more (.otp off a) → Completes (.flashDesc mem data) s
        (ends (back (v.setOtpWord off a) 1 0 0) · 0 1))) ∧
    (s.longRuns 0x41 c more → 1 ≤ b → b ≤ 3 → (b = 1 → c.arg1 ≤ 255) → (b = 2 → bitsOf c.arg1 9 22 = 0) →
      s.pageReady (8 * act + 7) = true →
      (storeGet 0 s.flash.pages (8 * act + 7) < 256 → Completes .paramWrite s (fun t => ∃ y : State,
        storeGet 0 y.flash.params (16 * act + b) = c.arg1 + 1 ∧
        (∀ k, k ≠ 16 * act + b → storeGet 0 y.flash.params k = storeGet 0 s.flash.params k) ∧
        y.flash.mem = s.flash.mem ∧ ends y t 0 0)) ∧
      (256 ≤ storeGet 0 s.flash.pages (8 * act + 7) → idle → act < 2 → Completes .paramWrite s (fun t =>
        goes t [] (.long (s.flash.params.filter (fun p => decide (p.1 / 16 = act)))) ∧
          t.bank 0 = erases (8 * act + 7) (s.bank 0)))) ∧
    (∀ keep, s.longOver 0x41 c more (.long keep) → Completes .paramWrite s (fun t => ∃ y : State, y.flash.params =
      storeSet 0 (keep.foldl (fun m p => storeSet 0 m p.1 p.2) s.flash.params) (16 * act + b) (c.arg1 + 1) ∧
      y.flash.mem = s.flash.mem ∧ y.flash.jobs = [] ∧ y.out = s.out ∧ y.errq = s.errq ∧ ends y t 0 0)) ∧
    (s.longRuns 0x41 c more → b = 0 ∨ 3 < b → Completes .paramWrite s (ends w · 3 20)) ∧
    (s.longRuns 0x42 c more →
      (s.recovery = false → Completes .fwInstall s (ends w · 7 s.bootBits)) ∧
      (s.recovery = true → b ≤ 1 → c.addr + c.len ≤ 0x3000000 → c.len ≤ 917504 → s.pieceOpen c.addr (max 1 c.len) = true →
        s.warm = none → idle → Completes .fwInstall s (fun t => goes t (copyJob (8 * b) 7 c.addr c.len).todo.tail (.long []) ∧
          t.bank 0 = erases (8 * b) (s.bank 0) ∧ (∀ k, k ≠ 0 → t.bank k = s.bank k) ∧
          t.errq = (w.touch (agent 5 32) c.addr (max 1 c.len)).errq))) ∧
    (s.longOver 0x42 c more (.long []) →
      let r := v.arrayRead [(0x100000 * b, 917504)]
      (∀ k, s.fwCheck b true = some k → Completes .fwInstall s (ends r · 8 0)) ∧
      (b ≤ 1 → s.fwCheck b true = none → s.selOpen = true → Completes .fwInstall s (fun t => ∃ y : State,
        y.fld F.FLASH_STATUS_ACTBOOT 0 = b ∧ y.errq = r.errq ∧ y.out = r.out ∧ ends y t 0 0))) ∧
    (∀ st info, s.hostSide.long = c :: more → s.job longKey = none → s.runnable c.transport = true → s.notNow c = some (st, info) →
      ∀ p ∈ [(0x30, Instr.imgInstall), (0x31, Instr.imgSelect), (0x32, Instr.imgReload), (0x40, Instr.flashDesc mem data),
        (0x41, Instr.paramWrite), (0x42, Instr.fwInstall)], c.op = p.1 → Completes p.2 s (ends w · st info)) ∧
    (∀ st info, s.hostSide.long = c :: more → s.job longKey = none → s.runnable c.transport = true → s.notNow c = none →
      s.noPriv c = some (st, info) →
      ∀ p ∈ [(0x30, Instr.imgInstall), (0x31, Instr.imgSelect), (0x32, Instr.imgReload), (0x40, Instr.flashDesc mem data),
        (0x41, Instr.paramWrite), (0x42, Instr.fwInstall)], c.op = p.1 → Completes p.2 s (ends w · st info))

/-! ### Power, supervision and boot -/

/-- Parts of R172, R400, R417, R449, R478, R485, R501 to R508, R516, R517, in the cases that the premises name. Power-on
reset and power-good; the serial supplies; requests for low-power states, taken only where no condition of R503 fails;
wakes; monitors. Model's choices: log entries 25 and 67 to 70. -/
def Obligations.PowerStatesAndWakes : Prop :=
  ∀ (porst : Bool) (cause : Fin 2) (mode : Fin 4) (vctl vserh : Bool) (q : Fin 33) (v : Word) (port pin : Fin 32) (line : Fin 8)
    (rise : Bool) (supply : Fin 6) (tj : Byte) (rest : List Posted) (s : State),
    let p := port.val
    let pwr := s.fld F.SUP_PWR_STATE 0
    let u := s.landed q.val rest
    let asks (n : Nat) : Prop := s.writing q.val .sup 0 0x24 v rest ∧ bitsOf v.toNat 29 3 = n
    let met (n : Nat) : Prop := ∀ c, 1 ≤ c → c ≤ n → s.powerCond c = true
    let awake (src : Nat) (t : State) : Prop :=
      (pwr = 2 → t.fld F.SUP_PWR_STATE 0 = 0 ∧ s.thenRaises t 0x0C31 0 [2, src]) ∧
      (pwr = 3 → t.fld F.SUP_PWR_STATE 0 = 0 ∧ ∃ w : State, w.errq = s.errq ∧ t.errq = (w.raise 0x0C31 0 [3, src]).errq) ∧
      (pwr = 4 → s.hostSide.vctlLost = false → t.booting = some true ∧ t.wokeBy = some src ∧ t.fld F.SUP_RESET_CAUSE 0 = 2 ∧
        t.modePins = s.modePins ∧ t.caldera = [] ∧ t.seqs = []) ∧
      (pwr < 2 ∨ (pwr = 4 ∧ s.hostSide.vctlLost = true) → t = s)
    let en := if pin.val = 0 then F.PORT_WAKE_EN0 else F.PORT_WAKE_EN1
    let edge := if pin.val = 0 then F.PORT_WAKE_EDGE0 else F.PORT_WAKE_EDGE1
    Completes (.powerOnReset porst) s (fun t => t.fld F.SUP_RESET_CAUSE 0 = b2n porst ∧
      (∀ k, k ≠ fldKey F.SUP_RESET_CAUSE 0 0 → ∀ d : Nat, storeGet d t.regs k = d) ∧
      ((∀ b, b < 4 → (s.bank b).op = 0 ∧ (s.bank b).held = none) → s.flash.jobs = [] → t.flash = {
        mem := s.flash.mem, otp := s.flash.otp, wild := s.flash.wild, pages := s.flash.pages, params := s.flash.params
        burnt := s.flash.burnt }) ∧
      (∀ a, ((∃ j ∈ s.flash.jobs, ∃ v, j.fin = .otp a v) → a ∈ t.flash.burnt) ∧ (a ∈ s.flash.burnt → a ∈ t.flash.burnt)) ∧
      t = { pending := s.pending, free := s.free + s.flash.jobs.length, out := s.out, flash := t.flash, zones := t.zones, regs := t.regs
            flaws := s.flaws.filter (fun x => x.flash), tap := { trst := s.tap.trst } }) ∧
    (s.booting = none → s.ready 0 = false → pwr = 0 → Completes (.powerGood cause mode vctl) s (fun t =>
      t.fld F.SUP_RESET_CAUSE 0 = cause.val ∧ t.bit F.CHASSIS_STATUS_VCTL33 0 = vctl ∧
      s.regsKeep t [fldKey F.SUP_RESET_CAUSE 0 0, fldKey F.CHASSIS_STATUS_VCTL33 0 0] ∧
      t = { s with regs := t.regs, modePins := mode.val, booting := some true })) ∧
    ((∀ l, l < 8 → s.linkUp l = false) → Completes (.serdesSupplyLoss vserh) s (fun t =>
      (∀ l, l < 8 → t.fld F.LINK_STATUS_STATE l = 0) ∧ (if vserh then t.vserhLost else t.vserLost) = true ∧
      (s.bit F.HOST_PCIE_DLUP 0 = false → t.errq = s.errq ∧
        s.regsKeep t ((List.range 8).map (fun l => fldKey F.LINK_STATUS_STATE l 0))) ∧
      (s.bit F.HOST_PCIE_DLUP 0 = true → t.bit F.HOST_PCIE_DLUP 0 = false ∧ s.thenRaises t 0x0B0A 16384 [2]))) ∧
    ((if vserh then s.vserLost else s.vserhLost) = true → Completes (.serdesSupplyReturn vserh) s (fun t =>
      t = (if vserh then { s with vserhLost := false } else { s with vserLost := false }))) ∧
    ((if vserh then s.vserLost else s.vserhLost) = false → s.asleep = false → Completes (.serdesSupplyReturn vserh) s (fun t =>
      t.vserLost = false ∧ t.vserhLost = false ∧ s.regsKeep t ((List.range 8).map (fun l => fldKey F.LINK_STATUS_STATE l 0)) ∧
      ∀ l, l < 8 → t.fld F.LINK_STATUS_STATE l =
        (if s.bit F.LINK_CTRL_EN l = true ∧ s.fld F.LINK_STATUS_STATE l = 0 then 1 else s.fld F.LINK_STATUS_STATE l))) ∧
    (asks 0 → pwr = 2 → Completes (.run q v) s (fun t => t.fld F.SUP_PWR_STATE 0 = 0 ∧ s.thenRaises t 0x0C31 0 [2, 6])) ∧
    (asks 0 → pwr = 0 → Completes (.run q v) s (fun t => t.fld F.SUP_PWR_RMASK 0 = bitsOf v.toNat 8 8 ∧
      s.regsKeep t [fldKey F.SUP_PWR_RMASK 0 0] ∧ t = { u with regs := t.regs })) ∧
    (asks 2 → pwr = 0 → met 3 → Completes (.retain q v) s (fun t => t.fld F.SUP_PWR_STATE 0 = 2 ∧ t.errq = s.errq ∧
      (∀ g, g < 8 → bitOf v.toNat (8 + g) = true → s.group g = 0 → t.group g = 1) ∧
      (∀ g, g < 8 → bitOf v.toNat (8 + g) = false → t.group g = s.group g) ∧ t = { u with regs := t.regs })) ∧
    (asks 3 → pwr = 0 → met 5 → s.bit F.HOST_PCIE_DLUP 0 = false → (∀ l, l < 8 → s.linkUp l = false) →
      Completes (.sleep q v) s (fun t => t.fld F.SUP_PWR_STATE 0 = 3 ∧ (∀ k, k ∈ [5, 6, 7, 8, 9, 15] → t.ready k = false) ∧
        t.time.counting = false ∧ t.time.counter = s.time.counter ∧ t.caldera = s.caldera)) ∧
    (asks 4 → pwr = 0 → met 6 → s.bit F.HOST_PCIE_DLUP 0 = false → Completes (.standby q v) s (fun t =>
      t.fld F.SUP_PWR_STATE 0 = 4 ∧ t.ready 0 = false ∧ t.ready 1 = true ∧ t.ready 2 = true ∧ t.ready 3 = true ∧
      t.caldera = [] ∧ t.seqs = [] ∧ t.engines = [] ∧ t.time = {} ∧ t.hrdy = s.hrdy ∧ t.tickNo = s.tickNo ∧
      t.flash.mem = s.flash.mem ∧ t.flash.otp = s.flash.otp)) ∧
    (∀ n c, 2 ≤ n → n ≤ 4 → asks n → pwr = 0 → c ≤ (if n = 2 then 3 else if n = 3 then 5 else 6) → 1 ≤ c →
      s.powerCond c = false → met (c - 1) →
      ∀ x ∈ [(2, Instr.retain q v), (3, Instr.sleep q v), (4, Instr.standby q v)], n = x.1 → Completes x.2 s (fun t =>
        t.fld F.SUP_PWR_STATE 0 = 0 ∧ s.thenRaises t 0x0C30 0 [n, c])) ∧
    (pin.val < 2 → s.bit en p = true → s.bit edge p = !rise → s.vioOk p = true →
      Completes (.wakePin port pin rise) s (awake 5)) ∧
    (2 ≤ pin.val ∨ s.bit en p = false ∨ s.bit edge p = rise ∨ s.vioOk p = false → Completes (.wakePin port pin rise) s (· = s)) ∧
    (bitOf (s.fld F.CHASSIS_WAKE_EN 0) line.val = true → bitOf (s.fld F.CHASSIS_WAKE_EDGE 0) line.val = !rise →
      s.hostSide.vctlLost = false → Completes (.chassisWakeLine line rise) s (awake 5)) ∧
    (bitOf (s.fld F.CHASSIS_WAKE_EN 0) line.val = false ∨ bitOf (s.fld F.CHASSIS_WAKE_EDGE 0) line.val = rise ∨
      s.hostSide.vctlLost = true → Completes (.chassisWakeLine line rise) s (· = s)) ∧
    Completes (.supplyOutOfRange supply) s (fun t => bitOf (t.fld F.SUP_MON_OUT 0) supply.val = true ∧
      ∃ mv, s.thenRaises t 0x0C20 0 [supply.val, mv]) ∧
    Completes (.overtemperature tj) s (fun t => t.fld F.SUP_MON_TJ 0 = tj.toNat ∧ t.bit F.SUP_MON_HOT 0 = true ∧
      s.thenRaises t 0x0C21 0 [word tj.toInt])

/-- Parts of R54, R398 to R405, R476, R482, R484, R486 to R489, R494, R500, in the cases that the premises name. The
supervisor starts, with firmware or the recovery loader, after a power-on or a warm reset; a warm reset takes effect;
SAFE.CLR, OWNQADDR and SYNC.ARM. Model's choices: log entries 57, 71 and 79 to 83. -/
def Obligations.SupervisorStartsAndResets : Prop :=
  ∀ (entries : List (BitVec 256)) (q : Fin 33) (v : Word) (rest : List Posted) (s : State),
    let b := s.useSelector.showUid
    let u := s.landed q.val rest
    let runs (t : State) (n : Nat) : Prop := t.recovery = false ∧ t.booting = none ∧ t.ready 0 = true ∧
      (t.seq 32).st = .running ∧ (t.seq 32).pc = 0 ∧ ∃ w : State, t.fwVersion = imgNum (w.bootByte n) 4 2 ∧
        (∀ a, a < 2 ^ 21 → storeGet 0xFF w.flash.mem a = storeGet 0xFF s.flash.mem a) ∧
        (t.seq 32).imem = writeBytes [] 0 (imgBytes (w.bootByte n) 512 (imgNum (w.bootByte n) 8 4))
    (s.booting = none → Completes (.supervisorStart entries) s (· = s)) ∧
    (s.booting = some true → b.selector = none → Completes (.supervisorStart []) s (fun t => t.recovery = true ∧ t.cfgerr = true ∧
      t.booting = none ∧ t.hrdy = true ∧ t.ready 0 = true ∧ t.ready 1 = true ∧ t.ready 2 = true ∧ t.ready 3 = true ∧
      (s.wokeBy = none → s.arraySound = true → ∃ w : State, w.errq = s.errq ∧ t.errq = (w.raise 0x050A 19456 []).errq))) ∧
    (∀ x, s.booting = some true → b.selector = some x → s.modePins < 2 → (s.seq 32).st = .halted →
      (b.fwCheck x.actboot false = none → Completes (.supervisorStart []) s (fun t => runs t x.actboot ∧ t.hrdy = true ∧
        t.ready 1 = true ∧ t.ready 11 = true ∧ t.ready 12 = true ∧ t.loadDue = true ∧
        (∀ l, l < 8 → t.bit F.LINK_CTRL_EN l = true) ∧ t.fld F.FLASH_UID_LO_LO 0 = s.otpWord 0)) ∧
      (∀ k, b.fwCheck x.actboot false = some k → b.fwCheck (1 - x.actboot) false = none →
        Completes (.supervisorStart []) s (fun t =>
        runs t (1 - x.actboot) ∧ t.loadDue = true)) ∧
      (∀ k j, b.fwCheck x.actboot false = some k → b.fwCheck (1 - x.actboot) false = some j →
        Completes (.supervisorStart []) s (fun t =>
        t.recovery = true ∧ t.cfgerr = true ∧ t.loadDue = s.loadDue))) ∧
    (∀ x, s.booting = some true → b.selector = some x → 2 ≤ s.modePins → Completes (.supervisorStart []) s (fun t =>
      t.recovery = true ∧ t.cfgerr = true ∧ t.ready 0 = true)) ∧
    (∀ x, s.booting = some false → s.selector = some x → s.modePins < 2 → s.recovery = false →
      (s.seq 32).st = .halted → s.fwCheck x.actboot false = none →
      Completes (.supervisorStart []) s (fun t => t.recovery = false ∧ t.booting = none ∧ t.ready 0 = true ∧ t.ready 11 = true ∧
        t.ready 12 = true ∧ (t.seq 32).st = .running ∧ (t.seq 32).pc = 0 ∧ t.zones = s.zones ∧ t.caldera = s.caldera ∧
        (s.arraySound = true → s.thenRaises t 0x0C04 0 [s.fld F.SUP_RESET_CAUSE 0, s.fld F.SUP_RESET_WARMCNT 0]))) ∧
    (s.warm = none → Completes .warmResetEffect s (· = s)) ∧
    ((∃ k, k < 4 ∧ (s.bank k).op = 2) → Completes .warmResetEffect s (· = s)) ∧
    (∀ c, s.warm = some c → (∀ k, k < 4 → (s.bank k).op ≠ 2) → Completes .warmResetEffect s (fun t =>
      t.warm = none ∧ t.booting = some false ∧ t.fld F.SUP_RESET_CAUSE 0 = c % 8 ∧
      t.fld F.SUP_RESET_WARMCNT 0 = min (s.fld F.SUP_RESET_WARMCNT 0 + 1) 255 ∧
      (∀ i, i < 33 → (t.seq i).st = .halted) ∧ (∀ e, e < 16 → t.seState e = 0) ∧ (∀ n, n < 32 → t.fld F.PORT_LOCKED_MASK n = 0) ∧
      t.ready 0 = false ∧ t.ready 11 = false ∧ t.ready 12 = false ∧ (∀ k, k < 4 → t.fldI F.HOST_SESS_OPEN 0 k = 0) ∧
      t.flash.queue = [] ∧ t.flash.jobs = [] ∧ (∀ k, k < 4 → (t.bank k).op = 0 ∧ (t.bank k).held = none))) ∧
    (s.writing q.val .sup 0 0x20 v rest → bitOf v.toNat 0 = true → Completes (.safeClr q v) s (fun t =>
      t.bit F.SUP_SAFE_ACTIVE 0 = false ∧ t.bit F.SUP_SAFE_FAULTN 0 = false ∧ t.fld F.SUP_RESET_FATALCNT 0 = 0 ∧
      s.regsKeep t [fldKey F.SUP_SAFE_ACTIVE 0 0, fldKey F.SUP_SAFE_FAULTN 0 0, fldKey F.SUP_RESET_FATALCNT 0 0] ∧
      t = { u with regs := t.regs })) ∧
    (s.writing q.val .sup 0 0x20 v rest → bitOf v.toNat 0 = false → Completes (.safeClr q v) s (· = u)) ∧
    (s.writing q.val .sup 0 0x28 v rest → Completes (.ownqaddr q v) s (fun t => t.fld F.SUP_OWNQADDR_ADDR 0 = v.toNat ∧
      t.bit F.SUP_OWNQ_VALID 0 = (cfgDecode (v.toNat % 2 ^ 31)).isSome ∧
      s.regsKeep t [fldKey F.SUP_OWNQADDR_ADDR 0 0, fldKey F.SUP_OWNQ_VALID 0 0] ∧ t = { u with regs := t.regs })) ∧
    (s.writing q.val .chassis 0 8 v rest →
      (bitOf v.toNat 31 = true → s.constOwn = false → Completes (.syncArm q v) s (fun t =>
        t.bit F.CHASSIS_SYNC_ARM 0 = true ∧ t.bit F.CHASSIS_STATUS_ARMED 0 = true ∧ t.fld F.CHASSIS_SYNC_TRIG 0 = v.toNat % 8 ∧
        s.regsKeep t [fldKey F.CHASSIS_SYNC_ARM 0 0, fldKey F.CHASSIS_STATUS_ARMED 0 0, fldKey F.CHASSIS_SYNC_TRIG 0 0] ∧
        t = { u with regs := t.regs, hostSide := { s.hostSide with armAt := s.tickNo } })) ∧
      (bitOf v.toNat 31 = true → s.constOwn = true → Completes (.syncArm q v) s (fun t =>
        s.thenRaises t 0x0109 1024 [0x810008] ∧ t.bit F.CHASSIS_SYNC_ARM 0 = s.bit F.CHASSIS_SYNC_ARM 0)) ∧
      (bitOf v.toNat 31 = false → Completes (.syncArm q v) s (fun t => t.fld F.CHASSIS_SYNC_TRIG 0 = v.toNat % 8 ∧
        s.regsKeep t [fldKey F.CHASSIS_SYNC_TRIG 0 0] ∧ t = { u with regs := t.regs })))
end

