-- ==== Sys2Proof/Laws/Store.lean ====
section
/-! SUPPORT. Sparse tables: what a write leaves, and that every operation on them keeps the canonical form. -/

namespace Sys2Proof.Machine

variable {α : Type}

/-! ### What a key reads -/

@[simp] theorem storeGet_nil (d : α) (k : Nat) : storeGet d [] k = d := rfl

theorem storeGet_erase_same (d : α) (m : Store α) (k : Nat) : storeGet d (storeErase m k) k = d := by
  induction m with
  | nil => rfl
  | cons c t ih =>
    obtain ⟨k', v⟩ := c
    by_cases h : k' = k <;> simp [storeErase, storeGet, h, ih]

theorem storeGet_erase_other (d : α) (m : Store α) {k j : Nat} (h : j ≠ k) :
    storeGet d (storeErase m k) j = storeGet d m j := by
  induction m with
  | nil => rfl
  | cons c t ih =>
    obtain ⟨k', v⟩ := c
    by_cases hk : k' = k
    · subst hk
      simp [storeErase, storeGet, ih, Ne.symm h]
    · simp only [storeErase, hk, if_false, storeGet, ih]

theorem storeGet_insert_same (d : α) (m : Store α) (k : Nat) (v : α) : storeGet d (storeInsert m k v) k = v := by
  induction m with
  | nil => simp [storeInsert, storeGet]
  | cons c t ih =>
    obtain ⟨k', w⟩ := c
    by_cases h : k' = k
    · simp [storeInsert, storeGet, h]
    · by_cases h' : k < k' <;> simp [storeInsert, storeGet, h, h', ih]

theorem storeGet_insert_other (d : α) (m : Store α) {k j : Nat} (v : α) (h : j ≠ k) :
    storeGet d (storeInsert m k v) j = storeGet d m j := by
  induction m with
  | nil => simp [storeInsert, storeGet, Ne.symm h]
  | cons c t ih =>
    obtain ⟨k', w⟩ := c
    by_cases hk : k' = k
    · subst hk
      simp [storeInsert, storeGet, Ne.symm h]
    · by_cases h' : k < k'
      · simp [storeInsert, storeGet, hk, h', Ne.symm h]
      · simp only [storeInsert, hk, h', if_false, storeGet, ih]

variable [DecidableEq α]

/-- A key reads what was written to it. -/
@[simp] theorem storeGet_set_same (d : α) (m : Store α) (k : Nat) (v : α) : storeGet d (storeSet d m k v) k = v := by
  by_cases h : v = d
  · subst h
    simp [storeSet, storeGet_erase_same]
  · simp [storeSet, h, storeGet_insert_same]

/-- Every other key reads what it read before. -/
theorem storeGet_set_other (d : α) (m : Store α) {k j : Nat} (v : α) (h : j ≠ k) :
    storeGet d (storeSet d m k v) j = storeGet d m j := by
  by_cases hv : v = d
  · simp [storeSet, hv, storeGet_erase_other _ _ h]
  · simp [storeSet, hv, storeGet_insert_other _ _ _ h]

/-! ### The canonical form -/

omit [DecidableEq α] in
theorem storeSorted_tail {c : Nat × α} {t : Store α} (h : storeSorted (c :: t) = true) : storeSorted t = true := by
  cases t with
  | nil => rfl
  | cons d t => simp [storeSorted] at h; exact h.2

omit [DecidableEq α] in
/-- In a sorted table every later key is greater. -/
theorem storeSorted_lt {k : Nat} {v : α} {t : Store α} (h : storeSorted ((k, v) :: t) = true) :
    ∀ c ∈ t, k < c.1 := by
  induction t generalizing k v with
  | nil => simp
  | cons d t ih =>
    obtain ⟨k', v'⟩ := d
    simp only [storeSorted, Bool.and_eq_true, decide_eq_true_eq] at h
    intro c hc
    rcases List.mem_cons.mp hc with rfl | hc
    · exact h.1
    · exact Nat.lt_trans h.1 (ih h.2 c hc)

omit [DecidableEq α] in
theorem storeSorted_cons {k : Nat} {v : α} {t : Store α} (h : storeSorted t = true) (hk : ∀ c ∈ t, k < c.1) :
    storeSorted ((k, v) :: t) = true := by
  cases t with
  | nil => rfl
  | cons d t => simpa [storeSorted, h] using hk d (by simp)

omit [DecidableEq α] in
theorem mem_storeErase {m : Store α} {k : Nat} {c : Nat × α} (h : c ∈ storeErase m k) : c ∈ m := by
  induction m with
  | nil => exact h
  | cons d t ih =>
    obtain ⟨k', v⟩ := d
    by_cases hk : k' = k
    · simp only [storeErase, hk, if_true] at h
      exact List.mem_cons_of_mem _ (ih h)
    · simp only [storeErase, hk, if_false, List.mem_cons] at h
      rcases h with rfl | h
      · simp
      · exact List.mem_cons_of_mem _ (ih h)

omit [DecidableEq α] in
theorem mem_storeInsert {m : Store α} {k : Nat} {v : α} {c : Nat × α} (h : c ∈ storeInsert m k v) : c = (k, v) ∨ c ∈ m := by
  induction m with
  | nil => simpa [storeInsert] using h
  | cons d t ih =>
    obtain ⟨k', w⟩ := d
    by_cases hk : k' = k
    · simp only [storeInsert, hk, if_true, List.mem_cons] at h
      rcases h with h | h
      · exact Or.inl h
      · exact Or.inr (List.mem_cons_of_mem _ h)
    · by_cases h' : k < k'
      · simpa [storeInsert, hk, h'] using h
      · simp only [storeInsert, hk, h', if_false, List.mem_cons] at h
        rcases h with rfl | h
        · simp
        · rcases ih h with h | h
          · exact Or.inl h
          · exact Or.inr (List.mem_cons_of_mem _ h)

omit [DecidableEq α] in
theorem storeSorted_erase {m : Store α} (k : Nat) (h : storeSorted m = true) : storeSorted (storeErase m k) = true := by
  induction m with
  | nil => rfl
  | cons d t ih =>
    obtain ⟨k', v⟩ := d
    have ht := ih (storeSorted_tail h)
    by_cases hk : k' = k
    · simpa [storeErase, hk] using ht
    · simp only [storeErase, hk, if_false]
      exact storeSorted_cons ht (fun c hc => storeSorted_lt h c (mem_storeErase hc))

omit [DecidableEq α] in
theorem storeSorted_insert {m : Store α} (k : Nat) (v : α) (h : storeSorted m = true) :
    storeSorted (storeInsert m k v) = true := by
  induction m with
  | nil => rfl
  | cons d t ih =>
    obtain ⟨k', w⟩ := d
    have ht := storeSorted_tail h
    have hlt := storeSorted_lt h
    by_cases hk : k' = k
    · simp only [storeInsert, hk, if_true]
      exact storeSorted_cons ht (fun c hc => hk ▸ hlt c hc)
    · by_cases h' : k < k'
      · simp only [storeInsert, hk, h', if_false, if_true]
        refine storeSorted_cons h (fun c hc => ?_)
        rcases List.mem_cons.mp hc with rfl | hc
        · exact h'
        · exact Nat.lt_trans h' (hlt c hc)
      · simp only [storeInsert, hk, h', if_false]
        refine storeSorted_cons (ih ht) (fun c hc => ?_)
        rcases mem_storeInsert hc with rfl | hc
        · show k' < k
          omega
        · exact hlt c hc

/-- A write keeps the canonical form. -/
theorem storeWf_set (d : α) {m : Store α} (k : Nat) (v : α) (h : storeWf d m = true) : storeWf d (storeSet d m k v) = true := by
  simp only [storeWf, Bool.and_eq_true, List.all_eq_true, decide_eq_true_eq] at h ⊢
  by_cases hv : v = d
  · simp only [storeSet, hv, if_true]
    exact ⟨storeSorted_erase k h.1, fun c hc => h.2 c (mem_storeErase hc)⟩
  · simp only [storeSet, hv, if_false]
    refine ⟨storeSorted_insert k v h.1, fun c hc => ?_⟩
    rcases mem_storeInsert hc with rfl | hc
    · exact hv
    · exact h.2 c hc

theorem storeWf_erase (d : α) {m : Store α} (k : Nat) (h : storeWf d m = true) : storeWf d (storeErase m k) = true := by
  simp only [storeWf, Bool.and_eq_true, List.all_eq_true, decide_eq_true_eq] at h ⊢
  exact ⟨storeSorted_erase k h.1, fun c hc => h.2 c (mem_storeErase hc)⟩

/-- Keeping only some entries keeps the canonical form. -/
theorem storeWf_filter (d : α) {m : Store α} (p : Nat × α → Bool) (h : storeWf d m = true) :
    storeWf d (m.filter p) = true := by
  simp only [storeWf, Bool.and_eq_true, List.all_eq_true, decide_eq_true_eq] at h ⊢
  refine ⟨?_, fun c hc => h.2 c (List.mem_of_mem_filter hc)⟩
  obtain ⟨h, -⟩ := h
  induction m with
  | nil => rfl
  | cons a t ih =>
    obtain ⟨k, v⟩ := a
    have ht := ih (storeSorted_tail h)
    by_cases hp : p (k, v) = true
    · simp only [List.filter_cons, hp, if_true]
      exact storeSorted_cons ht (fun c hc => storeSorted_lt h c (List.mem_of_mem_filter hc))
    · simpa [List.filter_cons, hp] using ht

/-! ### Byte memories -/

/-- Writing bytes keeps the canonical form of a byte memory. -/
theorem storeWf_writeBytes {m : Store Byte} (a : Nat) (bs : List Byte) (h : storeWf 0 m = true) :
    storeWf 0 (writeBytes m a bs) = true := by
  induction bs generalizing m a with
  | nil => exact h
  | cons b t ih => exact ih (a + 1) (storeWf_set 0 a b h)

/-- A byte outside the bytes written reads as before. -/
theorem storeGet_writeBytes_other (m : Store Byte) (a : Nat) (bs : List Byte) {j : Nat} (h : j < a ∨ a + bs.length ≤ j) :
    storeGet 0 (writeBytes m a bs) j = storeGet 0 m j := by
  induction bs generalizing m a with
  | nil => rfl
  | cons b t ih =>
    simp only [List.length_cons] at h
    rw [writeBytes, ih _ _ (by omega), storeGet_set_other _ _ _ (by omega)]

/-- A byte written reads as it was written. -/
theorem storeGet_writeBytes_same (m : Store Byte) (a : Nat) (bs : List Byte) {i : Nat} (h : i < bs.length) :
    storeGet 0 (writeBytes m a bs) (a + i) = bs[i] := by
  induction bs generalizing m a i with
  | nil => simp at h
  | cons b t ih =>
    cases i with
    | zero => rw [writeBytes, storeGet_writeBytes_other _ _ _ (by omega)]; simp
    | succ i =>
      have := ih (storeSet 0 m a b) (a + 1) (i := i) (by simpa using h)
      rw [writeBytes, show a + (i + 1) = a + 1 + i by omega, this]
      simp

end Sys2Proof.Machine
end

