-- ==== Sys2Proof/Laws/Flash.lean ====
section
/-! SUPPORT. Reading the flash array where no page is of undefined content, and finding the selector record. -/

namespace Sys2Proof.Machine

/-- A byte of a page of defined content reads as the array holds it. -/
theorem flashByte_plain (s : State) (a : Nat) (h : s.pageWild (a / 512) = false) : s.flashByte a = storeGet 0xFF s.flash.mem a := by
  simp [State.flashByte, h]

/-- A page is of defined content where none is listed otherwise and its block is not undefined. -/
theorem pageWild_none (s : State) (p : Nat) (hw : s.flash.wild = []) (hu : s.undef (p / 256) = false) : s.pageWild p = false := by
  simp [State.pageWild, hw, hu]

/-- A page of defined content reads as the array holds it. -/
theorem pageOf_plain (s : State) (p : Nat) (h : s.pageWild p = false) :
    s.pageOf p = (List.range 512).map (fun i => storeGet 0xFF s.flash.mem (512 * p + i)) := by
  simp only [State.pageOf, h, Bool.false_eq_true, if_false, State.flashBytes]
  apply List.map_congr_left
  intro i hi
  have : (512 * p + i) / 512 = p := by have := List.mem_range.1 hi; omega
  exact flashByte_plain s _ (by rw [this]; exact h)

/-- The first page of a boot block reads as the array holds it where it is of defined content. -/
theorem bootBytes_plain (s : State) (b a n : Nat) (hn : a + n ≤ 512) (h : s.pageWild (2048 * b) = false) :
    imgBytes (s.bootByte b) a n = (List.range n).map (fun i => storeGet 0xFF s.flash.mem (0x100000 * b + (a + i))) := by
  apply List.map_congr_left
  intro i hi
  have : (0x100000 * b + (a + i)) / 512 = 2048 * b := by have := List.mem_range.1 hi; omega
  exact flashByte_plain s _ (by rw [this]; exact h)

/-- A key that no entry has reads as unlisted. -/
theorem storeGet_absent {α : Type} (d : α) (m : Store α) (k : Nat) (h : ∀ c ∈ m, c.1 ≠ k) : storeGet d m k = d := by
  induction m with
  | nil => rfl
  | cons c t ih =>
    obtain ⟨k', v⟩ := c
    simp only [storeGet, h (k', v) (List.mem_cons_self ..), if_false]
    exact ih (fun c hc => h c (List.mem_cons_of_mem _ hc))

/-- A page whose first byte is as erased holds no selector record. -/
theorem selOk_erased (f : Nat → Byte) (h : f 0 = 0xFF) : selOk ((List.range 512).map f) = false := by
  have e : pieceNum ((List.range 512).map f) 0 4 = leNat ((List.range 4).map f) := by
    rw [pieceNum, piece, List.drop_zero, ← List.map_take, List.take_range]; rfl
  have e4 : List.range 4 = [0, 1, 2, 3] := rfl
  have e8 : (0xFF : Byte).toNat = 255 := rfl
  simp only [selOk, Bool.and_eq_false_iff, decide_eq_false_iff_not]
  left
  rw [e, e4]
  simp only [List.map_cons, leNat, h]
  omega

/-- The selector record is found where one page alone holds one. -/
theorem selFind_only (s : State) (hw : s.flash.wild = []) (h0 : s.undef 192 = false) (h1 : s.undef 193 = false)
    (hs : selOk (s.pageOf 49152) = true)
    (h : ∀ p, 49152 < p → p < 49664 → storeGet (0xFF : Byte) s.flash.mem (512 * p) = 0xFF) : s.selFind = some 49152 := by
  have e : ((List.range 512).map (fun i => 192 * 256 + i)).filter (fun p => selOk (s.pageOf p)) = [49152] := by
    rw [show (512 : Nat) = 511 + 1 from rfl, List.range_succ_eq_map]
    simp only [List.map_cons, List.map_map]
    rw [List.filter_cons_of_pos (by simpa using hs), List.filter_eq_nil_iff.2]
    intro p hp
    obtain ⟨i, hi, rfl⟩ := List.mem_map.1 hp
    have hi := List.mem_range.1 hi
    have hu : s.undef ((192 * 256 + (i + 1)) / 256) = false := by
      rcases (by omega : (192 * 256 + (i + 1)) / 256 = 192 ∨ (192 * 256 + (i + 1)) / 256 = 193) with e | e <;> rw [e] <;> assumption
    simp only [Function.comp_apply, Nat.succ_eq_add_one, Bool.not_eq_true]
    rw [pageOf_plain s _ (pageWild_none s _ hw hu)]
    exact selOk_erased _ (h _ (by omega) (by omega))
  simp only [State.selFind, e, List.foldl_cons, List.foldl_nil]

end Sys2Proof.Machine
end

