-- ==== Sys2Proof/Laws/State.lean ====
section
/-! SUPPORT. What each setter of the state leaves alone: one lemma per setter and field, true by rfl, and what it sets. -/

namespace Sys2Proof.Machine

@[simp] theorem State.setFldI_pending (s : State) (f : Fld) (n i v : Nat) : (s.setFldI f n i v).pending = s.pending := rfl
@[simp] theorem State.setFldI_tickNo (s : State) (f : Fld) (n i v : Nat) : (s.setFldI f n i v).tickNo = s.tickNo := rfl
@[simp] theorem State.setFldI_free (s : State) (f : Fld) (n i v : Nat) : (s.setFldI f n i v).free = s.free := rfl
@[simp] theorem State.setFldI_staged (s : State) (f : Fld) (n i v : Nat) : (s.setFldI f n i v).staged = s.staged := rfl
@[simp] theorem State.setFldI_prior (s : State) (f : Fld) (n i v : Nat) : (s.setFldI f n i v).prior = s.prior := rfl
@[simp] theorem State.setFldI_begun (s : State) (f : Fld) (n i v : Nat) : (s.setFldI f n i v).begun = s.begun := rfl
@[simp] theorem State.setFldI_arms (s : State) (f : Fld) (n i v : Nat) : (s.setFldI f n i v).arms = s.arms := rfl
@[simp] theorem State.setFldI_owners (s : State) (f : Fld) (n i v : Nat) : (s.setFldI f n i v).owners = s.owners := rfl
@[simp] theorem State.setFldI_time (s : State) (f : Fld) (n i v : Nat) : (s.setFldI f n i v).time = s.time := rfl
@[simp] theorem State.setFldI_mplls (s : State) (f : Fld) (n i v : Nat) : (s.setFldI f n i v).mplls = s.mplls := rfl
@[simp] theorem State.setFldI_trackers (s : State) (f : Fld) (n i v : Nat) : (s.setFldI f n i v).trackers = s.trackers := rfl
@[simp] theorem State.setFldI_sills (s : State) (f : Fld) (n i v : Nat) : (s.setFldI f n i v).sills = s.sills := rfl
@[simp] theorem State.setFldI_ports (s : State) (f : Fld) (n i v : Nat) : (s.setFldI f n i v).ports = s.ports := rfl
@[simp] theorem State.setFldI_atns (s : State) (f : Fld) (n i v : Nat) : (s.setFldI f n i v).atns = s.atns := rfl
@[simp] theorem State.setFldI_seqs (s : State) (f : Fld) (n i v : Nat) : (s.setFldI f n i v).seqs = s.seqs := rfl
@[simp] theorem State.setFldI_lane (s : State) (f : Fld) (n i v : Nat) : (s.setFldI f n i v).lane = s.lane := rfl
@[simp] theorem State.setFldI_commits (s : State) (f : Fld) (n i v : Nat) : (s.setFldI f n i v).commits = s.commits := rfl
@[simp] theorem State.setFldI_laneLast (s : State) (f : Fld) (n i v : Nat) : (s.setFldI f n i v).laneLast = s.laneLast := rfl
@[simp] theorem State.setFldI_laneDown (s : State) (f : Fld) (n i v : Nat) : (s.setFldI f n i v).laneDown = s.laneDown := rfl
@[simp] theorem State.setFldI_gwEntries (s : State) (f : Fld) (n i v : Nat) : (s.setFldI f n i v).gwEntries = s.gwEntries := rfl
@[simp] theorem State.setFldI_caldera (s : State) (f : Fld) (n i v : Nat) : (s.setFldI f n i v).caldera = s.caldera := rfl
@[simp] theorem State.setFldI_bus (s : State) (f : Fld) (n i v : Nat) : (s.setFldI f n i v).bus = s.bus := rfl
@[simp] theorem State.setFldI_ringOld (s : State) (f : Fld) (n i v : Nat) : (s.setFldI f n i v).ringOld = s.ringOld := rfl
@[simp] theorem State.setFldI_ringWaits (s : State) (f : Fld) (n i v : Nat) : (s.setFldI f n i v).ringWaits = s.ringWaits := rfl
@[simp] theorem State.setFldI_flaws (s : State) (f : Fld) (n i v : Nat) : (s.setFldI f n i v).flaws = s.flaws := rfl
@[simp] theorem State.setFldI_watermarks (s : State) (f : Fld) (n i v : Nat) : (s.setFldI f n i v).watermarks = s.watermarks := rfl
@[simp] theorem State.setFldI_errq (s : State) (f : Fld) (n i v : Nat) : (s.setFldI f n i v).errq = s.errq := rfl
@[simp] theorem State.setFldI_cpNotes (s : State) (f : Fld) (n i v : Nat) : (s.setFldI f n i v).cpNotes = s.cpNotes := rfl
@[simp] theorem State.setFldI_pcNotes (s : State) (f : Fld) (n i v : Nat) : (s.setFldI f n i v).pcNotes = s.pcNotes := rfl
@[simp] theorem State.setFldI_cpNoteOvf (s : State) (f : Fld) (n i v : Nat) : (s.setFldI f n i v).cpNoteOvf = s.cpNoteOvf := rfl
@[simp] theorem State.setFldI_pcNoteOvf (s : State) (f : Fld) (n i v : Nat) : (s.setFldI f n i v).pcNoteOvf = s.pcNoteOvf := rfl
@[simp] theorem State.setFldI_hrdy (s : State) (f : Fld) (n i v : Nat) : (s.setFldI f n i v).hrdy = s.hrdy := rfl
@[simp] theorem State.setFldI_blinks (s : State) (f : Fld) (n i v : Nat) : (s.setFldI f n i v).blinks = s.blinks := rfl
@[simp] theorem State.setFldI_msixMask (s : State) (f : Fld) (n i v : Nat) : (s.setFldI f n i v).msixMask = s.msixMask := rfl
@[simp] theorem State.setFldI_msixPend (s : State) (f : Fld) (n i v : Nat) : (s.setFldI f n i v).msixPend = s.msixPend := rfl
@[simp] theorem State.setFldI_out (s : State) (f : Fld) (n i v : Nat) : (s.setFldI f n i v).out = s.out := rfl
@[simp] theorem State.setFldI_swaps (s : State) (f : Fld) (n i v : Nat) : (s.setFldI f n i v).swaps = s.swaps := rfl
@[simp] theorem State.setFldI_zones (s : State) (f : Fld) (n i v : Nat) : (s.setFldI f n i v).zones = s.zones := rfl
@[simp] theorem State.setFldI_load (s : State) (f : Fld) (n i v : Nat) : (s.setFldI f n i v).load = s.load := rfl
@[simp] theorem State.setFldI_survey (s : State) (f : Fld) (n i v : Nat) : (s.setFldI f n i v).survey = s.survey := rfl
@[simp] theorem State.setFldI_swept (s : State) (f : Fld) (n i v : Nat) : (s.setFldI f n i v).swept = s.swept := rfl
@[simp] theorem State.setFldI_engines (s : State) (f : Fld) (n i v : Nat) : (s.setFldI f n i v).engines = s.engines := rfl
@[simp] theorem State.setFldI_flash (s : State) (f : Fld) (n i v : Nat) : (s.setFldI f n i v).flash = s.flash := rfl
@[simp] theorem State.setFldI_modePins (s : State) (f : Fld) (n i v : Nat) : (s.setFldI f n i v).modePins = s.modePins := rfl
@[simp] theorem State.setFldI_recovery (s : State) (f : Fld) (n i v : Nat) : (s.setFldI f n i v).recovery = s.recovery := rfl
@[simp] theorem State.setFldI_cfgerr (s : State) (f : Fld) (n i v : Nat) : (s.setFldI f n i v).cfgerr = s.cfgerr := rfl
@[simp] theorem State.setFldI_hostSide (s : State) (f : Fld) (n i v : Nat) : (s.setFldI f n i v).hostSide = s.hostSide := rfl
@[simp] theorem State.setFldI_loadDue (s : State) (f : Fld) (n i v : Nat) : (s.setFldI f n i v).loadDue = s.loadDue := rfl
@[simp] theorem State.setFldI_rebuilds (s : State) (f : Fld) (n i v : Nat) : (s.setFldI f n i v).rebuilds = s.rebuilds := rfl
@[simp] theorem State.setFldI_booted (s : State) (f : Fld) (n i v : Nat) : (s.setFldI f n i v).booted = s.booted := rfl
@[simp] theorem State.setFldI_rebuilt (s : State) (f : Fld) (n i v : Nat) : (s.setFldI f n i v).rebuilt = s.rebuilt := rfl
@[simp] theorem State.setFldI_audit (s : State) (f : Fld) (n i v : Nat) : (s.setFldI f n i v).audit = s.audit := rfl
@[simp] theorem State.setFldI_fwVersion (s : State) (f : Fld) (n i v : Nat) : (s.setFldI f n i v).fwVersion = s.fwVersion := rfl
@[simp] theorem State.setFldI_booting (s : State) (f : Fld) (n i v : Nat) : (s.setFldI f n i v).booting = s.booting := rfl
@[simp] theorem State.setFldI_wokeBy (s : State) (f : Fld) (n i v : Nat) : (s.setFldI f n i v).wokeBy = s.wokeBy := rfl
@[simp] theorem State.setFldI_warm (s : State) (f : Fld) (n i v : Nat) : (s.setFldI f n i v).warm = s.warm := rfl
@[simp] theorem State.setFldI_fatalFirst (s : State) (f : Fld) (n i v : Nat) : (s.setFldI f n i v).fatalFirst = s.fatalFirst := rfl
@[simp] theorem State.setFldI_kickAt (s : State) (f : Fld) (n i v : Nat) : (s.setFldI f n i v).kickAt = s.kickAt := rfl
@[simp] theorem State.setFldI_wdogOut (s : State) (f : Fld) (n i v : Nat) : (s.setFldI f n i v).wdogOut = s.wdogOut := rfl
@[simp] theorem State.setFldI_errWritten (s : State) (f : Fld) (n i v : Nat) : (s.setFldI f n i v).errWritten = s.errWritten := rfl
@[simp] theorem State.setFldI_links (s : State) (f : Fld) (n i v : Nat) : (s.setFldI f n i v).links = s.links := rfl
@[simp] theorem State.setFldI_const (s : State) (f : Fld) (n i v : Nat) : (s.setFldI f n i v).const = s.const := rfl
@[simp] theorem State.setFldI_vserLost (s : State) (f : Fld) (n i v : Nat) : (s.setFldI f n i v).vserLost = s.vserLost := rfl
@[simp] theorem State.setFldI_vserhLost (s : State) (f : Fld) (n i v : Nat) : (s.setFldI f n i v).vserhLost = s.vserhLost := rfl
@[simp] theorem State.setFldI_tap (s : State) (f : Fld) (n i v : Nat) : (s.setFldI f n i v).tap = s.tap := rfl

@[simp] theorem State.setFld_pending (s : State) (f : Fld) (n v : Nat) : (s.setFld f n v).pending = s.pending := rfl
@[simp] theorem State.setFld_tickNo (s : State) (f : Fld) (n v : Nat) : (s.setFld f n v).tickNo = s.tickNo := rfl
@[simp] theorem State.setFld_free (s : State) (f : Fld) (n v : Nat) : (s.setFld f n v).free = s.free := rfl
@[simp] theorem State.setFld_staged (s : State) (f : Fld) (n v : Nat) : (s.setFld f n v).staged = s.staged := rfl
@[simp] theorem State.setFld_prior (s : State) (f : Fld) (n v : Nat) : (s.setFld f n v).prior = s.prior := rfl
@[simp] theorem State.setFld_begun (s : State) (f : Fld) (n v : Nat) : (s.setFld f n v).begun = s.begun := rfl
@[simp] theorem State.setFld_arms (s : State) (f : Fld) (n v : Nat) : (s.setFld f n v).arms = s.arms := rfl
@[simp] theorem State.setFld_owners (s : State) (f : Fld) (n v : Nat) : (s.setFld f n v).owners = s.owners := rfl
@[simp] theorem State.setFld_time (s : State) (f : Fld) (n v : Nat) : (s.setFld f n v).time = s.time := rfl
@[simp] theorem State.setFld_mplls (s : State) (f : Fld) (n v : Nat) : (s.setFld f n v).mplls = s.mplls := rfl
@[simp] theorem State.setFld_trackers (s : State) (f : Fld) (n v : Nat) : (s.setFld f n v).trackers = s.trackers := rfl
@[simp] theorem State.setFld_sills (s : State) (f : Fld) (n v : Nat) : (s.setFld f n v).sills = s.sills := rfl
@[simp] theorem State.setFld_ports (s : State) (f : Fld) (n v : Nat) : (s.setFld f n v).ports = s.ports := rfl
@[simp] theorem State.setFld_atns (s : State) (f : Fld) (n v : Nat) : (s.setFld f n v).atns = s.atns := rfl
@[simp] theorem State.setFld_seqs (s : State) (f : Fld) (n v : Nat) : (s.setFld f n v).seqs = s.seqs := rfl
@[simp] theorem State.setFld_lane (s : State) (f : Fld) (n v : Nat) : (s.setFld f n v).lane = s.lane := rfl
@[simp] theorem State.setFld_commits (s : State) (f : Fld) (n v : Nat) : (s.setFld f n v).commits = s.commits := rfl
@[simp] theorem State.setFld_laneLast (s : State) (f : Fld) (n v : Nat) : (s.setFld f n v).laneLast = s.laneLast := rfl
@[simp] theorem State.setFld_laneDown (s : State) (f : Fld) (n v : Nat) : (s.setFld f n v).laneDown = s.laneDown := rfl
@[simp] theorem State.setFld_gwEntries (s : State) (f : Fld) (n v : Nat) : (s.setFld f n v).gwEntries = s.gwEntries := rfl
@[simp] theorem State.setFld_caldera (s : State) (f : Fld) (n v : Nat) : (s.setFld f n v).caldera = s.caldera := rfl
@[simp] theorem State.setFld_bus (s : State) (f : Fld) (n v : Nat) : (s.setFld f n v).bus = s.bus := rfl
@[simp] theorem State.setFld_ringOld (s : State) (f : Fld) (n v : Nat) : (s.setFld f n v).ringOld = s.ringOld := rfl
@[simp] theorem State.setFld_ringWaits (s : State) (f : Fld) (n v : Nat) : (s.setFld f n v).ringWaits = s.ringWaits := rfl
@[simp] theorem State.setFld_flaws (s : State) (f : Fld) (n v : Nat) : (s.setFld f n v).flaws = s.flaws := rfl
@[simp] theorem State.setFld_watermarks (s : State) (f : Fld) (n v : Nat) : (s.setFld f n v).watermarks = s.watermarks := rfl
@[simp] theorem State.setFld_errq (s : State) (f : Fld) (n v : Nat) : (s.setFld f n v).errq = s.errq := rfl
@[simp] theorem State.setFld_cpNotes (s : State) (f : Fld) (n v : Nat) : (s.setFld f n v).cpNotes = s.cpNotes := rfl
@[simp] theorem State.setFld_pcNotes (s : State) (f : Fld) (n v : Nat) : (s.setFld f n v).pcNotes = s.pcNotes := rfl
@[simp] theorem State.setFld_cpNoteOvf (s : State) (f : Fld) (n v : Nat) : (s.setFld f n v).cpNoteOvf = s.cpNoteOvf := rfl
@[simp] theorem State.setFld_pcNoteOvf (s : State) (f : Fld) (n v : Nat) : (s.setFld f n v).pcNoteOvf = s.pcNoteOvf := rfl
@[simp] theorem State.setFld_hrdy (s : State) (f : Fld) (n v : Nat) : (s.setFld f n v).hrdy = s.hrdy := rfl
@[simp] theorem State.setFld_blinks (s : State) (f : Fld) (n v : Nat) : (s.setFld f n v).blinks = s.blinks := rfl
@[simp] theorem State.setFld_msixMask (s : State) (f : Fld) (n v : Nat) : (s.setFld f n v).msixMask = s.msixMask := rfl
@[simp] theorem State.setFld_msixPend (s : State) (f : Fld) (n v : Nat) : (s.setFld f n v).msixPend = s.msixPend := rfl
@[simp] theorem State.setFld_out (s : State) (f : Fld) (n v : Nat) : (s.setFld f n v).out = s.out := rfl
@[simp] theorem State.setFld_swaps (s : State) (f : Fld) (n v : Nat) : (s.setFld f n v).swaps = s.swaps := rfl
@[simp] theorem State.setFld_zones (s : State) (f : Fld) (n v : Nat) : (s.setFld f n v).zones = s.zones := rfl
@[simp] theorem State.setFld_load (s : State) (f : Fld) (n v : Nat) : (s.setFld f n v).load = s.load := rfl
@[simp] theorem State.setFld_survey (s : State) (f : Fld) (n v : Nat) : (s.setFld f n v).survey = s.survey := rfl
@[simp] theorem State.setFld_swept (s : State) (f : Fld) (n v : Nat) : (s.setFld f n v).swept = s.swept := rfl
@[simp] theorem State.setFld_engines (s : State) (f : Fld) (n v : Nat) : (s.setFld f n v).engines = s.engines := rfl
@[simp] theorem State.setFld_flash (s : State) (f : Fld) (n v : Nat) : (s.setFld f n v).flash = s.flash := rfl
@[simp] theorem State.setFld_modePins (s : State) (f : Fld) (n v : Nat) : (s.setFld f n v).modePins = s.modePins := rfl
@[simp] theorem State.setFld_recovery (s : State) (f : Fld) (n v : Nat) : (s.setFld f n v).recovery = s.recovery := rfl
@[simp] theorem State.setFld_cfgerr (s : State) (f : Fld) (n v : Nat) : (s.setFld f n v).cfgerr = s.cfgerr := rfl
@[simp] theorem State.setFld_hostSide (s : State) (f : Fld) (n v : Nat) : (s.setFld f n v).hostSide = s.hostSide := rfl
@[simp] theorem State.setFld_loadDue (s : State) (f : Fld) (n v : Nat) : (s.setFld f n v).loadDue = s.loadDue := rfl
@[simp] theorem State.setFld_rebuilds (s : State) (f : Fld) (n v : Nat) : (s.setFld f n v).rebuilds = s.rebuilds := rfl
@[simp] theorem State.setFld_booted (s : State) (f : Fld) (n v : Nat) : (s.setFld f n v).booted = s.booted := rfl
@[simp] theorem State.setFld_rebuilt (s : State) (f : Fld) (n v : Nat) : (s.setFld f n v).rebuilt = s.rebuilt := rfl
@[simp] theorem State.setFld_audit (s : State) (f : Fld) (n v : Nat) : (s.setFld f n v).audit = s.audit := rfl
@[simp] theorem State.setFld_fwVersion (s : State) (f : Fld) (n v : Nat) : (s.setFld f n v).fwVersion = s.fwVersion := rfl
@[simp] theorem State.setFld_booting (s : State) (f : Fld) (n v : Nat) : (s.setFld f n v).booting = s.booting := rfl
@[simp] theorem State.setFld_wokeBy (s : State) (f : Fld) (n v : Nat) : (s.setFld f n v).wokeBy = s.wokeBy := rfl
@[simp] theorem State.setFld_warm (s : State) (f : Fld) (n v : Nat) : (s.setFld f n v).warm = s.warm := rfl
@[simp] theorem State.setFld_fatalFirst (s : State) (f : Fld) (n v : Nat) : (s.setFld f n v).fatalFirst = s.fatalFirst := rfl
@[simp] theorem State.setFld_kickAt (s : State) (f : Fld) (n v : Nat) : (s.setFld f n v).kickAt = s.kickAt := rfl
@[simp] theorem State.setFld_wdogOut (s : State) (f : Fld) (n v : Nat) : (s.setFld f n v).wdogOut = s.wdogOut := rfl
@[simp] theorem State.setFld_errWritten (s : State) (f : Fld) (n v : Nat) : (s.setFld f n v).errWritten = s.errWritten := rfl
@[simp] theorem State.setFld_links (s : State) (f : Fld) (n v : Nat) : (s.setFld f n v).links = s.links := rfl
@[simp] theorem State.setFld_const (s : State) (f : Fld) (n v : Nat) : (s.setFld f n v).const = s.const := rfl
@[simp] theorem State.setFld_vserLost (s : State) (f : Fld) (n v : Nat) : (s.setFld f n v).vserLost = s.vserLost := rfl
@[simp] theorem State.setFld_vserhLost (s : State) (f : Fld) (n v : Nat) : (s.setFld f n v).vserhLost = s.vserhLost := rfl
@[simp] theorem State.setFld_tap (s : State) (f : Fld) (n v : Nat) : (s.setFld f n v).tap = s.tap := rfl

@[simp] theorem State.setBit_pending (s : State) (f : Fld) (n : Nat) (b : Bool) : (s.setBit f n b).pending = s.pending := rfl
@[simp] theorem State.setBit_tickNo (s : State) (f : Fld) (n : Nat) (b : Bool) : (s.setBit f n b).tickNo = s.tickNo := rfl
@[simp] theorem State.setBit_free (s : State) (f : Fld) (n : Nat) (b : Bool) : (s.setBit f n b).free = s.free := rfl
@[simp] theorem State.setBit_staged (s : State) (f : Fld) (n : Nat) (b : Bool) : (s.setBit f n b).staged = s.staged := rfl
@[simp] theorem State.setBit_prior (s : State) (f : Fld) (n : Nat) (b : Bool) : (s.setBit f n b).prior = s.prior := rfl
@[simp] theorem State.setBit_begun (s : State) (f : Fld) (n : Nat) (b : Bool) : (s.setBit f n b).begun = s.begun := rfl
@[simp] theorem State.setBit_arms (s : State) (f : Fld) (n : Nat) (b : Bool) : (s.setBit f n b).arms = s.arms := rfl
@[simp] theorem State.setBit_owners (s : State) (f : Fld) (n : Nat) (b : Bool) : (s.setBit f n b).owners = s.owners := rfl
@[simp] theorem State.setBit_time (s : State) (f : Fld) (n : Nat) (b : Bool) : (s.setBit f n b).time = s.time := rfl
@[simp] theorem State.setBit_mplls (s : State) (f : Fld) (n : Nat) (b : Bool) : (s.setBit f n b).mplls = s.mplls := rfl
@[simp] theorem State.setBit_trackers (s : State) (f : Fld) (n : Nat) (b : Bool) : (s.setBit f n b).trackers = s.trackers := rfl
@[simp] theorem State.setBit_sills (s : State) (f : Fld) (n : Nat) (b : Bool) : (s.setBit f n b).sills = s.sills := rfl
@[simp] theorem State.setBit_ports (s : State) (f : Fld) (n : Nat) (b : Bool) : (s.setBit f n b).ports = s.ports := rfl
@[simp] theorem State.setBit_atns (s : State) (f : Fld) (n : Nat) (b : Bool) : (s.setBit f n b).atns = s.atns := rfl
@[simp] theorem State.setBit_seqs (s : State) (f : Fld) (n : Nat) (b : Bool) : (s.setBit f n b).seqs = s.seqs := rfl
@[simp] theorem State.setBit_lane (s : State) (f : Fld) (n : Nat) (b : Bool) : (s.setBit f n b).lane = s.lane := rfl
@[simp] theorem State.setBit_commits (s : State) (f : Fld) (n : Nat) (b : Bool) : (s.setBit f n b).commits = s.commits := rfl
@[simp] theorem State.setBit_laneLast (s : State) (f : Fld) (n : Nat) (b : Bool) : (s.setBit f n b).laneLast = s.laneLast := rfl
@[simp] theorem State.setBit_laneDown (s : State) (f : Fld) (n : Nat) (b : Bool) : (s.setBit f n b).laneDown = s.laneDown := rfl
@[simp] theorem State.setBit_gwEntries (s : State) (f : Fld) (n : Nat) (b : Bool) : (s.setBit f n b).gwEntries = s.gwEntries := rfl
@[simp] theorem State.setBit_caldera (s : State) (f : Fld) (n : Nat) (b : Bool) : (s.setBit f n b).caldera = s.caldera := rfl
@[simp] theorem State.setBit_bus (s : State) (f : Fld) (n : Nat) (b : Bool) : (s.setBit f n b).bus = s.bus := rfl
@[simp] theorem State.setBit_ringOld (s : State) (f : Fld) (n : Nat) (b : Bool) : (s.setBit f n b).ringOld = s.ringOld := rfl
@[simp] theorem State.setBit_ringWaits (s : State) (f : Fld) (n : Nat) (b : Bool) : (s.setBit f n b).ringWaits = s.ringWaits := rfl
@[simp] theorem State.setBit_flaws (s : State) (f : Fld) (n : Nat) (b : Bool) : (s.setBit f n b).flaws = s.flaws := rfl
@[simp] theorem State.setBit_watermarks (s : State) (f : Fld) (n : Nat) (b : Bool) : (s.setBit f n b).watermarks = s.watermarks := rfl
@[simp] theorem State.setBit_errq (s : State) (f : Fld) (n : Nat) (b : Bool) : (s.setBit f n b).errq = s.errq := rfl
@[simp] theorem State.setBit_cpNotes (s : State) (f : Fld) (n : Nat) (b : Bool) : (s.setBit f n b).cpNotes = s.cpNotes := rfl
@[simp] theorem State.setBit_pcNotes (s : State) (f : Fld) (n : Nat) (b : Bool) : (s.setBit f n b).pcNotes = s.pcNotes := rfl
@[simp] theorem State.setBit_cpNoteOvf (s : State) (f : Fld) (n : Nat) (b : Bool) : (s.setBit f n b).cpNoteOvf = s.cpNoteOvf := rfl
@[simp] theorem State.setBit_pcNoteOvf (s : State) (f : Fld) (n : Nat) (b : Bool) : (s.setBit f n b).pcNoteOvf = s.pcNoteOvf := rfl
@[simp] theorem State.setBit_hrdy (s : State) (f : Fld) (n : Nat) (b : Bool) : (s.setBit f n b).hrdy = s.hrdy := rfl
@[simp] theorem State.setBit_blinks (s : State) (f : Fld) (n : Nat) (b : Bool) : (s.setBit f n b).blinks = s.blinks := rfl
@[simp] theorem State.setBit_msixMask (s : State) (f : Fld) (n : Nat) (b : Bool) : (s.setBit f n b).msixMask = s.msixMask := rfl
@[simp] theorem State.setBit_msixPend (s : State) (f : Fld) (n : Nat) (b : Bool) : (s.setBit f n b).msixPend = s.msixPend := rfl
@[simp] theorem State.setBit_out (s : State) (f : Fld) (n : Nat) (b : Bool) : (s.setBit f n b).out = s.out := rfl
@[simp] theorem State.setBit_swaps (s : State) (f : Fld) (n : Nat) (b : Bool) : (s.setBit f n b).swaps = s.swaps := rfl
@[simp] theorem State.setBit_zones (s : State) (f : Fld) (n : Nat) (b : Bool) : (s.setBit f n b).zones = s.zones := rfl
@[simp] theorem State.setBit_load (s : State) (f : Fld) (n : Nat) (b : Bool) : (s.setBit f n b).load = s.load := rfl
@[simp] theorem State.setBit_survey (s : State) (f : Fld) (n : Nat) (b : Bool) : (s.setBit f n b).survey = s.survey := rfl
@[simp] theorem State.setBit_swept (s : State) (f : Fld) (n : Nat) (b : Bool) : (s.setBit f n b).swept = s.swept := rfl
@[simp] theorem State.setBit_engines (s : State) (f : Fld) (n : Nat) (b : Bool) : (s.setBit f n b).engines = s.engines := rfl
@[simp] theorem State.setBit_flash (s : State) (f : Fld) (n : Nat) (b : Bool) : (s.setBit f n b).flash = s.flash := rfl
@[simp] theorem State.setBit_modePins (s : State) (f : Fld) (n : Nat) (b : Bool) : (s.setBit f n b).modePins = s.modePins := rfl
@[simp] theorem State.setBit_recovery (s : State) (f : Fld) (n : Nat) (b : Bool) : (s.setBit f n b).recovery = s.recovery := rfl
@[simp] theorem State.setBit_cfgerr (s : State) (f : Fld) (n : Nat) (b : Bool) : (s.setBit f n b).cfgerr = s.cfgerr := rfl
@[simp] theorem State.setBit_hostSide (s : State) (f : Fld) (n : Nat) (b : Bool) : (s.setBit f n b).hostSide = s.hostSide := rfl
@[simp] theorem State.setBit_loadDue (s : State) (f : Fld) (n : Nat) (b : Bool) : (s.setBit f n b).loadDue = s.loadDue := rfl
@[simp] theorem State.setBit_rebuilds (s : State) (f : Fld) (n : Nat) (b : Bool) : (s.setBit f n b).rebuilds = s.rebuilds := rfl
@[simp] theorem State.setBit_booted (s : State) (f : Fld) (n : Nat) (b : Bool) : (s.setBit f n b).booted = s.booted := rfl
@[simp] theorem State.setBit_rebuilt (s : State) (f : Fld) (n : Nat) (b : Bool) : (s.setBit f n b).rebuilt = s.rebuilt := rfl
@[simp] theorem State.setBit_audit (s : State) (f : Fld) (n : Nat) (b : Bool) : (s.setBit f n b).audit = s.audit := rfl
@[simp] theorem State.setBit_fwVersion (s : State) (f : Fld) (n : Nat) (b : Bool) : (s.setBit f n b).fwVersion = s.fwVersion := rfl
@[simp] theorem State.setBit_booting (s : State) (f : Fld) (n : Nat) (b : Bool) : (s.setBit f n b).booting = s.booting := rfl
@[simp] theorem State.setBit_wokeBy (s : State) (f : Fld) (n : Nat) (b : Bool) : (s.setBit f n b).wokeBy = s.wokeBy := rfl
@[simp] theorem State.setBit_warm (s : State) (f : Fld) (n : Nat) (b : Bool) : (s.setBit f n b).warm = s.warm := rfl
@[simp] theorem State.setBit_fatalFirst (s : State) (f : Fld) (n : Nat) (b : Bool) : (s.setBit f n b).fatalFirst = s.fatalFirst := rfl
@[simp] theorem State.setBit_kickAt (s : State) (f : Fld) (n : Nat) (b : Bool) : (s.setBit f n b).kickAt = s.kickAt := rfl
@[simp] theorem State.setBit_wdogOut (s : State) (f : Fld) (n : Nat) (b : Bool) : (s.setBit f n b).wdogOut = s.wdogOut := rfl
@[simp] theorem State.setBit_errWritten (s : State) (f : Fld) (n : Nat) (b : Bool) : (s.setBit f n b).errWritten = s.errWritten := rfl
@[simp] theorem State.setBit_links (s : State) (f : Fld) (n : Nat) (b : Bool) : (s.setBit f n b).links = s.links := rfl
@[simp] theorem State.setBit_const (s : State) (f : Fld) (n : Nat) (b : Bool) : (s.setBit f n b).const = s.const := rfl
@[simp] theorem State.setBit_vserLost (s : State) (f : Fld) (n : Nat) (b : Bool) : (s.setBit f n b).vserLost = s.vserLost := rfl
@[simp] theorem State.setBit_vserhLost (s : State) (f : Fld) (n : Nat) (b : Bool) : (s.setBit f n b).vserhLost = s.vserhLost := rfl
@[simp] theorem State.setBit_tap (s : State) (f : Fld) (n : Nat) (b : Bool) : (s.setBit f n b).tap = s.tap := rfl

@[simp] theorem State.bump_pending (s : State) (f : Fld) (n : Nat) : (s.bump f n).pending = s.pending := rfl
@[simp] theorem State.bump_tickNo (s : State) (f : Fld) (n : Nat) : (s.bump f n).tickNo = s.tickNo := rfl
@[simp] theorem State.bump_free (s : State) (f : Fld) (n : Nat) : (s.bump f n).free = s.free := rfl
@[simp] theorem State.bump_staged (s : State) (f : Fld) (n : Nat) : (s.bump f n).staged = s.staged := rfl
@[simp] theorem State.bump_prior (s : State) (f : Fld) (n : Nat) : (s.bump f n).prior = s.prior := rfl
@[simp] theorem State.bump_begun (s : State) (f : Fld) (n : Nat) : (s.bump f n).begun = s.begun := rfl
@[simp] theorem State.bump_arms (s : State) (f : Fld) (n : Nat) : (s.bump f n).arms = s.arms := rfl
@[simp] theorem State.bump_owners (s : State) (f : Fld) (n : Nat) : (s.bump f n).owners = s.owners := rfl
@[simp] theorem State.bump_time (s : State) (f : Fld) (n : Nat) : (s.bump f n).time = s.time := rfl
@[simp] theorem State.bump_mplls (s : State) (f : Fld) (n : Nat) : (s.bump f n).mplls = s.mplls := rfl
@[simp] theorem State.bump_trackers (s : State) (f : Fld) (n : Nat) : (s.bump f n).trackers = s.trackers := rfl
@[simp] theorem State.bump_sills (s : State) (f : Fld) (n : Nat) : (s.bump f n).sills = s.sills := rfl
@[simp] theorem State.bump_ports (s : State) (f : Fld) (n : Nat) : (s.bump f n).ports = s.ports := rfl
@[simp] theorem State.bump_atns (s : State) (f : Fld) (n : Nat) : (s.bump f n).atns = s.atns := rfl
@[simp] theorem State.bump_seqs (s : State) (f : Fld) (n : Nat) : (s.bump f n).seqs = s.seqs := rfl
@[simp] theorem State.bump_lane (s : State) (f : Fld) (n : Nat) : (s.bump f n).lane = s.lane := rfl
@[simp] theorem State.bump_commits (s : State) (f : Fld) (n : Nat) : (s.bump f n).commits = s.commits := rfl
@[simp] theorem State.bump_laneLast (s : State) (f : Fld) (n : Nat) : (s.bump f n).laneLast = s.laneLast := rfl
@[simp] theorem State.bump_laneDown (s : State) (f : Fld) (n : Nat) : (s.bump f n).laneDown = s.laneDown := rfl
@[simp] theorem State.bump_gwEntries (s : State) (f : Fld) (n : Nat) : (s.bump f n).gwEntries = s.gwEntries := rfl
@[simp] theorem State.bump_caldera (s : State) (f : Fld) (n : Nat) : (s.bump f n).caldera = s.caldera := rfl
@[simp] theorem State.bump_bus (s : State) (f : Fld) (n : Nat) : (s.bump f n).bus = s.bus := rfl
@[simp] theorem State.bump_ringOld (s : State) (f : Fld) (n : Nat) : (s.bump f n).ringOld = s.ringOld := rfl
@[simp] theorem State.bump_ringWaits (s : State) (f : Fld) (n : Nat) : (s.bump f n).ringWaits = s.ringWaits := rfl
@[simp] theorem State.bump_flaws (s : State) (f : Fld) (n : Nat) : (s.bump f n).flaws = s.flaws := rfl
@[simp] theorem State.bump_watermarks (s : State) (f : Fld) (n : Nat) : (s.bump f n).watermarks = s.watermarks := rfl
@[simp] theorem State.bump_errq (s : State) (f : Fld) (n : Nat) : (s.bump f n).errq = s.errq := rfl
@[simp] theorem State.bump_cpNotes (s : State) (f : Fld) (n : Nat) : (s.bump f n).cpNotes = s.cpNotes := rfl
@[simp] theorem State.bump_pcNotes (s : State) (f : Fld) (n : Nat) : (s.bump f n).pcNotes = s.pcNotes := rfl
@[simp] theorem State.bump_cpNoteOvf (s : State) (f : Fld) (n : Nat) : (s.bump f n).cpNoteOvf = s.cpNoteOvf := rfl
@[simp] theorem State.bump_pcNoteOvf (s : State) (f : Fld) (n : Nat) : (s.bump f n).pcNoteOvf = s.pcNoteOvf := rfl
@[simp] theorem State.bump_hrdy (s : State) (f : Fld) (n : Nat) : (s.bump f n).hrdy = s.hrdy := rfl
@[simp] theorem State.bump_blinks (s : State) (f : Fld) (n : Nat) : (s.bump f n).blinks = s.blinks := rfl
@[simp] theorem State.bump_msixMask (s : State) (f : Fld) (n : Nat) : (s.bump f n).msixMask = s.msixMask := rfl
@[simp] theorem State.bump_msixPend (s : State) (f : Fld) (n : Nat) : (s.bump f n).msixPend = s.msixPend := rfl
@[simp] theorem State.bump_out (s : State) (f : Fld) (n : Nat) : (s.bump f n).out = s.out := rfl
@[simp] theorem State.bump_swaps (s : State) (f : Fld) (n : Nat) : (s.bump f n).swaps = s.swaps := rfl
@[simp] theorem State.bump_zones (s : State) (f : Fld) (n : Nat) : (s.bump f n).zones = s.zones := rfl
@[simp] theorem State.bump_load (s : State) (f : Fld) (n : Nat) : (s.bump f n).load = s.load := rfl
@[simp] theorem State.bump_survey (s : State) (f : Fld) (n : Nat) : (s.bump f n).survey = s.survey := rfl
@[simp] theorem State.bump_swept (s : State) (f : Fld) (n : Nat) : (s.bump f n).swept = s.swept := rfl
@[simp] theorem State.bump_engines (s : State) (f : Fld) (n : Nat) : (s.bump f n).engines = s.engines := rfl
@[simp] theorem State.bump_flash (s : State) (f : Fld) (n : Nat) : (s.bump f n).flash = s.flash := rfl
@[simp] theorem State.bump_modePins (s : State) (f : Fld) (n : Nat) : (s.bump f n).modePins = s.modePins := rfl
@[simp] theorem State.bump_recovery (s : State) (f : Fld) (n : Nat) : (s.bump f n).recovery = s.recovery := rfl
@[simp] theorem State.bump_cfgerr (s : State) (f : Fld) (n : Nat) : (s.bump f n).cfgerr = s.cfgerr := rfl
@[simp] theorem State.bump_hostSide (s : State) (f : Fld) (n : Nat) : (s.bump f n).hostSide = s.hostSide := rfl
@[simp] theorem State.bump_loadDue (s : State) (f : Fld) (n : Nat) : (s.bump f n).loadDue = s.loadDue := rfl
@[simp] theorem State.bump_rebuilds (s : State) (f : Fld) (n : Nat) : (s.bump f n).rebuilds = s.rebuilds := rfl
@[simp] theorem State.bump_booted (s : State) (f : Fld) (n : Nat) : (s.bump f n).booted = s.booted := rfl
@[simp] theorem State.bump_rebuilt (s : State) (f : Fld) (n : Nat) : (s.bump f n).rebuilt = s.rebuilt := rfl
@[simp] theorem State.bump_audit (s : State) (f : Fld) (n : Nat) : (s.bump f n).audit = s.audit := rfl
@[simp] theorem State.bump_fwVersion (s : State) (f : Fld) (n : Nat) : (s.bump f n).fwVersion = s.fwVersion := rfl
@[simp] theorem State.bump_booting (s : State) (f : Fld) (n : Nat) : (s.bump f n).booting = s.booting := rfl
@[simp] theorem State.bump_wokeBy (s : State) (f : Fld) (n : Nat) : (s.bump f n).wokeBy = s.wokeBy := rfl
@[simp] theorem State.bump_warm (s : State) (f : Fld) (n : Nat) : (s.bump f n).warm = s.warm := rfl
@[simp] theorem State.bump_fatalFirst (s : State) (f : Fld) (n : Nat) : (s.bump f n).fatalFirst = s.fatalFirst := rfl
@[simp] theorem State.bump_kickAt (s : State) (f : Fld) (n : Nat) : (s.bump f n).kickAt = s.kickAt := rfl
@[simp] theorem State.bump_wdogOut (s : State) (f : Fld) (n : Nat) : (s.bump f n).wdogOut = s.wdogOut := rfl
@[simp] theorem State.bump_errWritten (s : State) (f : Fld) (n : Nat) : (s.bump f n).errWritten = s.errWritten := rfl
@[simp] theorem State.bump_links (s : State) (f : Fld) (n : Nat) : (s.bump f n).links = s.links := rfl
@[simp] theorem State.bump_const (s : State) (f : Fld) (n : Nat) : (s.bump f n).const = s.const := rfl
@[simp] theorem State.bump_vserLost (s : State) (f : Fld) (n : Nat) : (s.bump f n).vserLost = s.vserLost := rfl
@[simp] theorem State.bump_vserhLost (s : State) (f : Fld) (n : Nat) : (s.bump f n).vserhLost = s.vserhLost := rfl
@[simp] theorem State.bump_tap (s : State) (f : Fld) (n : Nat) : (s.bump f n).tap = s.tap := rfl

@[simp] theorem State.setStagedI_pending (s : State) (f : Fld) (n i v : Nat) : (s.setStagedI f n i v).pending = s.pending := rfl
@[simp] theorem State.setStagedI_tickNo (s : State) (f : Fld) (n i v : Nat) : (s.setStagedI f n i v).tickNo = s.tickNo := rfl
@[simp] theorem State.setStagedI_free (s : State) (f : Fld) (n i v : Nat) : (s.setStagedI f n i v).free = s.free := rfl
@[simp] theorem State.setStagedI_regs (s : State) (f : Fld) (n i v : Nat) : (s.setStagedI f n i v).regs = s.regs := rfl
@[simp] theorem State.setStagedI_prior (s : State) (f : Fld) (n i v : Nat) : (s.setStagedI f n i v).prior = s.prior := rfl
@[simp] theorem State.setStagedI_begun (s : State) (f : Fld) (n i v : Nat) : (s.setStagedI f n i v).begun = s.begun := rfl
@[simp] theorem State.setStagedI_arms (s : State) (f : Fld) (n i v : Nat) : (s.setStagedI f n i v).arms = s.arms := rfl
@[simp] theorem State.setStagedI_owners (s : State) (f : Fld) (n i v : Nat) : (s.setStagedI f n i v).owners = s.owners := rfl
@[simp] theorem State.setStagedI_time (s : State) (f : Fld) (n i v : Nat) : (s.setStagedI f n i v).time = s.time := rfl
@[simp] theorem State.setStagedI_mplls (s : State) (f : Fld) (n i v : Nat) : (s.setStagedI f n i v).mplls = s.mplls := rfl
@[simp] theorem State.setStagedI_trackers (s : State) (f : Fld) (n i v : Nat) : (s.setStagedI f n i v).trackers = s.trackers := rfl
@[simp] theorem State.setStagedI_sills (s : State) (f : Fld) (n i v : Nat) : (s.setStagedI f n i v).sills = s.sills := rfl
@[simp] theorem State.setStagedI_ports (s : State) (f : Fld) (n i v : Nat) : (s.setStagedI f n i v).ports = s.ports := rfl
@[simp] theorem State.setStagedI_atns (s : State) (f : Fld) (n i v : Nat) : (s.setStagedI f n i v).atns = s.atns := rfl
@[simp] theorem State.setStagedI_seqs (s : State) (f : Fld) (n i v : Nat) : (s.setStagedI f n i v).seqs = s.seqs := rfl
@[simp] theorem State.setStagedI_lane (s : State) (f : Fld) (n i v : Nat) : (s.setStagedI f n i v).lane = s.lane := rfl
@[simp] theorem State.setStagedI_commits (s : State) (f : Fld) (n i v : Nat) : (s.setStagedI f n i v).commits = s.commits := rfl
@[simp] theorem State.setStagedI_laneLast (s : State) (f : Fld) (n i v : Nat) : (s.setStagedI f n i v).laneLast = s.laneLast := rfl
@[simp] theorem State.setStagedI_laneDown (s : State) (f : Fld) (n i v : Nat) : (s.setStagedI f n i v).laneDown = s.laneDown := rfl
@[simp] theorem State.setStagedI_gwEntries (s : State) (f : Fld) (n i v : Nat) : (s.setStagedI f n i v).gwEntries = s.gwEntries := rfl
@[simp] theorem State.setStagedI_caldera (s : State) (f : Fld) (n i v : Nat) : (s.setStagedI f n i v).caldera = s.caldera := rfl
@[simp] theorem State.setStagedI_bus (s : State) (f : Fld) (n i v : Nat) : (s.setStagedI f n i v).bus = s.bus := rfl
@[simp] theorem State.setStagedI_ringOld (s : State) (f : Fld) (n i v : Nat) : (s.setStagedI f n i v).ringOld = s.ringOld := rfl
@[simp] theorem State.setStagedI_ringWaits (s : State) (f : Fld) (n i v : Nat) : (s.setStagedI f n i v).ringWaits = s.ringWaits := rfl
@[simp] theorem State.setStagedI_flaws (s : State) (f : Fld) (n i v : Nat) : (s.setStagedI f n i v).flaws = s.flaws := rfl
@[simp] theorem State.setStagedI_watermarks (s : State) (f : Fld) (n i v : Nat) : (s.setStagedI f n i v).watermarks = s.watermarks := rfl
@[simp] theorem State.setStagedI_errq (s : State) (f : Fld) (n i v : Nat) : (s.setStagedI f n i v).errq = s.errq := rfl
@[simp] theorem State.setStagedI_cpNotes (s : State) (f : Fld) (n i v : Nat) : (s.setStagedI f n i v).cpNotes = s.cpNotes := rfl
@[simp] theorem State.setStagedI_pcNotes (s : State) (f : Fld) (n i v : Nat) : (s.setStagedI f n i v).pcNotes = s.pcNotes := rfl
@[simp] theorem State.setStagedI_cpNoteOvf (s : State) (f : Fld) (n i v : Nat) : (s.setStagedI f n i v).cpNoteOvf = s.cpNoteOvf := rfl
@[simp] theorem State.setStagedI_pcNoteOvf (s : State) (f : Fld) (n i v : Nat) : (s.setStagedI f n i v).pcNoteOvf = s.pcNoteOvf := rfl
@[simp] theorem State.setStagedI_hrdy (s : State) (f : Fld) (n i v : Nat) : (s.setStagedI f n i v).hrdy = s.hrdy := rfl
@[simp] theorem State.setStagedI_blinks (s : State) (f : Fld) (n i v : Nat) : (s.setStagedI f n i v).blinks = s.blinks := rfl
@[simp] theorem State.setStagedI_msixMask (s : State) (f : Fld) (n i v : Nat) : (s.setStagedI f n i v).msixMask = s.msixMask := rfl
@[simp] theorem State.setStagedI_msixPend (s : State) (f : Fld) (n i v : Nat) : (s.setStagedI f n i v).msixPend = s.msixPend := rfl
@[simp] theorem State.setStagedI_out (s : State) (f : Fld) (n i v : Nat) : (s.setStagedI f n i v).out = s.out := rfl
@[simp] theorem State.setStagedI_swaps (s : State) (f : Fld) (n i v : Nat) : (s.setStagedI f n i v).swaps = s.swaps := rfl
@[simp] theorem State.setStagedI_zones (s : State) (f : Fld) (n i v : Nat) : (s.setStagedI f n i v).zones = s.zones := rfl
@[simp] theorem State.setStagedI_load (s : State) (f : Fld) (n i v : Nat) : (s.setStagedI f n i v).load = s.load := rfl
@[simp] theorem State.setStagedI_survey (s : State) (f : Fld) (n i v : Nat) : (s.setStagedI f n i v).survey = s.survey := rfl
@[simp] theorem State.setStagedI_swept (s : State) (f : Fld) (n i v : Nat) : (s.setStagedI f n i v).swept = s.swept := rfl
@[simp] theorem State.setStagedI_engines (s : State) (f : Fld) (n i v : Nat) : (s.setStagedI f n i v).engines = s.engines := rfl
@[simp] theorem State.setStagedI_flash (s : State) (f : Fld) (n i v : Nat) : (s.setStagedI f n i v).flash = s.flash := rfl
@[simp] theorem State.setStagedI_modePins (s : State) (f : Fld) (n i v : Nat) : (s.setStagedI f n i v).modePins = s.modePins := rfl
@[simp] theorem State.setStagedI_recovery (s : State) (f : Fld) (n i v : Nat) : (s.setStagedI f n i v).recovery = s.recovery := rfl
@[simp] theorem State.setStagedI_cfgerr (s : State) (f : Fld) (n i v : Nat) : (s.setStagedI f n i v).cfgerr = s.cfgerr := rfl
@[simp] theorem State.setStagedI_hostSide (s : State) (f : Fld) (n i v : Nat) : (s.setStagedI f n i v).hostSide = s.hostSide := rfl
@[simp] theorem State.setStagedI_loadDue (s : State) (f : Fld) (n i v : Nat) : (s.setStagedI f n i v).loadDue = s.loadDue := rfl
@[simp] theorem State.setStagedI_rebuilds (s : State) (f : Fld) (n i v : Nat) : (s.setStagedI f n i v).rebuilds = s.rebuilds := rfl
@[simp] theorem State.setStagedI_booted (s : State) (f : Fld) (n i v : Nat) : (s.setStagedI f n i v).booted = s.booted := rfl
@[simp] theorem State.setStagedI_rebuilt (s : State) (f : Fld) (n i v : Nat) : (s.setStagedI f n i v).rebuilt = s.rebuilt := rfl
@[simp] theorem State.setStagedI_audit (s : State) (f : Fld) (n i v : Nat) : (s.setStagedI f n i v).audit = s.audit := rfl
@[simp] theorem State.setStagedI_fwVersion (s : State) (f : Fld) (n i v : Nat) : (s.setStagedI f n i v).fwVersion = s.fwVersion := rfl
@[simp] theorem State.setStagedI_booting (s : State) (f : Fld) (n i v : Nat) : (s.setStagedI f n i v).booting = s.booting := rfl
@[simp] theorem State.setStagedI_wokeBy (s : State) (f : Fld) (n i v : Nat) : (s.setStagedI f n i v).wokeBy = s.wokeBy := rfl
@[simp] theorem State.setStagedI_warm (s : State) (f : Fld) (n i v : Nat) : (s.setStagedI f n i v).warm = s.warm := rfl
@[simp] theorem State.setStagedI_fatalFirst (s : State) (f : Fld) (n i v : Nat) : (s.setStagedI f n i v).fatalFirst = s.fatalFirst := rfl
@[simp] theorem State.setStagedI_kickAt (s : State) (f : Fld) (n i v : Nat) : (s.setStagedI f n i v).kickAt = s.kickAt := rfl
@[simp] theorem State.setStagedI_wdogOut (s : State) (f : Fld) (n i v : Nat) : (s.setStagedI f n i v).wdogOut = s.wdogOut := rfl
@[simp] theorem State.setStagedI_errWritten (s : State) (f : Fld) (n i v : Nat) : (s.setStagedI f n i v).errWritten = s.errWritten := rfl
@[simp] theorem State.setStagedI_links (s : State) (f : Fld) (n i v : Nat) : (s.setStagedI f n i v).links = s.links := rfl
@[simp] theorem State.setStagedI_const (s : State) (f : Fld) (n i v : Nat) : (s.setStagedI f n i v).const = s.const := rfl
@[simp] theorem State.setStagedI_vserLost (s : State) (f : Fld) (n i v : Nat) : (s.setStagedI f n i v).vserLost = s.vserLost := rfl
@[simp] theorem State.setStagedI_vserhLost (s : State) (f : Fld) (n i v : Nat) : (s.setStagedI f n i v).vserhLost = s.vserhLost := rfl
@[simp] theorem State.setStagedI_tap (s : State) (f : Fld) (n i v : Nat) : (s.setStagedI f n i v).tap = s.tap := rfl

@[simp] theorem State.setMpll_pending (s : State) (n : Nat) (x : Mpll) : (s.setMpll n x).pending = s.pending := rfl
@[simp] theorem State.setMpll_tickNo (s : State) (n : Nat) (x : Mpll) : (s.setMpll n x).tickNo = s.tickNo := rfl
@[simp] theorem State.setMpll_free (s : State) (n : Nat) (x : Mpll) : (s.setMpll n x).free = s.free := rfl
@[simp] theorem State.setMpll_regs (s : State) (n : Nat) (x : Mpll) : (s.setMpll n x).regs = s.regs := rfl
@[simp] theorem State.setMpll_staged (s : State) (n : Nat) (x : Mpll) : (s.setMpll n x).staged = s.staged := rfl
@[simp] theorem State.setMpll_prior (s : State) (n : Nat) (x : Mpll) : (s.setMpll n x).prior = s.prior := rfl
@[simp] theorem State.setMpll_begun (s : State) (n : Nat) (x : Mpll) : (s.setMpll n x).begun = s.begun := rfl
@[simp] theorem State.setMpll_arms (s : State) (n : Nat) (x : Mpll) : (s.setMpll n x).arms = s.arms := rfl
@[simp] theorem State.setMpll_owners (s : State) (n : Nat) (x : Mpll) : (s.setMpll n x).owners = s.owners := rfl
@[simp] theorem State.setMpll_time (s : State) (n : Nat) (x : Mpll) : (s.setMpll n x).time = s.time := rfl
@[simp] theorem State.setMpll_trackers (s : State) (n : Nat) (x : Mpll) : (s.setMpll n x).trackers = s.trackers := rfl
@[simp] theorem State.setMpll_sills (s : State) (n : Nat) (x : Mpll) : (s.setMpll n x).sills = s.sills := rfl
@[simp] theorem State.setMpll_ports (s : State) (n : Nat) (x : Mpll) : (s.setMpll n x).ports = s.ports := rfl
@[simp] theorem State.setMpll_atns (s : State) (n : Nat) (x : Mpll) : (s.setMpll n x).atns = s.atns := rfl
@[simp] theorem State.setMpll_seqs (s : State) (n : Nat) (x : Mpll) : (s.setMpll n x).seqs = s.seqs := rfl
@[simp] theorem State.setMpll_lane (s : State) (n : Nat) (x : Mpll) : (s.setMpll n x).lane = s.lane := rfl
@[simp] theorem State.setMpll_commits (s : State) (n : Nat) (x : Mpll) : (s.setMpll n x).commits = s.commits := rfl
@[simp] theorem State.setMpll_laneLast (s : State) (n : Nat) (x : Mpll) : (s.setMpll n x).laneLast = s.laneLast := rfl
@[simp] theorem State.setMpll_laneDown (s : State) (n : Nat) (x : Mpll) : (s.setMpll n x).laneDown = s.laneDown := rfl
@[simp] theorem State.setMpll_gwEntries (s : State) (n : Nat) (x : Mpll) : (s.setMpll n x).gwEntries = s.gwEntries := rfl
@[simp] theorem State.setMpll_caldera (s : State) (n : Nat) (x : Mpll) : (s.setMpll n x).caldera = s.caldera := rfl
@[simp] theorem State.setMpll_bus (s : State) (n : Nat) (x : Mpll) : (s.setMpll n x).bus = s.bus := rfl
@[simp] theorem State.setMpll_ringOld (s : State) (n : Nat) (x : Mpll) : (s.setMpll n x).ringOld = s.ringOld := rfl
@[simp] theorem State.setMpll_ringWaits (s : State) (n : Nat) (x : Mpll) : (s.setMpll n x).ringWaits = s.ringWaits := rfl
@[simp] theorem State.setMpll_flaws (s : State) (n : Nat) (x : Mpll) : (s.setMpll n x).flaws = s.flaws := rfl
@[simp] theorem State.setMpll_watermarks (s : State) (n : Nat) (x : Mpll) : (s.setMpll n x).watermarks = s.watermarks := rfl
@[simp] theorem State.setMpll_errq (s : State) (n : Nat) (x : Mpll) : (s.setMpll n x).errq = s.errq := rfl
@[simp] theorem State.setMpll_cpNotes (s : State) (n : Nat) (x : Mpll) : (s.setMpll n x).cpNotes = s.cpNotes := rfl
@[simp] theorem State.setMpll_pcNotes (s : State) (n : Nat) (x : Mpll) : (s.setMpll n x).pcNotes = s.pcNotes := rfl
@[simp] theorem State.setMpll_cpNoteOvf (s : State) (n : Nat) (x : Mpll) : (s.setMpll n x).cpNoteOvf = s.cpNoteOvf := rfl
@[simp] theorem State.setMpll_pcNoteOvf (s : State) (n : Nat) (x : Mpll) : (s.setMpll n x).pcNoteOvf = s.pcNoteOvf := rfl
@[simp] theorem State.setMpll_hrdy (s : State) (n : Nat) (x : Mpll) : (s.setMpll n x).hrdy = s.hrdy := rfl
@[simp] theorem State.setMpll_blinks (s : State) (n : Nat) (x : Mpll) : (s.setMpll n x).blinks = s.blinks := rfl
@[simp] theorem State.setMpll_msixMask (s : State) (n : Nat) (x : Mpll) : (s.setMpll n x).msixMask = s.msixMask := rfl
@[simp] theorem State.setMpll_msixPend (s : State) (n : Nat) (x : Mpll) : (s.setMpll n x).msixPend = s.msixPend := rfl
@[simp] theorem State.setMpll_out (s : State) (n : Nat) (x : Mpll) : (s.setMpll n x).out = s.out := rfl
@[simp] theorem State.setMpll_swaps (s : State) (n : Nat) (x : Mpll) : (s.setMpll n x).swaps = s.swaps := rfl
@[simp] theorem State.setMpll_zones (s : State) (n : Nat) (x : Mpll) : (s.setMpll n x).zones = s.zones := rfl
@[simp] theorem State.setMpll_load (s : State) (n : Nat) (x : Mpll) : (s.setMpll n x).load = s.load := rfl
@[simp] theorem State.setMpll_survey (s : State) (n : Nat) (x : Mpll) : (s.setMpll n x).survey = s.survey := rfl
@[simp] theorem State.setMpll_swept (s : State) (n : Nat) (x : Mpll) : (s.setMpll n x).swept = s.swept := rfl
@[simp] theorem State.setMpll_engines (s : State) (n : Nat) (x : Mpll) : (s.setMpll n x).engines = s.engines := rfl
@[simp] theorem State.setMpll_flash (s : State) (n : Nat) (x : Mpll) : (s.setMpll n x).flash = s.flash := rfl
@[simp] theorem State.setMpll_modePins (s : State) (n : Nat) (x : Mpll) : (s.setMpll n x).modePins = s.modePins := rfl
@[simp] theorem State.setMpll_recovery (s : State) (n : Nat) (x : Mpll) : (s.setMpll n x).recovery = s.recovery := rfl
@[simp] theorem State.setMpll_cfgerr (s : State) (n : Nat) (x : Mpll) : (s.setMpll n x).cfgerr = s.cfgerr := rfl
@[simp] theorem State.setMpll_hostSide (s : State) (n : Nat) (x : Mpll) : (s.setMpll n x).hostSide = s.hostSide := rfl
@[simp] theorem State.setMpll_loadDue (s : State) (n : Nat) (x : Mpll) : (s.setMpll n x).loadDue = s.loadDue := rfl
@[simp] theorem State.setMpll_rebuilds (s : State) (n : Nat) (x : Mpll) : (s.setMpll n x).rebuilds = s.rebuilds := rfl
@[simp] theorem State.setMpll_booted (s : State) (n : Nat) (x : Mpll) : (s.setMpll n x).booted = s.booted := rfl
@[simp] theorem State.setMpll_rebuilt (s : State) (n : Nat) (x : Mpll) : (s.setMpll n x).rebuilt = s.rebuilt := rfl
@[simp] theorem State.setMpll_audit (s : State) (n : Nat) (x : Mpll) : (s.setMpll n x).audit = s.audit := rfl
@[simp] theorem State.setMpll_fwVersion (s : State) (n : Nat) (x : Mpll) : (s.setMpll n x).fwVersion = s.fwVersion := rfl
@[simp] theorem State.setMpll_booting (s : State) (n : Nat) (x : Mpll) : (s.setMpll n x).booting = s.booting := rfl
@[simp] theorem State.setMpll_wokeBy (s : State) (n : Nat) (x : Mpll) : (s.setMpll n x).wokeBy = s.wokeBy := rfl
@[simp] theorem State.setMpll_warm (s : State) (n : Nat) (x : Mpll) : (s.setMpll n x).warm = s.warm := rfl
@[simp] theorem State.setMpll_fatalFirst (s : State) (n : Nat) (x : Mpll) : (s.setMpll n x).fatalFirst = s.fatalFirst := rfl
@[simp] theorem State.setMpll_kickAt (s : State) (n : Nat) (x : Mpll) : (s.setMpll n x).kickAt = s.kickAt := rfl
@[simp] theorem State.setMpll_wdogOut (s : State) (n : Nat) (x : Mpll) : (s.setMpll n x).wdogOut = s.wdogOut := rfl
@[simp] theorem State.setMpll_errWritten (s : State) (n : Nat) (x : Mpll) : (s.setMpll n x).errWritten = s.errWritten := rfl
@[simp] theorem State.setMpll_links (s : State) (n : Nat) (x : Mpll) : (s.setMpll n x).links = s.links := rfl
@[simp] theorem State.setMpll_const (s : State) (n : Nat) (x : Mpll) : (s.setMpll n x).const = s.const := rfl
@[simp] theorem State.setMpll_vserLost (s : State) (n : Nat) (x : Mpll) : (s.setMpll n x).vserLost = s.vserLost := rfl
@[simp] theorem State.setMpll_vserhLost (s : State) (n : Nat) (x : Mpll) : (s.setMpll n x).vserhLost = s.vserhLost := rfl
@[simp] theorem State.setMpll_tap (s : State) (n : Nat) (x : Mpll) : (s.setMpll n x).tap = s.tap := rfl

@[simp] theorem State.setMt_pending (s : State) (n : Nat) (x : Tracker) : (s.setMt n x).pending = s.pending := rfl
@[simp] theorem State.setMt_tickNo (s : State) (n : Nat) (x : Tracker) : (s.setMt n x).tickNo = s.tickNo := rfl
@[simp] theorem State.setMt_free (s : State) (n : Nat) (x : Tracker) : (s.setMt n x).free = s.free := rfl
@[simp] theorem State.setMt_regs (s : State) (n : Nat) (x : Tracker) : (s.setMt n x).regs = s.regs := rfl
@[simp] theorem State.setMt_staged (s : State) (n : Nat) (x : Tracker) : (s.setMt n x).staged = s.staged := rfl
@[simp] theorem State.setMt_prior (s : State) (n : Nat) (x : Tracker) : (s.setMt n x).prior = s.prior := rfl
@[simp] theorem State.setMt_begun (s : State) (n : Nat) (x : Tracker) : (s.setMt n x).begun = s.begun := rfl
@[simp] theorem State.setMt_arms (s : State) (n : Nat) (x : Tracker) : (s.setMt n x).arms = s.arms := rfl
@[simp] theorem State.setMt_owners (s : State) (n : Nat) (x : Tracker) : (s.setMt n x).owners = s.owners := rfl
@[simp] theorem State.setMt_time (s : State) (n : Nat) (x : Tracker) : (s.setMt n x).time = s.time := rfl
@[simp] theorem State.setMt_mplls (s : State) (n : Nat) (x : Tracker) : (s.setMt n x).mplls = s.mplls := rfl
@[simp] theorem State.setMt_sills (s : State) (n : Nat) (x : Tracker) : (s.setMt n x).sills = s.sills := rfl
@[simp] theorem State.setMt_ports (s : State) (n : Nat) (x : Tracker) : (s.setMt n x).ports = s.ports := rfl
@[simp] theorem State.setMt_atns (s : State) (n : Nat) (x : Tracker) : (s.setMt n x).atns = s.atns := rfl
@[simp] theorem State.setMt_seqs (s : State) (n : Nat) (x : Tracker) : (s.setMt n x).seqs = s.seqs := rfl
@[simp] theorem State.setMt_lane (s : State) (n : Nat) (x : Tracker) : (s.setMt n x).lane = s.lane := rfl
@[simp] theorem State.setMt_commits (s : State) (n : Nat) (x : Tracker) : (s.setMt n x).commits = s.commits := rfl
@[simp] theorem State.setMt_laneLast (s : State) (n : Nat) (x : Tracker) : (s.setMt n x).laneLast = s.laneLast := rfl
@[simp] theorem State.setMt_laneDown (s : State) (n : Nat) (x : Tracker) : (s.setMt n x).laneDown = s.laneDown := rfl
@[simp] theorem State.setMt_gwEntries (s : State) (n : Nat) (x : Tracker) : (s.setMt n x).gwEntries = s.gwEntries := rfl
@[simp] theorem State.setMt_caldera (s : State) (n : Nat) (x : Tracker) : (s.setMt n x).caldera = s.caldera := rfl
@[simp] theorem State.setMt_bus (s : State) (n : Nat) (x : Tracker) : (s.setMt n x).bus = s.bus := rfl
@[simp] theorem State.setMt_ringOld (s : State) (n : Nat) (x : Tracker) : (s.setMt n x).ringOld = s.ringOld := rfl
@[simp] theorem State.setMt_ringWaits (s : State) (n : Nat) (x : Tracker) : (s.setMt n x).ringWaits = s.ringWaits := rfl
@[simp] theorem State.setMt_flaws (s : State) (n : Nat) (x : Tracker) : (s.setMt n x).flaws = s.flaws := rfl
@[simp] theorem State.setMt_watermarks (s : State) (n : Nat) (x : Tracker) : (s.setMt n x).watermarks = s.watermarks := rfl
@[simp] theorem State.setMt_errq (s : State) (n : Nat) (x : Tracker) : (s.setMt n x).errq = s.errq := rfl
@[simp] theorem State.setMt_cpNotes (s : State) (n : Nat) (x : Tracker) : (s.setMt n x).cpNotes = s.cpNotes := rfl
@[simp] theorem State.setMt_pcNotes (s : State) (n : Nat) (x : Tracker) : (s.setMt n x).pcNotes = s.pcNotes := rfl
@[simp] theorem State.setMt_cpNoteOvf (s : State) (n : Nat) (x : Tracker) : (s.setMt n x).cpNoteOvf = s.cpNoteOvf := rfl
@[simp] theorem State.setMt_pcNoteOvf (s : State) (n : Nat) (x : Tracker) : (s.setMt n x).pcNoteOvf = s.pcNoteOvf := rfl
@[simp] theorem State.setMt_hrdy (s : State) (n : Nat) (x : Tracker) : (s.setMt n x).hrdy = s.hrdy := rfl
@[simp] theorem State.setMt_blinks (s : State) (n : Nat) (x : Tracker) : (s.setMt n x).blinks = s.blinks := rfl
@[simp] theorem State.setMt_msixMask (s : State) (n : Nat) (x : Tracker) : (s.setMt n x).msixMask = s.msixMask := rfl
@[simp] theorem State.setMt_msixPend (s : State) (n : Nat) (x : Tracker) : (s.setMt n x).msixPend = s.msixPend := rfl
@[simp] theorem State.setMt_out (s : State) (n : Nat) (x : Tracker) : (s.setMt n x).out = s.out := rfl
@[simp] theorem State.setMt_swaps (s : State) (n : Nat) (x : Tracker) : (s.setMt n x).swaps = s.swaps := rfl
@[simp] theorem State.setMt_zones (s : State) (n : Nat) (x : Tracker) : (s.setMt n x).zones = s.zones := rfl
@[simp] theorem State.setMt_load (s : State) (n : Nat) (x : Tracker) : (s.setMt n x).load = s.load := rfl
@[simp] theorem State.setMt_survey (s : State) (n : Nat) (x : Tracker) : (s.setMt n x).survey = s.survey := rfl
@[simp] theorem State.setMt_swept (s : State) (n : Nat) (x : Tracker) : (s.setMt n x).swept = s.swept := rfl
@[simp] theorem State.setMt_engines (s : State) (n : Nat) (x : Tracker) : (s.setMt n x).engines = s.engines := rfl
@[simp] theorem State.setMt_flash (s : State) (n : Nat) (x : Tracker) : (s.setMt n x).flash = s.flash := rfl
@[simp] theorem State.setMt_modePins (s : State) (n : Nat) (x : Tracker) : (s.setMt n x).modePins = s.modePins := rfl
@[simp] theorem State.setMt_recovery (s : State) (n : Nat) (x : Tracker) : (s.setMt n x).recovery = s.recovery := rfl
@[simp] theorem State.setMt_cfgerr (s : State) (n : Nat) (x : Tracker) : (s.setMt n x).cfgerr = s.cfgerr := rfl
@[simp] theorem State.setMt_hostSide (s : State) (n : Nat) (x : Tracker) : (s.setMt n x).hostSide = s.hostSide := rfl
@[simp] theorem State.setMt_loadDue (s : State) (n : Nat) (x : Tracker) : (s.setMt n x).loadDue = s.loadDue := rfl
@[simp] theorem State.setMt_rebuilds (s : State) (n : Nat) (x : Tracker) : (s.setMt n x).rebuilds = s.rebuilds := rfl
@[simp] theorem State.setMt_booted (s : State) (n : Nat) (x : Tracker) : (s.setMt n x).booted = s.booted := rfl
@[simp] theorem State.setMt_rebuilt (s : State) (n : Nat) (x : Tracker) : (s.setMt n x).rebuilt = s.rebuilt := rfl
@[simp] theorem State.setMt_audit (s : State) (n : Nat) (x : Tracker) : (s.setMt n x).audit = s.audit := rfl
@[simp] theorem State.setMt_fwVersion (s : State) (n : Nat) (x : Tracker) : (s.setMt n x).fwVersion = s.fwVersion := rfl
@[simp] theorem State.setMt_booting (s : State) (n : Nat) (x : Tracker) : (s.setMt n x).booting = s.booting := rfl
@[simp] theorem State.setMt_wokeBy (s : State) (n : Nat) (x : Tracker) : (s.setMt n x).wokeBy = s.wokeBy := rfl
@[simp] theorem State.setMt_warm (s : State) (n : Nat) (x : Tracker) : (s.setMt n x).warm = s.warm := rfl
@[simp] theorem State.setMt_fatalFirst (s : State) (n : Nat) (x : Tracker) : (s.setMt n x).fatalFirst = s.fatalFirst := rfl
@[simp] theorem State.setMt_kickAt (s : State) (n : Nat) (x : Tracker) : (s.setMt n x).kickAt = s.kickAt := rfl
@[simp] theorem State.setMt_wdogOut (s : State) (n : Nat) (x : Tracker) : (s.setMt n x).wdogOut = s.wdogOut := rfl
@[simp] theorem State.setMt_errWritten (s : State) (n : Nat) (x : Tracker) : (s.setMt n x).errWritten = s.errWritten := rfl
@[simp] theorem State.setMt_links (s : State) (n : Nat) (x : Tracker) : (s.setMt n x).links = s.links := rfl
@[simp] theorem State.setMt_const (s : State) (n : Nat) (x : Tracker) : (s.setMt n x).const = s.const := rfl
@[simp] theorem State.setMt_vserLost (s : State) (n : Nat) (x : Tracker) : (s.setMt n x).vserLost = s.vserLost := rfl
@[simp] theorem State.setMt_vserhLost (s : State) (n : Nat) (x : Tracker) : (s.setMt n x).vserhLost = s.vserhLost := rfl
@[simp] theorem State.setMt_tap (s : State) (n : Nat) (x : Tracker) : (s.setMt n x).tap = s.tap := rfl

@[simp] theorem State.setSill_pending (s : State) (n : Nat) (x : Sill) : (s.setSill n x).pending = s.pending := rfl
@[simp] theorem State.setSill_tickNo (s : State) (n : Nat) (x : Sill) : (s.setSill n x).tickNo = s.tickNo := rfl
@[simp] theorem State.setSill_free (s : State) (n : Nat) (x : Sill) : (s.setSill n x).free = s.free := rfl
@[simp] theorem State.setSill_regs (s : State) (n : Nat) (x : Sill) : (s.setSill n x).regs = s.regs := rfl
@[simp] theorem State.setSill_staged (s : State) (n : Nat) (x : Sill) : (s.setSill n x).staged = s.staged := rfl
@[simp] theorem State.setSill_prior (s : State) (n : Nat) (x : Sill) : (s.setSill n x).prior = s.prior := rfl
@[simp] theorem State.setSill_begun (s : State) (n : Nat) (x : Sill) : (s.setSill n x).begun = s.begun := rfl
@[simp] theorem State.setSill_arms (s : State) (n : Nat) (x : Sill) : (s.setSill n x).arms = s.arms := rfl
@[simp] theorem State.setSill_owners (s : State) (n : Nat) (x : Sill) : (s.setSill n x).owners = s.owners := rfl
@[simp] theorem State.setSill_time (s : State) (n : Nat) (x : Sill) : (s.setSill n x).time = s.time := rfl
@[simp] theorem State.setSill_mplls (s : State) (n : Nat) (x : Sill) : (s.setSill n x).mplls = s.mplls := rfl
@[simp] theorem State.setSill_trackers (s : State) (n : Nat) (x : Sill) : (s.setSill n x).trackers = s.trackers := rfl
@[simp] theorem State.setSill_ports (s : State) (n : Nat) (x : Sill) : (s.setSill n x).ports = s.ports := rfl
@[simp] theorem State.setSill_atns (s : State) (n : Nat) (x : Sill) : (s.setSill n x).atns = s.atns := rfl
@[simp] theorem State.setSill_seqs (s : State) (n : Nat) (x : Sill) : (s.setSill n x).seqs = s.seqs := rfl
@[simp] theorem State.setSill_lane (s : State) (n : Nat) (x : Sill) : (s.setSill n x).lane = s.lane := rfl
@[simp] theorem State.setSill_commits (s : State) (n : Nat) (x : Sill) : (s.setSill n x).commits = s.commits := rfl
@[simp] theorem State.setSill_laneLast (s : State) (n : Nat) (x : Sill) : (s.setSill n x).laneLast = s.laneLast := rfl
@[simp] theorem State.setSill_laneDown (s : State) (n : Nat) (x : Sill) : (s.setSill n x).laneDown = s.laneDown := rfl
@[simp] theorem State.setSill_gwEntries (s : State) (n : Nat) (x : Sill) : (s.setSill n x).gwEntries = s.gwEntries := rfl
@[simp] theorem State.setSill_caldera (s : State) (n : Nat) (x : Sill) : (s.setSill n x).caldera = s.caldera := rfl
@[simp] theorem State.setSill_bus (s : State) (n : Nat) (x : Sill) : (s.setSill n x).bus = s.bus := rfl
@[simp] theorem State.setSill_ringOld (s : State) (n : Nat) (x : Sill) : (s.setSill n x).ringOld = s.ringOld := rfl
@[simp] theorem State.setSill_ringWaits (s : State) (n : Nat) (x : Sill) : (s.setSill n x).ringWaits = s.ringWaits := rfl
@[simp] theorem State.setSill_flaws (s : State) (n : Nat) (x : Sill) : (s.setSill n x).flaws = s.flaws := rfl
@[simp] theorem State.setSill_watermarks (s : State) (n : Nat) (x : Sill) : (s.setSill n x).watermarks = s.watermarks := rfl
@[simp] theorem State.setSill_errq (s : State) (n : Nat) (x : Sill) : (s.setSill n x).errq = s.errq := rfl
@[simp] theorem State.setSill_cpNotes (s : State) (n : Nat) (x : Sill) : (s.setSill n x).cpNotes = s.cpNotes := rfl
@[simp] theorem State.setSill_pcNotes (s : State) (n : Nat) (x : Sill) : (s.setSill n x).pcNotes = s.pcNotes := rfl
@[simp] theorem State.setSill_cpNoteOvf (s : State) (n : Nat) (x : Sill) : (s.setSill n x).cpNoteOvf = s.cpNoteOvf := rfl
@[simp] theorem State.setSill_pcNoteOvf (s : State) (n : Nat) (x : Sill) : (s.setSill n x).pcNoteOvf = s.pcNoteOvf := rfl
@[simp] theorem State.setSill_hrdy (s : State) (n : Nat) (x : Sill) : (s.setSill n x).hrdy = s.hrdy := rfl
@[simp] theorem State.setSill_blinks (s : State) (n : Nat) (x : Sill) : (s.setSill n x).blinks = s.blinks := rfl
@[simp] theorem State.setSill_msixMask (s : State) (n : Nat) (x : Sill) : (s.setSill n x).msixMask = s.msixMask := rfl
@[simp] theorem State.setSill_msixPend (s : State) (n : Nat) (x : Sill) : (s.setSill n x).msixPend = s.msixPend := rfl
@[simp] theorem State.setSill_out (s : State) (n : Nat) (x : Sill) : (s.setSill n x).out = s.out := rfl
@[simp] theorem State.setSill_swaps (s : State) (n : Nat) (x : Sill) : (s.setSill n x).swaps = s.swaps := rfl
@[simp] theorem State.setSill_zones (s : State) (n : Nat) (x : Sill) : (s.setSill n x).zones = s.zones := rfl
@[simp] theorem State.setSill_load (s : State) (n : Nat) (x : Sill) : (s.setSill n x).load = s.load := rfl
@[simp] theorem State.setSill_survey (s : State) (n : Nat) (x : Sill) : (s.setSill n x).survey = s.survey := rfl
@[simp] theorem State.setSill_swept (s : State) (n : Nat) (x : Sill) : (s.setSill n x).swept = s.swept := rfl
@[simp] theorem State.setSill_engines (s : State) (n : Nat) (x : Sill) : (s.setSill n x).engines = s.engines := rfl
@[simp] theorem State.setSill_flash (s : State) (n : Nat) (x : Sill) : (s.setSill n x).flash = s.flash := rfl
@[simp] theorem State.setSill_modePins (s : State) (n : Nat) (x : Sill) : (s.setSill n x).modePins = s.modePins := rfl
@[simp] theorem State.setSill_recovery (s : State) (n : Nat) (x : Sill) : (s.setSill n x).recovery = s.recovery := rfl
@[simp] theorem State.setSill_cfgerr (s : State) (n : Nat) (x : Sill) : (s.setSill n x).cfgerr = s.cfgerr := rfl
@[simp] theorem State.setSill_hostSide (s : State) (n : Nat) (x : Sill) : (s.setSill n x).hostSide = s.hostSide := rfl
@[simp] theorem State.setSill_loadDue (s : State) (n : Nat) (x : Sill) : (s.setSill n x).loadDue = s.loadDue := rfl
@[simp] theorem State.setSill_rebuilds (s : State) (n : Nat) (x : Sill) : (s.setSill n x).rebuilds = s.rebuilds := rfl
@[simp] theorem State.setSill_booted (s : State) (n : Nat) (x : Sill) : (s.setSill n x).booted = s.booted := rfl
@[simp] theorem State.setSill_rebuilt (s : State) (n : Nat) (x : Sill) : (s.setSill n x).rebuilt = s.rebuilt := rfl
@[simp] theorem State.setSill_audit (s : State) (n : Nat) (x : Sill) : (s.setSill n x).audit = s.audit := rfl
@[simp] theorem State.setSill_fwVersion (s : State) (n : Nat) (x : Sill) : (s.setSill n x).fwVersion = s.fwVersion := rfl
@[simp] theorem State.setSill_booting (s : State) (n : Nat) (x : Sill) : (s.setSill n x).booting = s.booting := rfl
@[simp] theorem State.setSill_wokeBy (s : State) (n : Nat) (x : Sill) : (s.setSill n x).wokeBy = s.wokeBy := rfl
@[simp] theorem State.setSill_warm (s : State) (n : Nat) (x : Sill) : (s.setSill n x).warm = s.warm := rfl
@[simp] theorem State.setSill_fatalFirst (s : State) (n : Nat) (x : Sill) : (s.setSill n x).fatalFirst = s.fatalFirst := rfl
@[simp] theorem State.setSill_kickAt (s : State) (n : Nat) (x : Sill) : (s.setSill n x).kickAt = s.kickAt := rfl
@[simp] theorem State.setSill_wdogOut (s : State) (n : Nat) (x : Sill) : (s.setSill n x).wdogOut = s.wdogOut := rfl
@[simp] theorem State.setSill_errWritten (s : State) (n : Nat) (x : Sill) : (s.setSill n x).errWritten = s.errWritten := rfl
@[simp] theorem State.setSill_links (s : State) (n : Nat) (x : Sill) : (s.setSill n x).links = s.links := rfl
@[simp] theorem State.setSill_const (s : State) (n : Nat) (x : Sill) : (s.setSill n x).const = s.const := rfl
@[simp] theorem State.setSill_vserLost (s : State) (n : Nat) (x : Sill) : (s.setSill n x).vserLost = s.vserLost := rfl
@[simp] theorem State.setSill_vserhLost (s : State) (n : Nat) (x : Sill) : (s.setSill n x).vserhLost = s.vserhLost := rfl
@[simp] theorem State.setSill_tap (s : State) (n : Nat) (x : Sill) : (s.setSill n x).tap = s.tap := rfl

@[simp] theorem State.setPort_pending (s : State) (n : Nat) (x : Port) : (s.setPort n x).pending = s.pending := rfl
@[simp] theorem State.setPort_tickNo (s : State) (n : Nat) (x : Port) : (s.setPort n x).tickNo = s.tickNo := rfl
@[simp] theorem State.setPort_free (s : State) (n : Nat) (x : Port) : (s.setPort n x).free = s.free := rfl
@[simp] theorem State.setPort_regs (s : State) (n : Nat) (x : Port) : (s.setPort n x).regs = s.regs := rfl
@[simp] theorem State.setPort_staged (s : State) (n : Nat) (x : Port) : (s.setPort n x).staged = s.staged := rfl
@[simp] theorem State.setPort_prior (s : State) (n : Nat) (x : Port) : (s.setPort n x).prior = s.prior := rfl
@[simp] theorem State.setPort_begun (s : State) (n : Nat) (x : Port) : (s.setPort n x).begun = s.begun := rfl
@[simp] theorem State.setPort_arms (s : State) (n : Nat) (x : Port) : (s.setPort n x).arms = s.arms := rfl
@[simp] theorem State.setPort_owners (s : State) (n : Nat) (x : Port) : (s.setPort n x).owners = s.owners := rfl
@[simp] theorem State.setPort_time (s : State) (n : Nat) (x : Port) : (s.setPort n x).time = s.time := rfl
@[simp] theorem State.setPort_mplls (s : State) (n : Nat) (x : Port) : (s.setPort n x).mplls = s.mplls := rfl
@[simp] theorem State.setPort_trackers (s : State) (n : Nat) (x : Port) : (s.setPort n x).trackers = s.trackers := rfl
@[simp] theorem State.setPort_sills (s : State) (n : Nat) (x : Port) : (s.setPort n x).sills = s.sills := rfl
@[simp] theorem State.setPort_atns (s : State) (n : Nat) (x : Port) : (s.setPort n x).atns = s.atns := rfl
@[simp] theorem State.setPort_seqs (s : State) (n : Nat) (x : Port) : (s.setPort n x).seqs = s.seqs := rfl
@[simp] theorem State.setPort_lane (s : State) (n : Nat) (x : Port) : (s.setPort n x).lane = s.lane := rfl
@[simp] theorem State.setPort_commits (s : State) (n : Nat) (x : Port) : (s.setPort n x).commits = s.commits := rfl
@[simp] theorem State.setPort_laneLast (s : State) (n : Nat) (x : Port) : (s.setPort n x).laneLast = s.laneLast := rfl
@[simp] theorem State.setPort_laneDown (s : State) (n : Nat) (x : Port) : (s.setPort n x).laneDown = s.laneDown := rfl
@[simp] theorem State.setPort_gwEntries (s : State) (n : Nat) (x : Port) : (s.setPort n x).gwEntries = s.gwEntries := rfl
@[simp] theorem State.setPort_caldera (s : State) (n : Nat) (x : Port) : (s.setPort n x).caldera = s.caldera := rfl
@[simp] theorem State.setPort_bus (s : State) (n : Nat) (x : Port) : (s.setPort n x).bus = s.bus := rfl
@[simp] theorem State.setPort_ringOld (s : State) (n : Nat) (x : Port) : (s.setPort n x).ringOld = s.ringOld := rfl
@[simp] theorem State.setPort_ringWaits (s : State) (n : Nat) (x : Port) : (s.setPort n x).ringWaits = s.ringWaits := rfl
@[simp] theorem State.setPort_flaws (s : State) (n : Nat) (x : Port) : (s.setPort n x).flaws = s.flaws := rfl
@[simp] theorem State.setPort_watermarks (s : State) (n : Nat) (x : Port) : (s.setPort n x).watermarks = s.watermarks := rfl
@[simp] theorem State.setPort_errq (s : State) (n : Nat) (x : Port) : (s.setPort n x).errq = s.errq := rfl
@[simp] theorem State.setPort_cpNotes (s : State) (n : Nat) (x : Port) : (s.setPort n x).cpNotes = s.cpNotes := rfl
@[simp] theorem State.setPort_pcNotes (s : State) (n : Nat) (x : Port) : (s.setPort n x).pcNotes = s.pcNotes := rfl
@[simp] theorem State.setPort_cpNoteOvf (s : State) (n : Nat) (x : Port) : (s.setPort n x).cpNoteOvf = s.cpNoteOvf := rfl
@[simp] theorem State.setPort_pcNoteOvf (s : State) (n : Nat) (x : Port) : (s.setPort n x).pcNoteOvf = s.pcNoteOvf := rfl
@[simp] theorem State.setPort_hrdy (s : State) (n : Nat) (x : Port) : (s.setPort n x).hrdy = s.hrdy := rfl
@[simp] theorem State.setPort_blinks (s : State) (n : Nat) (x : Port) : (s.setPort n x).blinks = s.blinks := rfl
@[simp] theorem State.setPort_msixMask (s : State) (n : Nat) (x : Port) : (s.setPort n x).msixMask = s.msixMask := rfl
@[simp] theorem State.setPort_msixPend (s : State) (n : Nat) (x : Port) : (s.setPort n x).msixPend = s.msixPend := rfl
@[simp] theorem State.setPort_out (s : State) (n : Nat) (x : Port) : (s.setPort n x).out = s.out := rfl
@[simp] theorem State.setPort_swaps (s : State) (n : Nat) (x : Port) : (s.setPort n x).swaps = s.swaps := rfl
@[simp] theorem State.setPort_zones (s : State) (n : Nat) (x : Port) : (s.setPort n x).zones = s.zones := rfl
@[simp] theorem State.setPort_load (s : State) (n : Nat) (x : Port) : (s.setPort n x).load = s.load := rfl
@[simp] theorem State.setPort_survey (s : State) (n : Nat) (x : Port) : (s.setPort n x).survey = s.survey := rfl
@[simp] theorem State.setPort_swept (s : State) (n : Nat) (x : Port) : (s.setPort n x).swept = s.swept := rfl
@[simp] theorem State.setPort_engines (s : State) (n : Nat) (x : Port) : (s.setPort n x).engines = s.engines := rfl
@[simp] theorem State.setPort_flash (s : State) (n : Nat) (x : Port) : (s.setPort n x).flash = s.flash := rfl
@[simp] theorem State.setPort_modePins (s : State) (n : Nat) (x : Port) : (s.setPort n x).modePins = s.modePins := rfl
@[simp] theorem State.setPort_recovery (s : State) (n : Nat) (x : Port) : (s.setPort n x).recovery = s.recovery := rfl
@[simp] theorem State.setPort_cfgerr (s : State) (n : Nat) (x : Port) : (s.setPort n x).cfgerr = s.cfgerr := rfl
@[simp] theorem State.setPort_hostSide (s : State) (n : Nat) (x : Port) : (s.setPort n x).hostSide = s.hostSide := rfl
@[simp] theorem State.setPort_loadDue (s : State) (n : Nat) (x : Port) : (s.setPort n x).loadDue = s.loadDue := rfl
@[simp] theorem State.setPort_rebuilds (s : State) (n : Nat) (x : Port) : (s.setPort n x).rebuilds = s.rebuilds := rfl
@[simp] theorem State.setPort_booted (s : State) (n : Nat) (x : Port) : (s.setPort n x).booted = s.booted := rfl
@[simp] theorem State.setPort_rebuilt (s : State) (n : Nat) (x : Port) : (s.setPort n x).rebuilt = s.rebuilt := rfl
@[simp] theorem State.setPort_audit (s : State) (n : Nat) (x : Port) : (s.setPort n x).audit = s.audit := rfl
@[simp] theorem State.setPort_fwVersion (s : State) (n : Nat) (x : Port) : (s.setPort n x).fwVersion = s.fwVersion := rfl
@[simp] theorem State.setPort_booting (s : State) (n : Nat) (x : Port) : (s.setPort n x).booting = s.booting := rfl
@[simp] theorem State.setPort_wokeBy (s : State) (n : Nat) (x : Port) : (s.setPort n x).wokeBy = s.wokeBy := rfl
@[simp] theorem State.setPort_warm (s : State) (n : Nat) (x : Port) : (s.setPort n x).warm = s.warm := rfl
@[simp] theorem State.setPort_fatalFirst (s : State) (n : Nat) (x : Port) : (s.setPort n x).fatalFirst = s.fatalFirst := rfl
@[simp] theorem State.setPort_kickAt (s : State) (n : Nat) (x : Port) : (s.setPort n x).kickAt = s.kickAt := rfl
@[simp] theorem State.setPort_wdogOut (s : State) (n : Nat) (x : Port) : (s.setPort n x).wdogOut = s.wdogOut := rfl
@[simp] theorem State.setPort_errWritten (s : State) (n : Nat) (x : Port) : (s.setPort n x).errWritten = s.errWritten := rfl
@[simp] theorem State.setPort_links (s : State) (n : Nat) (x : Port) : (s.setPort n x).links = s.links := rfl
@[simp] theorem State.setPort_const (s : State) (n : Nat) (x : Port) : (s.setPort n x).const = s.const := rfl
@[simp] theorem State.setPort_vserLost (s : State) (n : Nat) (x : Port) : (s.setPort n x).vserLost = s.vserLost := rfl
@[simp] theorem State.setPort_vserhLost (s : State) (n : Nat) (x : Port) : (s.setPort n x).vserhLost = s.vserhLost := rfl
@[simp] theorem State.setPort_tap (s : State) (n : Nat) (x : Port) : (s.setPort n x).tap = s.tap := rfl

@[simp] theorem State.setAtn_pending (s : State) (n : Nat) (x : Atn) : (s.setAtn n x).pending = s.pending := rfl
@[simp] theorem State.setAtn_tickNo (s : State) (n : Nat) (x : Atn) : (s.setAtn n x).tickNo = s.tickNo := rfl
@[simp] theorem State.setAtn_free (s : State) (n : Nat) (x : Atn) : (s.setAtn n x).free = s.free := rfl
@[simp] theorem State.setAtn_regs (s : State) (n : Nat) (x : Atn) : (s.setAtn n x).regs = s.regs := rfl
@[simp] theorem State.setAtn_staged (s : State) (n : Nat) (x : Atn) : (s.setAtn n x).staged = s.staged := rfl
@[simp] theorem State.setAtn_prior (s : State) (n : Nat) (x : Atn) : (s.setAtn n x).prior = s.prior := rfl
@[simp] theorem State.setAtn_begun (s : State) (n : Nat) (x : Atn) : (s.setAtn n x).begun = s.begun := rfl
@[simp] theorem State.setAtn_arms (s : State) (n : Nat) (x : Atn) : (s.setAtn n x).arms = s.arms := rfl
@[simp] theorem State.setAtn_owners (s : State) (n : Nat) (x : Atn) : (s.setAtn n x).owners = s.owners := rfl
@[simp] theorem State.setAtn_time (s : State) (n : Nat) (x : Atn) : (s.setAtn n x).time = s.time := rfl
@[simp] theorem State.setAtn_mplls (s : State) (n : Nat) (x : Atn) : (s.setAtn n x).mplls = s.mplls := rfl
@[simp] theorem State.setAtn_trackers (s : State) (n : Nat) (x : Atn) : (s.setAtn n x).trackers = s.trackers := rfl
@[simp] theorem State.setAtn_sills (s : State) (n : Nat) (x : Atn) : (s.setAtn n x).sills = s.sills := rfl
@[simp] theorem State.setAtn_ports (s : State) (n : Nat) (x : Atn) : (s.setAtn n x).ports = s.ports := rfl
@[simp] theorem State.setAtn_seqs (s : State) (n : Nat) (x : Atn) : (s.setAtn n x).seqs = s.seqs := rfl
@[simp] theorem State.setAtn_lane (s : State) (n : Nat) (x : Atn) : (s.setAtn n x).lane = s.lane := rfl
@[simp] theorem State.setAtn_commits (s : State) (n : Nat) (x : Atn) : (s.setAtn n x).commits = s.commits := rfl
@[simp] theorem State.setAtn_laneLast (s : State) (n : Nat) (x : Atn) : (s.setAtn n x).laneLast = s.laneLast := rfl
@[simp] theorem State.setAtn_laneDown (s : State) (n : Nat) (x : Atn) : (s.setAtn n x).laneDown = s.laneDown := rfl
@[simp] theorem State.setAtn_gwEntries (s : State) (n : Nat) (x : Atn) : (s.setAtn n x).gwEntries = s.gwEntries := rfl
@[simp] theorem State.setAtn_caldera (s : State) (n : Nat) (x : Atn) : (s.setAtn n x).caldera = s.caldera := rfl
@[simp] theorem State.setAtn_bus (s : State) (n : Nat) (x : Atn) : (s.setAtn n x).bus = s.bus := rfl
@[simp] theorem State.setAtn_ringOld (s : State) (n : Nat) (x : Atn) : (s.setAtn n x).ringOld = s.ringOld := rfl
@[simp] theorem State.setAtn_ringWaits (s : State) (n : Nat) (x : Atn) : (s.setAtn n x).ringWaits = s.ringWaits := rfl
@[simp] theorem State.setAtn_flaws (s : State) (n : Nat) (x : Atn) : (s.setAtn n x).flaws = s.flaws := rfl
@[simp] theorem State.setAtn_watermarks (s : State) (n : Nat) (x : Atn) : (s.setAtn n x).watermarks = s.watermarks := rfl
@[simp] theorem State.setAtn_errq (s : State) (n : Nat) (x : Atn) : (s.setAtn n x).errq = s.errq := rfl
@[simp] theorem State.setAtn_cpNotes (s : State) (n : Nat) (x : Atn) : (s.setAtn n x).cpNotes = s.cpNotes := rfl
@[simp] theorem State.setAtn_pcNotes (s : State) (n : Nat) (x : Atn) : (s.setAtn n x).pcNotes = s.pcNotes := rfl
@[simp] theorem State.setAtn_cpNoteOvf (s : State) (n : Nat) (x : Atn) : (s.setAtn n x).cpNoteOvf = s.cpNoteOvf := rfl
@[simp] theorem State.setAtn_pcNoteOvf (s : State) (n : Nat) (x : Atn) : (s.setAtn n x).pcNoteOvf = s.pcNoteOvf := rfl
@[simp] theorem State.setAtn_hrdy (s : State) (n : Nat) (x : Atn) : (s.setAtn n x).hrdy = s.hrdy := rfl
@[simp] theorem State.setAtn_blinks (s : State) (n : Nat) (x : Atn) : (s.setAtn n x).blinks = s.blinks := rfl
@[simp] theorem State.setAtn_msixMask (s : State) (n : Nat) (x : Atn) : (s.setAtn n x).msixMask = s.msixMask := rfl
@[simp] theorem State.setAtn_msixPend (s : State) (n : Nat) (x : Atn) : (s.setAtn n x).msixPend = s.msixPend := rfl
@[simp] theorem State.setAtn_out (s : State) (n : Nat) (x : Atn) : (s.setAtn n x).out = s.out := rfl
@[simp] theorem State.setAtn_swaps (s : State) (n : Nat) (x : Atn) : (s.setAtn n x).swaps = s.swaps := rfl
@[simp] theorem State.setAtn_zones (s : State) (n : Nat) (x : Atn) : (s.setAtn n x).zones = s.zones := rfl
@[simp] theorem State.setAtn_load (s : State) (n : Nat) (x : Atn) : (s.setAtn n x).load = s.load := rfl
@[simp] theorem State.setAtn_survey (s : State) (n : Nat) (x : Atn) : (s.setAtn n x).survey = s.survey := rfl
@[simp] theorem State.setAtn_swept (s : State) (n : Nat) (x : Atn) : (s.setAtn n x).swept = s.swept := rfl
@[simp] theorem State.setAtn_engines (s : State) (n : Nat) (x : Atn) : (s.setAtn n x).engines = s.engines := rfl
@[simp] theorem State.setAtn_flash (s : State) (n : Nat) (x : Atn) : (s.setAtn n x).flash = s.flash := rfl
@[simp] theorem State.setAtn_modePins (s : State) (n : Nat) (x : Atn) : (s.setAtn n x).modePins = s.modePins := rfl
@[simp] theorem State.setAtn_recovery (s : State) (n : Nat) (x : Atn) : (s.setAtn n x).recovery = s.recovery := rfl
@[simp] theorem State.setAtn_cfgerr (s : State) (n : Nat) (x : Atn) : (s.setAtn n x).cfgerr = s.cfgerr := rfl
@[simp] theorem State.setAtn_hostSide (s : State) (n : Nat) (x : Atn) : (s.setAtn n x).hostSide = s.hostSide := rfl
@[simp] theorem State.setAtn_loadDue (s : State) (n : Nat) (x : Atn) : (s.setAtn n x).loadDue = s.loadDue := rfl
@[simp] theorem State.setAtn_rebuilds (s : State) (n : Nat) (x : Atn) : (s.setAtn n x).rebuilds = s.rebuilds := rfl
@[simp] theorem State.setAtn_booted (s : State) (n : Nat) (x : Atn) : (s.setAtn n x).booted = s.booted := rfl
@[simp] theorem State.setAtn_rebuilt (s : State) (n : Nat) (x : Atn) : (s.setAtn n x).rebuilt = s.rebuilt := rfl
@[simp] theorem State.setAtn_audit (s : State) (n : Nat) (x : Atn) : (s.setAtn n x).audit = s.audit := rfl
@[simp] theorem State.setAtn_fwVersion (s : State) (n : Nat) (x : Atn) : (s.setAtn n x).fwVersion = s.fwVersion := rfl
@[simp] theorem State.setAtn_booting (s : State) (n : Nat) (x : Atn) : (s.setAtn n x).booting = s.booting := rfl
@[simp] theorem State.setAtn_wokeBy (s : State) (n : Nat) (x : Atn) : (s.setAtn n x).wokeBy = s.wokeBy := rfl
@[simp] theorem State.setAtn_warm (s : State) (n : Nat) (x : Atn) : (s.setAtn n x).warm = s.warm := rfl
@[simp] theorem State.setAtn_fatalFirst (s : State) (n : Nat) (x : Atn) : (s.setAtn n x).fatalFirst = s.fatalFirst := rfl
@[simp] theorem State.setAtn_kickAt (s : State) (n : Nat) (x : Atn) : (s.setAtn n x).kickAt = s.kickAt := rfl
@[simp] theorem State.setAtn_wdogOut (s : State) (n : Nat) (x : Atn) : (s.setAtn n x).wdogOut = s.wdogOut := rfl
@[simp] theorem State.setAtn_errWritten (s : State) (n : Nat) (x : Atn) : (s.setAtn n x).errWritten = s.errWritten := rfl
@[simp] theorem State.setAtn_links (s : State) (n : Nat) (x : Atn) : (s.setAtn n x).links = s.links := rfl
@[simp] theorem State.setAtn_const (s : State) (n : Nat) (x : Atn) : (s.setAtn n x).const = s.const := rfl
@[simp] theorem State.setAtn_vserLost (s : State) (n : Nat) (x : Atn) : (s.setAtn n x).vserLost = s.vserLost := rfl
@[simp] theorem State.setAtn_vserhLost (s : State) (n : Nat) (x : Atn) : (s.setAtn n x).vserhLost = s.vserhLost := rfl
@[simp] theorem State.setAtn_tap (s : State) (n : Nat) (x : Atn) : (s.setAtn n x).tap = s.tap := rfl

@[simp] theorem State.setSeq_pending (s : State) (n : Nat) (x : Seq) : (s.setSeq n x).pending = s.pending := rfl
@[simp] theorem State.setSeq_tickNo (s : State) (n : Nat) (x : Seq) : (s.setSeq n x).tickNo = s.tickNo := rfl
@[simp] theorem State.setSeq_free (s : State) (n : Nat) (x : Seq) : (s.setSeq n x).free = s.free := rfl
@[simp] theorem State.setSeq_regs (s : State) (n : Nat) (x : Seq) : (s.setSeq n x).regs = s.regs := rfl
@[simp] theorem State.setSeq_staged (s : State) (n : Nat) (x : Seq) : (s.setSeq n x).staged = s.staged := rfl
@[simp] theorem State.setSeq_prior (s : State) (n : Nat) (x : Seq) : (s.setSeq n x).prior = s.prior := rfl
@[simp] theorem State.setSeq_begun (s : State) (n : Nat) (x : Seq) : (s.setSeq n x).begun = s.begun := rfl
@[simp] theorem State.setSeq_arms (s : State) (n : Nat) (x : Seq) : (s.setSeq n x).arms = s.arms := rfl
@[simp] theorem State.setSeq_owners (s : State) (n : Nat) (x : Seq) : (s.setSeq n x).owners = s.owners := rfl
@[simp] theorem State.setSeq_time (s : State) (n : Nat) (x : Seq) : (s.setSeq n x).time = s.time := rfl
@[simp] theorem State.setSeq_mplls (s : State) (n : Nat) (x : Seq) : (s.setSeq n x).mplls = s.mplls := rfl
@[simp] theorem State.setSeq_trackers (s : State) (n : Nat) (x : Seq) : (s.setSeq n x).trackers = s.trackers := rfl
@[simp] theorem State.setSeq_sills (s : State) (n : Nat) (x : Seq) : (s.setSeq n x).sills = s.sills := rfl
@[simp] theorem State.setSeq_ports (s : State) (n : Nat) (x : Seq) : (s.setSeq n x).ports = s.ports := rfl
@[simp] theorem State.setSeq_atns (s : State) (n : Nat) (x : Seq) : (s.setSeq n x).atns = s.atns := rfl
@[simp] theorem State.setSeq_lane (s : State) (n : Nat) (x : Seq) : (s.setSeq n x).lane = s.lane := rfl
@[simp] theorem State.setSeq_commits (s : State) (n : Nat) (x : Seq) : (s.setSeq n x).commits = s.commits := rfl
@[simp] theorem State.setSeq_laneLast (s : State) (n : Nat) (x : Seq) : (s.setSeq n x).laneLast = s.laneLast := rfl
@[simp] theorem State.setSeq_laneDown (s : State) (n : Nat) (x : Seq) : (s.setSeq n x).laneDown = s.laneDown := rfl
@[simp] theorem State.setSeq_gwEntries (s : State) (n : Nat) (x : Seq) : (s.setSeq n x).gwEntries = s.gwEntries := rfl
@[simp] theorem State.setSeq_caldera (s : State) (n : Nat) (x : Seq) : (s.setSeq n x).caldera = s.caldera := rfl
@[simp] theorem State.setSeq_bus (s : State) (n : Nat) (x : Seq) : (s.setSeq n x).bus = s.bus := rfl
@[simp] theorem State.setSeq_ringOld (s : State) (n : Nat) (x : Seq) : (s.setSeq n x).ringOld = s.ringOld := rfl
@[simp] theorem State.setSeq_ringWaits (s : State) (n : Nat) (x : Seq) : (s.setSeq n x).ringWaits = s.ringWaits := rfl
@[simp] theorem State.setSeq_flaws (s : State) (n : Nat) (x : Seq) : (s.setSeq n x).flaws = s.flaws := rfl
@[simp] theorem State.setSeq_watermarks (s : State) (n : Nat) (x : Seq) : (s.setSeq n x).watermarks = s.watermarks := rfl
@[simp] theorem State.setSeq_errq (s : State) (n : Nat) (x : Seq) : (s.setSeq n x).errq = s.errq := rfl
@[simp] theorem State.setSeq_cpNotes (s : State) (n : Nat) (x : Seq) : (s.setSeq n x).cpNotes = s.cpNotes := rfl
@[simp] theorem State.setSeq_pcNotes (s : State) (n : Nat) (x : Seq) : (s.setSeq n x).pcNotes = s.pcNotes := rfl
@[simp] theorem State.setSeq_cpNoteOvf (s : State) (n : Nat) (x : Seq) : (s.setSeq n x).cpNoteOvf = s.cpNoteOvf := rfl
@[simp] theorem State.setSeq_pcNoteOvf (s : State) (n : Nat) (x : Seq) : (s.setSeq n x).pcNoteOvf = s.pcNoteOvf := rfl
@[simp] theorem State.setSeq_hrdy (s : State) (n : Nat) (x : Seq) : (s.setSeq n x).hrdy = s.hrdy := rfl
@[simp] theorem State.setSeq_blinks (s : State) (n : Nat) (x : Seq) : (s.setSeq n x).blinks = s.blinks := rfl
@[simp] theorem State.setSeq_msixMask (s : State) (n : Nat) (x : Seq) : (s.setSeq n x).msixMask = s.msixMask := rfl
@[simp] theorem State.setSeq_msixPend (s : State) (n : Nat) (x : Seq) : (s.setSeq n x).msixPend = s.msixPend := rfl
@[simp] theorem State.setSeq_out (s : State) (n : Nat) (x : Seq) : (s.setSeq n x).out = s.out := rfl
@[simp] theorem State.setSeq_swaps (s : State) (n : Nat) (x : Seq) : (s.setSeq n x).swaps = s.swaps := rfl
@[simp] theorem State.setSeq_zones (s : State) (n : Nat) (x : Seq) : (s.setSeq n x).zones = s.zones := rfl
@[simp] theorem State.setSeq_load (s : State) (n : Nat) (x : Seq) : (s.setSeq n x).load = s.load := rfl
@[simp] theorem State.setSeq_survey (s : State) (n : Nat) (x : Seq) : (s.setSeq n x).survey = s.survey := rfl
@[simp] theorem State.setSeq_swept (s : State) (n : Nat) (x : Seq) : (s.setSeq n x).swept = s.swept := rfl
@[simp] theorem State.setSeq_engines (s : State) (n : Nat) (x : Seq) : (s.setSeq n x).engines = s.engines := rfl
@[simp] theorem State.setSeq_flash (s : State) (n : Nat) (x : Seq) : (s.setSeq n x).flash = s.flash := rfl
@[simp] theorem State.setSeq_modePins (s : State) (n : Nat) (x : Seq) : (s.setSeq n x).modePins = s.modePins := rfl
@[simp] theorem State.setSeq_recovery (s : State) (n : Nat) (x : Seq) : (s.setSeq n x).recovery = s.recovery := rfl
@[simp] theorem State.setSeq_cfgerr (s : State) (n : Nat) (x : Seq) : (s.setSeq n x).cfgerr = s.cfgerr := rfl
@[simp] theorem State.setSeq_hostSide (s : State) (n : Nat) (x : Seq) : (s.setSeq n x).hostSide = s.hostSide := rfl
@[simp] theorem State.setSeq_loadDue (s : State) (n : Nat) (x : Seq) : (s.setSeq n x).loadDue = s.loadDue := rfl
@[simp] theorem State.setSeq_rebuilds (s : State) (n : Nat) (x : Seq) : (s.setSeq n x).rebuilds = s.rebuilds := rfl
@[simp] theorem State.setSeq_booted (s : State) (n : Nat) (x : Seq) : (s.setSeq n x).booted = s.booted := rfl
@[simp] theorem State.setSeq_rebuilt (s : State) (n : Nat) (x : Seq) : (s.setSeq n x).rebuilt = s.rebuilt := rfl
@[simp] theorem State.setSeq_audit (s : State) (n : Nat) (x : Seq) : (s.setSeq n x).audit = s.audit := rfl
@[simp] theorem State.setSeq_fwVersion (s : State) (n : Nat) (x : Seq) : (s.setSeq n x).fwVersion = s.fwVersion := rfl
@[simp] theorem State.setSeq_booting (s : State) (n : Nat) (x : Seq) : (s.setSeq n x).booting = s.booting := rfl
@[simp] theorem State.setSeq_wokeBy (s : State) (n : Nat) (x : Seq) : (s.setSeq n x).wokeBy = s.wokeBy := rfl
@[simp] theorem State.setSeq_warm (s : State) (n : Nat) (x : Seq) : (s.setSeq n x).warm = s.warm := rfl
@[simp] theorem State.setSeq_fatalFirst (s : State) (n : Nat) (x : Seq) : (s.setSeq n x).fatalFirst = s.fatalFirst := rfl
@[simp] theorem State.setSeq_kickAt (s : State) (n : Nat) (x : Seq) : (s.setSeq n x).kickAt = s.kickAt := rfl
@[simp] theorem State.setSeq_wdogOut (s : State) (n : Nat) (x : Seq) : (s.setSeq n x).wdogOut = s.wdogOut := rfl
@[simp] theorem State.setSeq_errWritten (s : State) (n : Nat) (x : Seq) : (s.setSeq n x).errWritten = s.errWritten := rfl
@[simp] theorem State.setSeq_links (s : State) (n : Nat) (x : Seq) : (s.setSeq n x).links = s.links := rfl
@[simp] theorem State.setSeq_const (s : State) (n : Nat) (x : Seq) : (s.setSeq n x).const = s.const := rfl
@[simp] theorem State.setSeq_vserLost (s : State) (n : Nat) (x : Seq) : (s.setSeq n x).vserLost = s.vserLost := rfl
@[simp] theorem State.setSeq_vserhLost (s : State) (n : Nat) (x : Seq) : (s.setSeq n x).vserhLost = s.vserhLost := rfl
@[simp] theorem State.setSeq_tap (s : State) (n : Nat) (x : Seq) : (s.setSeq n x).tap = s.tap := rfl

@[simp] theorem State.setZone_pending (s : State) (n : Nat) (x : Zone) : (s.setZone n x).pending = s.pending := rfl
@[simp] theorem State.setZone_tickNo (s : State) (n : Nat) (x : Zone) : (s.setZone n x).tickNo = s.tickNo := rfl
@[simp] theorem State.setZone_free (s : State) (n : Nat) (x : Zone) : (s.setZone n x).free = s.free := rfl
@[simp] theorem State.setZone_regs (s : State) (n : Nat) (x : Zone) : (s.setZone n x).regs = s.regs := rfl
@[simp] theorem State.setZone_staged (s : State) (n : Nat) (x : Zone) : (s.setZone n x).staged = s.staged := rfl
@[simp] theorem State.setZone_prior (s : State) (n : Nat) (x : Zone) : (s.setZone n x).prior = s.prior := rfl
@[simp] theorem State.setZone_begun (s : State) (n : Nat) (x : Zone) : (s.setZone n x).begun = s.begun := rfl
@[simp] theorem State.setZone_arms (s : State) (n : Nat) (x : Zone) : (s.setZone n x).arms = s.arms := rfl
@[simp] theorem State.setZone_owners (s : State) (n : Nat) (x : Zone) : (s.setZone n x).owners = s.owners := rfl
@[simp] theorem State.setZone_time (s : State) (n : Nat) (x : Zone) : (s.setZone n x).time = s.time := rfl
@[simp] theorem State.setZone_mplls (s : State) (n : Nat) (x : Zone) : (s.setZone n x).mplls = s.mplls := rfl
@[simp] theorem State.setZone_trackers (s : State) (n : Nat) (x : Zone) : (s.setZone n x).trackers = s.trackers := rfl
@[simp] theorem State.setZone_sills (s : State) (n : Nat) (x : Zone) : (s.setZone n x).sills = s.sills := rfl
@[simp] theorem State.setZone_ports (s : State) (n : Nat) (x : Zone) : (s.setZone n x).ports = s.ports := rfl
@[simp] theorem State.setZone_atns (s : State) (n : Nat) (x : Zone) : (s.setZone n x).atns = s.atns := rfl
@[simp] theorem State.setZone_seqs (s : State) (n : Nat) (x : Zone) : (s.setZone n x).seqs = s.seqs := rfl
@[simp] theorem State.setZone_lane (s : State) (n : Nat) (x : Zone) : (s.setZone n x).lane = s.lane := rfl
@[simp] theorem State.setZone_commits (s : State) (n : Nat) (x : Zone) : (s.setZone n x).commits = s.commits := rfl
@[simp] theorem State.setZone_laneLast (s : State) (n : Nat) (x : Zone) : (s.setZone n x).laneLast = s.laneLast := rfl
@[simp] theorem State.setZone_laneDown (s : State) (n : Nat) (x : Zone) : (s.setZone n x).laneDown = s.laneDown := rfl
@[simp] theorem State.setZone_gwEntries (s : State) (n : Nat) (x : Zone) : (s.setZone n x).gwEntries = s.gwEntries := rfl
@[simp] theorem State.setZone_caldera (s : State) (n : Nat) (x : Zone) : (s.setZone n x).caldera = s.caldera := rfl
@[simp] theorem State.setZone_bus (s : State) (n : Nat) (x : Zone) : (s.setZone n x).bus = s.bus := rfl
@[simp] theorem State.setZone_ringOld (s : State) (n : Nat) (x : Zone) : (s.setZone n x).ringOld = s.ringOld := rfl
@[simp] theorem State.setZone_ringWaits (s : State) (n : Nat) (x : Zone) : (s.setZone n x).ringWaits = s.ringWaits := rfl
@[simp] theorem State.setZone_flaws (s : State) (n : Nat) (x : Zone) : (s.setZone n x).flaws = s.flaws := rfl
@[simp] theorem State.setZone_watermarks (s : State) (n : Nat) (x : Zone) : (s.setZone n x).watermarks = s.watermarks := rfl
@[simp] theorem State.setZone_errq (s : State) (n : Nat) (x : Zone) : (s.setZone n x).errq = s.errq := rfl
@[simp] theorem State.setZone_cpNotes (s : State) (n : Nat) (x : Zone) : (s.setZone n x).cpNotes = s.cpNotes := rfl
@[simp] theorem State.setZone_pcNotes (s : State) (n : Nat) (x : Zone) : (s.setZone n x).pcNotes = s.pcNotes := rfl
@[simp] theorem State.setZone_cpNoteOvf (s : State) (n : Nat) (x : Zone) : (s.setZone n x).cpNoteOvf = s.cpNoteOvf := rfl
@[simp] theorem State.setZone_pcNoteOvf (s : State) (n : Nat) (x : Zone) : (s.setZone n x).pcNoteOvf = s.pcNoteOvf := rfl
@[simp] theorem State.setZone_hrdy (s : State) (n : Nat) (x : Zone) : (s.setZone n x).hrdy = s.hrdy := rfl
@[simp] theorem State.setZone_blinks (s : State) (n : Nat) (x : Zone) : (s.setZone n x).blinks = s.blinks := rfl
@[simp] theorem State.setZone_msixMask (s : State) (n : Nat) (x : Zone) : (s.setZone n x).msixMask = s.msixMask := rfl
@[simp] theorem State.setZone_msixPend (s : State) (n : Nat) (x : Zone) : (s.setZone n x).msixPend = s.msixPend := rfl
@[simp] theorem State.setZone_out (s : State) (n : Nat) (x : Zone) : (s.setZone n x).out = s.out := rfl
@[simp] theorem State.setZone_swaps (s : State) (n : Nat) (x : Zone) : (s.setZone n x).swaps = s.swaps := rfl
@[simp] theorem State.setZone_load (s : State) (n : Nat) (x : Zone) : (s.setZone n x).load = s.load := rfl
@[simp] theorem State.setZone_survey (s : State) (n : Nat) (x : Zone) : (s.setZone n x).survey = s.survey := rfl
@[simp] theorem State.setZone_swept (s : State) (n : Nat) (x : Zone) : (s.setZone n x).swept = s.swept := rfl
@[simp] theorem State.setZone_engines (s : State) (n : Nat) (x : Zone) : (s.setZone n x).engines = s.engines := rfl
@[simp] theorem State.setZone_flash (s : State) (n : Nat) (x : Zone) : (s.setZone n x).flash = s.flash := rfl
@[simp] theorem State.setZone_modePins (s : State) (n : Nat) (x : Zone) : (s.setZone n x).modePins = s.modePins := rfl
@[simp] theorem State.setZone_recovery (s : State) (n : Nat) (x : Zone) : (s.setZone n x).recovery = s.recovery := rfl
@[simp] theorem State.setZone_cfgerr (s : State) (n : Nat) (x : Zone) : (s.setZone n x).cfgerr = s.cfgerr := rfl
@[simp] theorem State.setZone_hostSide (s : State) (n : Nat) (x : Zone) : (s.setZone n x).hostSide = s.hostSide := rfl
@[simp] theorem State.setZone_loadDue (s : State) (n : Nat) (x : Zone) : (s.setZone n x).loadDue = s.loadDue := rfl
@[simp] theorem State.setZone_rebuilds (s : State) (n : Nat) (x : Zone) : (s.setZone n x).rebuilds = s.rebuilds := rfl
@[simp] theorem State.setZone_booted (s : State) (n : Nat) (x : Zone) : (s.setZone n x).booted = s.booted := rfl
@[simp] theorem State.setZone_rebuilt (s : State) (n : Nat) (x : Zone) : (s.setZone n x).rebuilt = s.rebuilt := rfl
@[simp] theorem State.setZone_audit (s : State) (n : Nat) (x : Zone) : (s.setZone n x).audit = s.audit := rfl
@[simp] theorem State.setZone_fwVersion (s : State) (n : Nat) (x : Zone) : (s.setZone n x).fwVersion = s.fwVersion := rfl
@[simp] theorem State.setZone_booting (s : State) (n : Nat) (x : Zone) : (s.setZone n x).booting = s.booting := rfl
@[simp] theorem State.setZone_wokeBy (s : State) (n : Nat) (x : Zone) : (s.setZone n x).wokeBy = s.wokeBy := rfl
@[simp] theorem State.setZone_warm (s : State) (n : Nat) (x : Zone) : (s.setZone n x).warm = s.warm := rfl
@[simp] theorem State.setZone_fatalFirst (s : State) (n : Nat) (x : Zone) : (s.setZone n x).fatalFirst = s.fatalFirst := rfl
@[simp] theorem State.setZone_kickAt (s : State) (n : Nat) (x : Zone) : (s.setZone n x).kickAt = s.kickAt := rfl
@[simp] theorem State.setZone_wdogOut (s : State) (n : Nat) (x : Zone) : (s.setZone n x).wdogOut = s.wdogOut := rfl
@[simp] theorem State.setZone_errWritten (s : State) (n : Nat) (x : Zone) : (s.setZone n x).errWritten = s.errWritten := rfl
@[simp] theorem State.setZone_links (s : State) (n : Nat) (x : Zone) : (s.setZone n x).links = s.links := rfl
@[simp] theorem State.setZone_const (s : State) (n : Nat) (x : Zone) : (s.setZone n x).const = s.const := rfl
@[simp] theorem State.setZone_vserLost (s : State) (n : Nat) (x : Zone) : (s.setZone n x).vserLost = s.vserLost := rfl
@[simp] theorem State.setZone_vserhLost (s : State) (n : Nat) (x : Zone) : (s.setZone n x).vserhLost = s.vserhLost := rfl
@[simp] theorem State.setZone_tap (s : State) (n : Nat) (x : Zone) : (s.setZone n x).tap = s.tap := rfl

@[simp] theorem State.setEngine_pending (s : State) (n : Nat) (x : Engine) : (s.setEngine n x).pending = s.pending := rfl
@[simp] theorem State.setEngine_tickNo (s : State) (n : Nat) (x : Engine) : (s.setEngine n x).tickNo = s.tickNo := rfl
@[simp] theorem State.setEngine_free (s : State) (n : Nat) (x : Engine) : (s.setEngine n x).free = s.free := rfl
@[simp] theorem State.setEngine_regs (s : State) (n : Nat) (x : Engine) : (s.setEngine n x).regs = s.regs := rfl
@[simp] theorem State.setEngine_staged (s : State) (n : Nat) (x : Engine) : (s.setEngine n x).staged = s.staged := rfl
@[simp] theorem State.setEngine_prior (s : State) (n : Nat) (x : Engine) : (s.setEngine n x).prior = s.prior := rfl
@[simp] theorem State.setEngine_begun (s : State) (n : Nat) (x : Engine) : (s.setEngine n x).begun = s.begun := rfl
@[simp] theorem State.setEngine_arms (s : State) (n : Nat) (x : Engine) : (s.setEngine n x).arms = s.arms := rfl
@[simp] theorem State.setEngine_owners (s : State) (n : Nat) (x : Engine) : (s.setEngine n x).owners = s.owners := rfl
@[simp] theorem State.setEngine_time (s : State) (n : Nat) (x : Engine) : (s.setEngine n x).time = s.time := rfl
@[simp] theorem State.setEngine_mplls (s : State) (n : Nat) (x : Engine) : (s.setEngine n x).mplls = s.mplls := rfl
@[simp] theorem State.setEngine_trackers (s : State) (n : Nat) (x : Engine) : (s.setEngine n x).trackers = s.trackers := rfl
@[simp] theorem State.setEngine_sills (s : State) (n : Nat) (x : Engine) : (s.setEngine n x).sills = s.sills := rfl
@[simp] theorem State.setEngine_ports (s : State) (n : Nat) (x : Engine) : (s.setEngine n x).ports = s.ports := rfl
@[simp] theorem State.setEngine_atns (s : State) (n : Nat) (x : Engine) : (s.setEngine n x).atns = s.atns := rfl
@[simp] theorem State.setEngine_seqs (s : State) (n : Nat) (x : Engine) : (s.setEngine n x).seqs = s.seqs := rfl
@[simp] theorem State.setEngine_lane (s : State) (n : Nat) (x : Engine) : (s.setEngine n x).lane = s.lane := rfl
@[simp] theorem State.setEngine_commits (s : State) (n : Nat) (x : Engine) : (s.setEngine n x).commits = s.commits := rfl
@[simp] theorem State.setEngine_laneLast (s : State) (n : Nat) (x : Engine) : (s.setEngine n x).laneLast = s.laneLast := rfl
@[simp] theorem State.setEngine_laneDown (s : State) (n : Nat) (x : Engine) : (s.setEngine n x).laneDown = s.laneDown := rfl
@[simp] theorem State.setEngine_gwEntries (s : State) (n : Nat) (x : Engine) : (s.setEngine n x).gwEntries = s.gwEntries := rfl
@[simp] theorem State.setEngine_caldera (s : State) (n : Nat) (x : Engine) : (s.setEngine n x).caldera = s.caldera := rfl
@[simp] theorem State.setEngine_bus (s : State) (n : Nat) (x : Engine) : (s.setEngine n x).bus = s.bus := rfl
@[simp] theorem State.setEngine_ringOld (s : State) (n : Nat) (x : Engine) : (s.setEngine n x).ringOld = s.ringOld := rfl
@[simp] theorem State.setEngine_ringWaits (s : State) (n : Nat) (x : Engine) : (s.setEngine n x).ringWaits = s.ringWaits := rfl
@[simp] theorem State.setEngine_flaws (s : State) (n : Nat) (x : Engine) : (s.setEngine n x).flaws = s.flaws := rfl
@[simp] theorem State.setEngine_watermarks (s : State) (n : Nat) (x : Engine) : (s.setEngine n x).watermarks = s.watermarks := rfl
@[simp] theorem State.setEngine_errq (s : State) (n : Nat) (x : Engine) : (s.setEngine n x).errq = s.errq := rfl
@[simp] theorem State.setEngine_cpNotes (s : State) (n : Nat) (x : Engine) : (s.setEngine n x).cpNotes = s.cpNotes := rfl
@[simp] theorem State.setEngine_pcNotes (s : State) (n : Nat) (x : Engine) : (s.setEngine n x).pcNotes = s.pcNotes := rfl
@[simp] theorem State.setEngine_cpNoteOvf (s : State) (n : Nat) (x : Engine) : (s.setEngine n x).cpNoteOvf = s.cpNoteOvf := rfl
@[simp] theorem State.setEngine_pcNoteOvf (s : State) (n : Nat) (x : Engine) : (s.setEngine n x).pcNoteOvf = s.pcNoteOvf := rfl
@[simp] theorem State.setEngine_hrdy (s : State) (n : Nat) (x : Engine) : (s.setEngine n x).hrdy = s.hrdy := rfl
@[simp] theorem State.setEngine_blinks (s : State) (n : Nat) (x : Engine) : (s.setEngine n x).blinks = s.blinks := rfl
@[simp] theorem State.setEngine_msixMask (s : State) (n : Nat) (x : Engine) : (s.setEngine n x).msixMask = s.msixMask := rfl
@[simp] theorem State.setEngine_msixPend (s : State) (n : Nat) (x : Engine) : (s.setEngine n x).msixPend = s.msixPend := rfl
@[simp] theorem State.setEngine_out (s : State) (n : Nat) (x : Engine) : (s.setEngine n x).out = s.out := rfl
@[simp] theorem State.setEngine_swaps (s : State) (n : Nat) (x : Engine) : (s.setEngine n x).swaps = s.swaps := rfl
@[simp] theorem State.setEngine_zones (s : State) (n : Nat) (x : Engine) : (s.setEngine n x).zones = s.zones := rfl
@[simp] theorem State.setEngine_load (s : State) (n : Nat) (x : Engine) : (s.setEngine n x).load = s.load := rfl
@[simp] theorem State.setEngine_survey (s : State) (n : Nat) (x : Engine) : (s.setEngine n x).survey = s.survey := rfl
@[simp] theorem State.setEngine_swept (s : State) (n : Nat) (x : Engine) : (s.setEngine n x).swept = s.swept := rfl
@[simp] theorem State.setEngine_flash (s : State) (n : Nat) (x : Engine) : (s.setEngine n x).flash = s.flash := rfl
@[simp] theorem State.setEngine_modePins (s : State) (n : Nat) (x : Engine) : (s.setEngine n x).modePins = s.modePins := rfl
@[simp] theorem State.setEngine_recovery (s : State) (n : Nat) (x : Engine) : (s.setEngine n x).recovery = s.recovery := rfl
@[simp] theorem State.setEngine_cfgerr (s : State) (n : Nat) (x : Engine) : (s.setEngine n x).cfgerr = s.cfgerr := rfl
@[simp] theorem State.setEngine_hostSide (s : State) (n : Nat) (x : Engine) : (s.setEngine n x).hostSide = s.hostSide := rfl
@[simp] theorem State.setEngine_loadDue (s : State) (n : Nat) (x : Engine) : (s.setEngine n x).loadDue = s.loadDue := rfl
@[simp] theorem State.setEngine_rebuilds (s : State) (n : Nat) (x : Engine) : (s.setEngine n x).rebuilds = s.rebuilds := rfl
@[simp] theorem State.setEngine_booted (s : State) (n : Nat) (x : Engine) : (s.setEngine n x).booted = s.booted := rfl
@[simp] theorem State.setEngine_rebuilt (s : State) (n : Nat) (x : Engine) : (s.setEngine n x).rebuilt = s.rebuilt := rfl
@[simp] theorem State.setEngine_audit (s : State) (n : Nat) (x : Engine) : (s.setEngine n x).audit = s.audit := rfl
@[simp] theorem State.setEngine_fwVersion (s : State) (n : Nat) (x : Engine) : (s.setEngine n x).fwVersion = s.fwVersion := rfl
@[simp] theorem State.setEngine_booting (s : State) (n : Nat) (x : Engine) : (s.setEngine n x).booting = s.booting := rfl
@[simp] theorem State.setEngine_wokeBy (s : State) (n : Nat) (x : Engine) : (s.setEngine n x).wokeBy = s.wokeBy := rfl
@[simp] theorem State.setEngine_warm (s : State) (n : Nat) (x : Engine) : (s.setEngine n x).warm = s.warm := rfl
@[simp] theorem State.setEngine_fatalFirst (s : State) (n : Nat) (x : Engine) : (s.setEngine n x).fatalFirst = s.fatalFirst := rfl
@[simp] theorem State.setEngine_kickAt (s : State) (n : Nat) (x : Engine) : (s.setEngine n x).kickAt = s.kickAt := rfl
@[simp] theorem State.setEngine_wdogOut (s : State) (n : Nat) (x : Engine) : (s.setEngine n x).wdogOut = s.wdogOut := rfl
@[simp] theorem State.setEngine_errWritten (s : State) (n : Nat) (x : Engine) : (s.setEngine n x).errWritten = s.errWritten := rfl
@[simp] theorem State.setEngine_links (s : State) (n : Nat) (x : Engine) : (s.setEngine n x).links = s.links := rfl
@[simp] theorem State.setEngine_const (s : State) (n : Nat) (x : Engine) : (s.setEngine n x).const = s.const := rfl
@[simp] theorem State.setEngine_vserLost (s : State) (n : Nat) (x : Engine) : (s.setEngine n x).vserLost = s.vserLost := rfl
@[simp] theorem State.setEngine_vserhLost (s : State) (n : Nat) (x : Engine) : (s.setEngine n x).vserhLost = s.vserhLost := rfl
@[simp] theorem State.setEngine_tap (s : State) (n : Nat) (x : Engine) : (s.setEngine n x).tap = s.tap := rfl

@[simp] theorem State.setLink_pending (s : State) (n : Nat) (x : LinkSide) : (s.setLink n x).pending = s.pending := rfl
@[simp] theorem State.setLink_tickNo (s : State) (n : Nat) (x : LinkSide) : (s.setLink n x).tickNo = s.tickNo := rfl
@[simp] theorem State.setLink_free (s : State) (n : Nat) (x : LinkSide) : (s.setLink n x).free = s.free := rfl
@[simp] theorem State.setLink_regs (s : State) (n : Nat) (x : LinkSide) : (s.setLink n x).regs = s.regs := rfl
@[simp] theorem State.setLink_staged (s : State) (n : Nat) (x : LinkSide) : (s.setLink n x).staged = s.staged := rfl
@[simp] theorem State.setLink_prior (s : State) (n : Nat) (x : LinkSide) : (s.setLink n x).prior = s.prior := rfl
@[simp] theorem State.setLink_begun (s : State) (n : Nat) (x : LinkSide) : (s.setLink n x).begun = s.begun := rfl
@[simp] theorem State.setLink_arms (s : State) (n : Nat) (x : LinkSide) : (s.setLink n x).arms = s.arms := rfl
@[simp] theorem State.setLink_owners (s : State) (n : Nat) (x : LinkSide) : (s.setLink n x).owners = s.owners := rfl
@[simp] theorem State.setLink_time (s : State) (n : Nat) (x : LinkSide) : (s.setLink n x).time = s.time := rfl
@[simp] theorem State.setLink_mplls (s : State) (n : Nat) (x : LinkSide) : (s.setLink n x).mplls = s.mplls := rfl
@[simp] theorem State.setLink_trackers (s : State) (n : Nat) (x : LinkSide) : (s.setLink n x).trackers = s.trackers := rfl
@[simp] theorem State.setLink_sills (s : State) (n : Nat) (x : LinkSide) : (s.setLink n x).sills = s.sills := rfl
@[simp] theorem State.setLink_ports (s : State) (n : Nat) (x : LinkSide) : (s.setLink n x).ports = s.ports := rfl
@[simp] theorem State.setLink_atns (s : State) (n : Nat) (x : LinkSide) : (s.setLink n x).atns = s.atns := rfl
@[simp] theorem State.setLink_seqs (s : State) (n : Nat) (x : LinkSide) : (s.setLink n x).seqs = s.seqs := rfl
@[simp] theorem State.setLink_lane (s : State) (n : Nat) (x : LinkSide) : (s.setLink n x).lane = s.lane := rfl
@[simp] theorem State.setLink_commits (s : State) (n : Nat) (x : LinkSide) : (s.setLink n x).commits = s.commits := rfl
@[simp] theorem State.setLink_laneLast (s : State) (n : Nat) (x : LinkSide) : (s.setLink n x).laneLast = s.laneLast := rfl
@[simp] theorem State.setLink_laneDown (s : State) (n : Nat) (x : LinkSide) : (s.setLink n x).laneDown = s.laneDown := rfl
@[simp] theorem State.setLink_gwEntries (s : State) (n : Nat) (x : LinkSide) : (s.setLink n x).gwEntries = s.gwEntries := rfl
@[simp] theorem State.setLink_caldera (s : State) (n : Nat) (x : LinkSide) : (s.setLink n x).caldera = s.caldera := rfl
@[simp] theorem State.setLink_bus (s : State) (n : Nat) (x : LinkSide) : (s.setLink n x).bus = s.bus := rfl
@[simp] theorem State.setLink_ringOld (s : State) (n : Nat) (x : LinkSide) : (s.setLink n x).ringOld = s.ringOld := rfl
@[simp] theorem State.setLink_ringWaits (s : State) (n : Nat) (x : LinkSide) : (s.setLink n x).ringWaits = s.ringWaits := rfl
@[simp] theorem State.setLink_flaws (s : State) (n : Nat) (x : LinkSide) : (s.setLink n x).flaws = s.flaws := rfl
@[simp] theorem State.setLink_watermarks (s : State) (n : Nat) (x : LinkSide) : (s.setLink n x).watermarks = s.watermarks := rfl
@[simp] theorem State.setLink_errq (s : State) (n : Nat) (x : LinkSide) : (s.setLink n x).errq = s.errq := rfl
@[simp] theorem State.setLink_cpNotes (s : State) (n : Nat) (x : LinkSide) : (s.setLink n x).cpNotes = s.cpNotes := rfl
@[simp] theorem State.setLink_pcNotes (s : State) (n : Nat) (x : LinkSide) : (s.setLink n x).pcNotes = s.pcNotes := rfl
@[simp] theorem State.setLink_cpNoteOvf (s : State) (n : Nat) (x : LinkSide) : (s.setLink n x).cpNoteOvf = s.cpNoteOvf := rfl
@[simp] theorem State.setLink_pcNoteOvf (s : State) (n : Nat) (x : LinkSide) : (s.setLink n x).pcNoteOvf = s.pcNoteOvf := rfl
@[simp] theorem State.setLink_hrdy (s : State) (n : Nat) (x : LinkSide) : (s.setLink n x).hrdy = s.hrdy := rfl
@[simp] theorem State.setLink_blinks (s : State) (n : Nat) (x : LinkSide) : (s.setLink n x).blinks = s.blinks := rfl
@[simp] theorem State.setLink_msixMask (s : State) (n : Nat) (x : LinkSide) : (s.setLink n x).msixMask = s.msixMask := rfl
@[simp] theorem State.setLink_msixPend (s : State) (n : Nat) (x : LinkSide) : (s.setLink n x).msixPend = s.msixPend := rfl
@[simp] theorem State.setLink_out (s : State) (n : Nat) (x : LinkSide) : (s.setLink n x).out = s.out := rfl
@[simp] theorem State.setLink_swaps (s : State) (n : Nat) (x : LinkSide) : (s.setLink n x).swaps = s.swaps := rfl
@[simp] theorem State.setLink_zones (s : State) (n : Nat) (x : LinkSide) : (s.setLink n x).zones = s.zones := rfl
@[simp] theorem State.setLink_load (s : State) (n : Nat) (x : LinkSide) : (s.setLink n x).load = s.load := rfl
@[simp] theorem State.setLink_survey (s : State) (n : Nat) (x : LinkSide) : (s.setLink n x).survey = s.survey := rfl
@[simp] theorem State.setLink_swept (s : State) (n : Nat) (x : LinkSide) : (s.setLink n x).swept = s.swept := rfl
@[simp] theorem State.setLink_engines (s : State) (n : Nat) (x : LinkSide) : (s.setLink n x).engines = s.engines := rfl
@[simp] theorem State.setLink_flash (s : State) (n : Nat) (x : LinkSide) : (s.setLink n x).flash = s.flash := rfl
@[simp] theorem State.setLink_modePins (s : State) (n : Nat) (x : LinkSide) : (s.setLink n x).modePins = s.modePins := rfl
@[simp] theorem State.setLink_recovery (s : State) (n : Nat) (x : LinkSide) : (s.setLink n x).recovery = s.recovery := rfl
@[simp] theorem State.setLink_cfgerr (s : State) (n : Nat) (x : LinkSide) : (s.setLink n x).cfgerr = s.cfgerr := rfl
@[simp] theorem State.setLink_hostSide (s : State) (n : Nat) (x : LinkSide) : (s.setLink n x).hostSide = s.hostSide := rfl
@[simp] theorem State.setLink_loadDue (s : State) (n : Nat) (x : LinkSide) : (s.setLink n x).loadDue = s.loadDue := rfl
@[simp] theorem State.setLink_rebuilds (s : State) (n : Nat) (x : LinkSide) : (s.setLink n x).rebuilds = s.rebuilds := rfl
@[simp] theorem State.setLink_booted (s : State) (n : Nat) (x : LinkSide) : (s.setLink n x).booted = s.booted := rfl
@[simp] theorem State.setLink_rebuilt (s : State) (n : Nat) (x : LinkSide) : (s.setLink n x).rebuilt = s.rebuilt := rfl
@[simp] theorem State.setLink_audit (s : State) (n : Nat) (x : LinkSide) : (s.setLink n x).audit = s.audit := rfl
@[simp] theorem State.setLink_fwVersion (s : State) (n : Nat) (x : LinkSide) : (s.setLink n x).fwVersion = s.fwVersion := rfl
@[simp] theorem State.setLink_booting (s : State) (n : Nat) (x : LinkSide) : (s.setLink n x).booting = s.booting := rfl
@[simp] theorem State.setLink_wokeBy (s : State) (n : Nat) (x : LinkSide) : (s.setLink n x).wokeBy = s.wokeBy := rfl
@[simp] theorem State.setLink_warm (s : State) (n : Nat) (x : LinkSide) : (s.setLink n x).warm = s.warm := rfl
@[simp] theorem State.setLink_fatalFirst (s : State) (n : Nat) (x : LinkSide) : (s.setLink n x).fatalFirst = s.fatalFirst := rfl
@[simp] theorem State.setLink_kickAt (s : State) (n : Nat) (x : LinkSide) : (s.setLink n x).kickAt = s.kickAt := rfl
@[simp] theorem State.setLink_wdogOut (s : State) (n : Nat) (x : LinkSide) : (s.setLink n x).wdogOut = s.wdogOut := rfl
@[simp] theorem State.setLink_errWritten (s : State) (n : Nat) (x : LinkSide) : (s.setLink n x).errWritten = s.errWritten := rfl
@[simp] theorem State.setLink_const (s : State) (n : Nat) (x : LinkSide) : (s.setLink n x).const = s.const := rfl
@[simp] theorem State.setLink_vserLost (s : State) (n : Nat) (x : LinkSide) : (s.setLink n x).vserLost = s.vserLost := rfl
@[simp] theorem State.setLink_vserhLost (s : State) (n : Nat) (x : LinkSide) : (s.setLink n x).vserhLost = s.vserhLost := rfl
@[simp] theorem State.setLink_tap (s : State) (n : Nat) (x : LinkSide) : (s.setLink n x).tap = s.tap := rfl

@[simp] theorem State.mapConst_pending (s : State) (f : ConstSide → ConstSide) : (s.mapConst f).pending = s.pending := rfl
@[simp] theorem State.mapConst_tickNo (s : State) (f : ConstSide → ConstSide) : (s.mapConst f).tickNo = s.tickNo := rfl
@[simp] theorem State.mapConst_free (s : State) (f : ConstSide → ConstSide) : (s.mapConst f).free = s.free := rfl
@[simp] theorem State.mapConst_regs (s : State) (f : ConstSide → ConstSide) : (s.mapConst f).regs = s.regs := rfl
@[simp] theorem State.mapConst_staged (s : State) (f : ConstSide → ConstSide) : (s.mapConst f).staged = s.staged := rfl
@[simp] theorem State.mapConst_prior (s : State) (f : ConstSide → ConstSide) : (s.mapConst f).prior = s.prior := rfl
@[simp] theorem State.mapConst_begun (s : State) (f : ConstSide → ConstSide) : (s.mapConst f).begun = s.begun := rfl
@[simp] theorem State.mapConst_arms (s : State) (f : ConstSide → ConstSide) : (s.mapConst f).arms = s.arms := rfl
@[simp] theorem State.mapConst_owners (s : State) (f : ConstSide → ConstSide) : (s.mapConst f).owners = s.owners := rfl
@[simp] theorem State.mapConst_time (s : State) (f : ConstSide → ConstSide) : (s.mapConst f).time = s.time := rfl
@[simp] theorem State.mapConst_mplls (s : State) (f : ConstSide → ConstSide) : (s.mapConst f).mplls = s.mplls := rfl
@[simp] theorem State.mapConst_trackers (s : State) (f : ConstSide → ConstSide) : (s.mapConst f).trackers = s.trackers := rfl
@[simp] theorem State.mapConst_sills (s : State) (f : ConstSide → ConstSide) : (s.mapConst f).sills = s.sills := rfl
@[simp] theorem State.mapConst_ports (s : State) (f : ConstSide → ConstSide) : (s.mapConst f).ports = s.ports := rfl
@[simp] theorem State.mapConst_atns (s : State) (f : ConstSide → ConstSide) : (s.mapConst f).atns = s.atns := rfl
@[simp] theorem State.mapConst_seqs (s : State) (f : ConstSide → ConstSide) : (s.mapConst f).seqs = s.seqs := rfl
@[simp] theorem State.mapConst_lane (s : State) (f : ConstSide → ConstSide) : (s.mapConst f).lane = s.lane := rfl
@[simp] theorem State.mapConst_commits (s : State) (f : ConstSide → ConstSide) : (s.mapConst f).commits = s.commits := rfl
@[simp] theorem State.mapConst_laneLast (s : State) (f : ConstSide → ConstSide) : (s.mapConst f).laneLast = s.laneLast := rfl
@[simp] theorem State.mapConst_laneDown (s : State) (f : ConstSide → ConstSide) : (s.mapConst f).laneDown = s.laneDown := rfl
@[simp] theorem State.mapConst_gwEntries (s : State) (f : ConstSide → ConstSide) : (s.mapConst f).gwEntries = s.gwEntries := rfl
@[simp] theorem State.mapConst_caldera (s : State) (f : ConstSide → ConstSide) : (s.mapConst f).caldera = s.caldera := rfl
@[simp] theorem State.mapConst_bus (s : State) (f : ConstSide → ConstSide) : (s.mapConst f).bus = s.bus := rfl
@[simp] theorem State.mapConst_ringOld (s : State) (f : ConstSide → ConstSide) : (s.mapConst f).ringOld = s.ringOld := rfl
@[simp] theorem State.mapConst_ringWaits (s : State) (f : ConstSide → ConstSide) : (s.mapConst f).ringWaits = s.ringWaits := rfl
@[simp] theorem State.mapConst_flaws (s : State) (f : ConstSide → ConstSide) : (s.mapConst f).flaws = s.flaws := rfl
@[simp] theorem State.mapConst_watermarks (s : State) (f : ConstSide → ConstSide) : (s.mapConst f).watermarks = s.watermarks := rfl
@[simp] theorem State.mapConst_errq (s : State) (f : ConstSide → ConstSide) : (s.mapConst f).errq = s.errq := rfl
@[simp] theorem State.mapConst_cpNotes (s : State) (f : ConstSide → ConstSide) : (s.mapConst f).cpNotes = s.cpNotes := rfl
@[simp] theorem State.mapConst_pcNotes (s : State) (f : ConstSide → ConstSide) : (s.mapConst f).pcNotes = s.pcNotes := rfl
@[simp] theorem State.mapConst_cpNoteOvf (s : State) (f : ConstSide → ConstSide) : (s.mapConst f).cpNoteOvf = s.cpNoteOvf := rfl
@[simp] theorem State.mapConst_pcNoteOvf (s : State) (f : ConstSide → ConstSide) : (s.mapConst f).pcNoteOvf = s.pcNoteOvf := rfl
@[simp] theorem State.mapConst_hrdy (s : State) (f : ConstSide → ConstSide) : (s.mapConst f).hrdy = s.hrdy := rfl
@[simp] theorem State.mapConst_blinks (s : State) (f : ConstSide → ConstSide) : (s.mapConst f).blinks = s.blinks := rfl
@[simp] theorem State.mapConst_msixMask (s : State) (f : ConstSide → ConstSide) : (s.mapConst f).msixMask = s.msixMask := rfl
@[simp] theorem State.mapConst_msixPend (s : State) (f : ConstSide → ConstSide) : (s.mapConst f).msixPend = s.msixPend := rfl
@[simp] theorem State.mapConst_out (s : State) (f : ConstSide → ConstSide) : (s.mapConst f).out = s.out := rfl
@[simp] theorem State.mapConst_swaps (s : State) (f : ConstSide → ConstSide) : (s.mapConst f).swaps = s.swaps := rfl
@[simp] theorem State.mapConst_zones (s : State) (f : ConstSide → ConstSide) : (s.mapConst f).zones = s.zones := rfl
@[simp] theorem State.mapConst_load (s : State) (f : ConstSide → ConstSide) : (s.mapConst f).load = s.load := rfl
@[simp] theorem State.mapConst_survey (s : State) (f : ConstSide → ConstSide) : (s.mapConst f).survey = s.survey := rfl
@[simp] theorem State.mapConst_swept (s : State) (f : ConstSide → ConstSide) : (s.mapConst f).swept = s.swept := rfl
@[simp] theorem State.mapConst_engines (s : State) (f : ConstSide → ConstSide) : (s.mapConst f).engines = s.engines := rfl
@[simp] theorem State.mapConst_flash (s : State) (f : ConstSide → ConstSide) : (s.mapConst f).flash = s.flash := rfl
@[simp] theorem State.mapConst_modePins (s : State) (f : ConstSide → ConstSide) : (s.mapConst f).modePins = s.modePins := rfl
@[simp] theorem State.mapConst_recovery (s : State) (f : ConstSide → ConstSide) : (s.mapConst f).recovery = s.recovery := rfl
@[simp] theorem State.mapConst_cfgerr (s : State) (f : ConstSide → ConstSide) : (s.mapConst f).cfgerr = s.cfgerr := rfl
@[simp] theorem State.mapConst_hostSide (s : State) (f : ConstSide → ConstSide) : (s.mapConst f).hostSide = s.hostSide := rfl
@[simp] theorem State.mapConst_loadDue (s : State) (f : ConstSide → ConstSide) : (s.mapConst f).loadDue = s.loadDue := rfl
@[simp] theorem State.mapConst_rebuilds (s : State) (f : ConstSide → ConstSide) : (s.mapConst f).rebuilds = s.rebuilds := rfl
@[simp] theorem State.mapConst_booted (s : State) (f : ConstSide → ConstSide) : (s.mapConst f).booted = s.booted := rfl
@[simp] theorem State.mapConst_rebuilt (s : State) (f : ConstSide → ConstSide) : (s.mapConst f).rebuilt = s.rebuilt := rfl
@[simp] theorem State.mapConst_audit (s : State) (f : ConstSide → ConstSide) : (s.mapConst f).audit = s.audit := rfl
@[simp] theorem State.mapConst_fwVersion (s : State) (f : ConstSide → ConstSide) : (s.mapConst f).fwVersion = s.fwVersion := rfl
@[simp] theorem State.mapConst_booting (s : State) (f : ConstSide → ConstSide) : (s.mapConst f).booting = s.booting := rfl
@[simp] theorem State.mapConst_wokeBy (s : State) (f : ConstSide → ConstSide) : (s.mapConst f).wokeBy = s.wokeBy := rfl
@[simp] theorem State.mapConst_warm (s : State) (f : ConstSide → ConstSide) : (s.mapConst f).warm = s.warm := rfl
@[simp] theorem State.mapConst_fatalFirst (s : State) (f : ConstSide → ConstSide) : (s.mapConst f).fatalFirst = s.fatalFirst := rfl
@[simp] theorem State.mapConst_kickAt (s : State) (f : ConstSide → ConstSide) : (s.mapConst f).kickAt = s.kickAt := rfl
@[simp] theorem State.mapConst_wdogOut (s : State) (f : ConstSide → ConstSide) : (s.mapConst f).wdogOut = s.wdogOut := rfl
@[simp] theorem State.mapConst_errWritten (s : State) (f : ConstSide → ConstSide) : (s.mapConst f).errWritten = s.errWritten := rfl
@[simp] theorem State.mapConst_links (s : State) (f : ConstSide → ConstSide) : (s.mapConst f).links = s.links := rfl
@[simp] theorem State.mapConst_vserLost (s : State) (f : ConstSide → ConstSide) : (s.mapConst f).vserLost = s.vserLost := rfl
@[simp] theorem State.mapConst_vserhLost (s : State) (f : ConstSide → ConstSide) : (s.mapConst f).vserhLost = s.vserhLost := rfl
@[simp] theorem State.mapConst_tap (s : State) (f : ConstSide → ConstSide) : (s.mapConst f).tap = s.tap := rfl

end Sys2Proof.Machine
end

