-- ==== Sys2Proof/Laws/Ops.lean ====
section
/-! SUPPORT. What the shared operations can change: register fields, error records and notes. -/

namespace Sys2Proof.Machine

/-! ### Register fields -/

/-- A field reads what has been written to it, cut to its width. -/
theorem fldI_setFldI_same (s : State) (f : Fld) (n i v : Nat) : (s.setFldI f n i v).fldI f n i = v % 2 ^ f.width := by
  simp [State.setFldI, State.fldI]

/-- Writing a field changes the register fields only. -/
theorem setFldI_frame (s : State) (f : Fld) (n i v : Nat) :
    s.setFldI f n i v = { s with regs := (s.setFldI f n i v).regs } := rfl

/-- Another key keeps its value, whatever unlisted keys read. -/
theorem storeGet_set_apart {α : Type} [DecidableEq α] (d e : α) (m : Store α) {k j : Nat} (v : α) (h : j ≠ k) :
    storeGet e (storeSet d m k v) j = storeGet e m j := by
  unfold storeSet
  split
  · exact storeGet_erase_other e m h
  · exact storeGet_insert_other e m v h

/-- Another field keeps its value. -/
theorem fldI_setFldI_other (s : State) (f f' : Fld) (n i n' i' v : Nat) (h : fldKey f' n' i' ≠ fldKey f n i) :
    (s.setFldI f n i v).fldI f' n' i' = s.fldI f' n' i' := by
  simp [State.setFldI, State.fldI, storeGet_set_apart _ _ _ _ h]

/-! ### Records and notes -/

/-- Entering a record changes the error queue and the register fields (LOST, OVF) only. -/
theorem enqueueErr_frame (s : State) (r : ErrRec) :
    (s.enqueueErr r).1 = { s with errq := (s.enqueueErr r).1.errq, regs := (s.enqueueErr r).1.regs } := by
  unfold State.enqueueErr
  split
  · split
    · rfl
    · split <;> rfl
  · split
    · rfl
    · split <;> rfl

/-- Entering a record is one of the changes that records and notes make. -/
theorem enqueueErr_records (s : State) (r : ErrRec) : (s.enqueueErr r).1 = s.withRecords (s.enqueueErr r).1 := by
  rw [enqueueErr_frame]; rfl

/-- Two such changes, one after the other, are one. -/
theorem withRecords_trans {s t u : State} (h : t = s.withRecords t) (k : u = t.withRecords u) : u = s.withRecords u := by
  rw [k, h]; rfl

theorem blinkCatch_frame (s : State) : s.blinkCatch = s.withRecords s.blinkCatch := by
  unfold State.blinkCatch
  dsimp only
  split <;> rfl

/-- HRDY's blink changes its count, its last tick and whether one is due. -/
theorem blink_frame (s : State) : s.blink = s.withRecords s.blink := by
  unfold State.blink
  dsimp only
  split
  · rfl
  · split
    · exact blinkCatch_frame s
    · split
      · exact withRecords_trans (blinkCatch_frame s) rfl
      · exact withRecords_trans (blinkCatch_frame s) rfl

theorem msix_frame (s : State) (v : Nat) : s.msix v = s.withRecords (s.msix v) := by
  unfold State.msix
  split
  · rfl
  · split <;> rfl

/-- A note reaches the two note queues, HRDY and the host. -/
theorem noteIn_frame (s : State) (n : Nat) : (s.noteIn n).1 = s.withRecords (s.noteIn n).1 := by
  have first : (if decide (16 ≤ s.cpNotes.length) = true then { s with cpNoteOvf := true }
      else { s with cpNotes := s.cpNotes ++ [n % 256] }.blink) =
      s.withRecords (if decide (16 ≤ s.cpNotes.length) = true then { s with cpNoteOvf := true }
        else { s with cpNotes := s.cpNotes ++ [n % 256] }.blink) := by
    split
    · rfl
    · exact withRecords_trans (t := { s with cpNotes := s.cpNotes ++ [n % 256] }) rfl (blink_frame _)
  unfold State.noteIn
  dsimp only
  split
  · exact withRecords_trans first rfl
  · refine withRecords_trans (withRecords_trans first ?_) (msix_frame _ 0)
    rfl

theorem raiseQuiet_frame (s : State) (code src : Nat) (d : List Nat) :
    s.raiseQuiet code src d = s.withRecords (s.raiseQuiet code src d) := by
  unfold State.raiseQuiet
  dsimp only
  split
  · exact withRecords_trans (enqueueErr_records s _) (noteIn_frame _ _)
  · exact enqueueErr_records s _

theorem postNote_frame (s : State) (n : Nat) : s.postNote n = s.withRecords (s.postNote n) := by
  unfold State.postNote
  dsimp only
  split
  · exact withRecords_trans (noteIn_frame s n) (raiseQuiet_frame _ _ _ _)
  · exact noteIn_frame s n

/-- Raising a record changes the error queue, LOST and OVF, the note queues and what leaves towards the host, nothing else. -/
theorem raise_frame (s : State) (code src : Nat) (d : List Nat) (fatal : Bool) :
    s.raise code src d fatal = s.withRecords (s.raise code src d fatal) := by
  unfold State.raise
  dsimp only
  split
  · exact withRecords_trans (enqueueErr_records s _) (postNote_frame _ _)
  · exact enqueueErr_records s _

/-- A field that records do not touch keeps its value: every one but LOST and OVF of SUP.ERRSTAT. -/
theorem enqueueErr_fldI (s : State) (r : ErrRec) (f : Fld) (n i : Nat)
    (h : fldKey f n i ≠ fldKey F.SUP_ERRSTAT_LOST 0 0 ∧ fldKey f n i ≠ fldKey F.SUP_ERRSTAT_OVF 0 0) :
    (s.enqueueErr r).1.fldI f n i = s.fldI f n i := by
  have lose (u : State) : u.loseErr.1.fldI f n i = u.fldI f n i := by
    simp only [State.loseErr, State.bump, State.setBit, State.setFld]
    rw [fldI_setFldI_other _ _ _ _ _ _ _ _ h.2, fldI_setFldI_other _ _ _ _ _ _ _ _ h.1]
  unfold State.enqueueErr
  split
  · split
    · rfl
    · split
      · rfl
      · exact lose s
  · split
    · rfl
    · split
      · exact lose _
      · exact lose s

theorem blink_regs (s : State) : s.blink.regs = s.regs := by
  unfold State.blink State.blinkCatch
  dsimp only
  split
  · rfl
  · split <;> split <;> first | rfl | (split <;> rfl)

theorem msix_regs (s : State) (v : Nat) : (s.msix v).regs = s.regs := by
  unfold State.msix
  split
  · rfl
  · split <;> rfl

theorem noteIn_regs (s : State) (n : Nat) : (s.noteIn n).1.regs = s.regs := by
  unfold State.noteIn
  dsimp only
  split <;> simp only [msix_regs] <;> split <;> simp only [blink_regs]

theorem noteIn_fldI (s : State) (k : Nat) (f : Fld) (n i : Nat) : (s.noteIn k).1.fldI f n i = s.fldI f n i := by
  simp only [State.fldI, noteIn_regs]

theorem raise_fldI (s : State) (code src : Nat) (d : List Nat) (fatal : Bool) (f : Fld) (n i : Nat)
    (h : fldKey f n i ≠ fldKey F.SUP_ERRSTAT_LOST 0 0 ∧ fldKey f n i ≠ fldKey F.SUP_ERRSTAT_OVF 0 0) :
    (s.raise code src d fatal).fldI f n i = s.fldI f n i := by
  have quiet (u : State) (c r : Nat) (e : List Nat) : (u.raiseQuiet c r e).fldI f n i = u.fldI f n i := by
    unfold State.raiseQuiet
    dsimp only
    split
    · rw [noteIn_fldI, enqueueErr_fldI _ _ _ _ _ h]
    · rw [enqueueErr_fldI _ _ _ _ _ h]
  have post (u : State) (k : Nat) : (u.postNote k).fldI f n i = u.fldI f n i := by
    unfold State.postNote
    dsimp only
    split_ifs <;> simp only [quiet, noteIn_fldI]
  unfold State.raise
  dsimp only
  split
  · rw [post, enqueueErr_fldI _ _ _ _ _ h]
  · rw [enqueueErr_fldI _ _ _ _ _ h]

end Sys2Proof.Machine
end

