-- ==== Sys2Proof/Laws/Sequencer.lean ====
section
/-! SUPPORT. What the shared operations of a sequencer do: one lemma each, which proofs about its instructions cite. -/

namespace Sys2Proof.Machine

/-! ### Registers -/

@[simp] theorem seq_setSeq_same (s : State) (q : Nat) (x : Seq) : (s.setSeq q x).seq q = x := by
  simp [State.seq, State.setSeq]

theorem seq_setSeq_other (s : State) {p q : Nat} (x : Seq) (h : p ≠ q) : (s.setSeq q x).seq p = s.seq p := by
  simp [State.seq, State.setSeq, storeGet_set_other _ _ _ h]

@[simp] theorem setG_zero (x : Seq) (v : Word) : x.setG 0 v = x := rfl

@[simp] theorem greg_zero (x : Seq) : x.greg 0 = 0 := rfl

theorem greg_setG_same (x : Seq) {r : Nat} (v : Word) (h : r ≠ 0) : (x.setG r v).greg r = v := by
  simp [Seq.setG, Seq.greg, h]

theorem greg_setG_other (x : Seq) {r p : Nat} (v : Word) (h : p ≠ r) : (x.setG r v).greg p = x.greg p := by
  unfold Seq.setG
  split
  · rfl
  · by_cases hp : p = 0 <;> simp [Seq.greg, hp, storeGet_set_other _ _ _ h]

@[simp] theorem setG_pc (x : Seq) (r : Nat) (v : Word) : (x.setG r v).pc = x.pc := by unfold Seq.setG; split <;> rfl

@[simp] theorem setG_st (x : Seq) (r : Nat) (v : Word) : (x.setG r v).st = x.st := by unfold Seq.setG; split <;> rfl

@[simp] theorem setG_flags (x : Seq) (r : Nat) (v : Word) : (x.setG r v).flags = x.flags := by
  unfold Seq.setG; split <;> rfl

@[simp] theorem treg_setT_same (x : Seq) (r : Nat) (v : Stamp) : (x.setT r v).treg r = v := by simp [Seq.setT, Seq.treg]

theorem treg_setT_other (x : Seq) {r p : Nat} (v : Stamp) (h : p ≠ r) : (x.setT r v).treg p = x.treg p := by
  simp [Seq.setT, Seq.treg, storeGet_set_other _ _ _ h]

/-! ### Writing one sequencer -/

/-- Writing one sequencer changes it alone. -/
theorem onlySeq_setSeq (s : State) (q : Nat) (x : Seq) : s.onlySeq (s.setSeq q x) q x :=
  ⟨seq_setSeq_same s q x, fun _ h => seq_setSeq_other s x h, rfl⟩

/-- Writing it twice leaves what was written last. -/
theorem onlySeq_setSeq_twice (s : State) (q : Nat) (x y : Seq) : s.onlySeq ((s.setSeq q x).setSeq q y) q y :=
  ⟨seq_setSeq_same _ q y, fun _ h => by rw [seq_setSeq_other _ _ h, seq_setSeq_other _ _ h], rfl⟩

/-! ### Running an instruction -/

/-- What `canRun` says. -/
theorem canRun_iff {s : State} {q len : Nat} :
    s.canRun q len = true ↔ (s.seq q).st = .running ∧ (s.seq q).stepping = false ∧ s.asleep = false ∧
      (s.seq q).pc.toNat + len < 65536 := by
  simp [State.canRun, and_assoc]

/-- An instruction that a sequencer can run is run. -/
theorem issue_of_canRun {s : State} {q len : Nat} (f : State → State) (h : s.canRun q len = true) : s.issue q len f = f s := by
  obtain ⟨h1, h2, h3, h4⟩ := canRun_iff.mp h
  have h5 : ¬((s.seq q).pc.toNat = 0xFFFC ∧ len = 8) := by omega
  simp [State.issue, State.stepDone, h1, h2, h3, h5]

/-- Going on behind an instruction that ends within instruction memory. -/
theorem advance_of_lt {s : State} {q len : Nat} (h : (s.seq q).pc.toNat + len < 65536) :
    s.advance q len = s.setSeq q (Seq.after (s.seq q) len) := by
  have : ¬65536 ≤ (s.seq q).pc.toNat + len := by omega
  simp only [State.advance, this, if_false, Seq.after]

/-- A sequencer is changed, and goes on. -/
theorem onlySeq_map_advance {s : State} {q len : Nat} (f : Seq →
  Seq) (h : s.canRun q len = true) (hf : (f (s.seq q)).pc = (s.seq q).pc) :
    s.onlySeq ((s.mapSeq q f).advance q len) q (Seq.after (f (s.seq q)) len) := by
  have h3 := (canRun_iff.mp h).2.2.2
  rw [advance_of_lt (by rw [State.mapSeq, seq_setSeq_same, hf]; exact h3)]
  simpa [State.mapSeq] using onlySeq_setSeq_twice s q (f (s.seq q)) (Seq.after (f (s.seq q)) len)

/-- An instruction that changes registers only. -/
theorem onlySeq_issueReg {s : State} {q len : Nat} (f : Seq →
  Seq) (h : s.canRun q len = true) (hf : (f (s.seq q)).pc = (s.seq q).pc) :
    s.onlySeq (s.issueReg q len f) q (Seq.after (f (s.seq q)) len) := by
  rw [State.issueReg, issue_of_canRun _ h]
  exact onlySeq_map_advance f h hf

/-- An access of data memory that is aligned and in range. -/
theorem onlySeq_issueMem {s : State} {q n : Nat} {gb : Fin 32} {off : Half} (f : Nat → Seq → Seq) (h : s.canRun q 4 = true)
    (ha : (s.seq q).memAddr gb off % n = 0) (hr : (s.seq q).memAddr gb off + n ≤ 65536)
    (hf : (f ((s.seq q).memAddr gb off) (s.seq q)).pc = (s.seq q).pc) :
    s.onlySeq (s.issueMem q gb off n f) q (Seq.after (f ((s.seq q).memAddr gb off) (s.seq q)) 4) := by
  have hm : memFault ((s.seq q).memAddr gb off) n = none := by simp [memFault, ha, hr]
  rw [State.issueMem, issue_of_canRun _ h]
  simp only [hm]
  exact onlySeq_map_advance _ h hf

/-- An item that finds room is posted behind those that wait, and the instruction is done. -/
theorem onlySeq_issuePost {s : State} {q len : Nat} (l : List Posted) (h : s.canRun q len = true)
    (hp : (s.seq q).post.length < 8) :
    s.onlySeq (s.issuePost q len l) q (Seq.after { s.seq q with post := (s.seq q).post ++ l } len) := by
  have h3 := (canRun_iff.mp h).2.2.2
  have : ¬8 ≤ (s.seq q).post.length := by omega
  rw [State.issuePost, issue_of_canRun _ h]
  simp only [this, if_false]
  rw [advance_of_lt (by rw [seq_setSeq_same]; exact h3)]
  simpa using onlySeq_setSeq_twice s q _ (Seq.after { s.seq q with post := (s.seq q).post ++ l } len)

/-! ### Waits -/

/-- A wait that ends writes its result, Z and the PC of its sequencer, and nothing else of the part. -/
theorem onlySeq_endWait {s : State} {q : Nat} (gd code idx : Nat) (h : (s.seq q).pc.toNat + 4 < 65536) :
    s.onlySeq (s.endWait q gd code idx) q (Seq.after { (s.seq q).setG gd (waitWord code idx) with
      flags := { (s.seq q).flags with z := decide (code = 0) }, wait := none, st := .running, runStart := s.tickNo
      bars := ((s.endWait q gd code idx).seq q).bars } 4) := by
  have main (b : Store Nat) : s.onlySeq ((s.setSeq q { (s.seq q).setG gd (waitWord code idx) with
      flags := { (s.seq q).flags with z := decide (code = 0) }, wait := none, st := .running, runStart := s.tickNo
      bars := b }).advance q 4) q (Seq.after { (s.seq q).setG gd (waitWord code idx) with
      flags := { (s.seq q).flags with z := decide (code = 0) }, wait := none, st := .running, runStart := s.tickNo
      bars := b } 4) := by
    rw [advance_of_lt (by simpa using h), seq_setSeq_same]
    exact onlySeq_setSeq_twice s q _ _
  have same (b : Store Nat) : ((s.setSeq q { (s.seq q).setG gd (waitWord code idx) with
      flags := { (s.seq q).flags with z := decide (code = 0) }, wait := none, st := .running, runStart := s.tickNo
      bars := b }).advance q 4 |>.seq q).bars = b := by rw [(main b).1]; rfl
  unfold State.endWait
  extract_lets x bars
  rw [same bars]
  exact main bars

/-- A wait that is issued outside STEP, with no ENTRY vector due, ends at once or blocks. -/
theorem issueWait_plain {s : State} {q : Nat} (gd : Nat) (what : WaitFor) (now : State → Option (State × Nat × Nat))
    (hs : (s.seq q).stepping = false) (hv : s.entryVector q = none) :
    s.issueWait q gd what now = match now s with
      | some (u, code, idx) => u.endWait q gd code idx
      | none => s.mapSeq q (fun x => { x with
          st := .waiting, wait := some { what := what, gd := gd, start := s.tickNo } }) := by
  simp only [State.issueWait, hs, hv, Bool.false_eq_true, if_false] <;> rfl

end Sys2Proof.Machine
end

