-- ==== Sys2Proof/Tests/Slice0.lean ====
section
/-! SUPPORT. Small checks: ill-formed commands are refused, single steps with results worked out from the spec, and for every
statement with hypotheses a state and operands that meet them (`test_hyps_…`). -/

namespace Sys2Proof.Tests

open Sys2Proof Sys2Proof.Machine

/-! ### Builders -/

/-- The state after reset. -/
def R : State := State.reset

/-- Register fields with values: field, instance, index, value. -/
def put (s : State) : List (Fld × Nat × Nat × Nat) → State
  | [] => s
  | (f, n, i, v) :: t => put (s.setFldI f n i v) t

/-- A state after reset with register fields set. -/
def with_ (l : List (Fld × Nat × Nat × Nat)) : State := put R l

/-- Sequencer `q` runs with registers `x`. -/
def runs (q : Nat) (x : Seq) (s : State := R) : State := s.setSeq q { x with st := .running }

/-- Sequencer `q` has posted items. -/
def posted (q : Nat) (l : List Posted) (s : State := R) : State := s.setSeq q { s.seq q with post := l }

/-- A sequencer owns an instance. -/
def owns (b : Blk) (n q : Nat) (s : State := R) : State := { s with owners := storeSet 32 s.owners (ownerKey b n) q }

/-- SUP has posted the CFGW of `v` to a register. -/
def written (b : Blk) (n off : Nat) (v : Word) (s : State := R) : State := posted 32 [.cfgw (cfgBase b n + off) v] s

/-- The counter counts and stands at `c`. -/
def counts (c : Stamp) (s : State := R) : State := { s with time := { s.time with counting := true, counter := c } }

/-- Readiness bits. -/
def ready (v : Nat) (s : State := R) : State := s.setFld F.SUP_READY_READY 0 v

/-! ### Well-formedness -/

theorem test_report_of_eleven_is_refused :
    (Instr.report 0 (List.replicate 11 (0, 0, 0, 0))).wellFormed = false ∧
    (Instr.report 0 (List.replicate 10 (0, 0, 0, 0))).wellFormed = true := by decide

theorem test_assign_of_seventeen_is_refused :
    (Instr.assign (List.replicate 17 (0, 0, 0))).wellFormed = false ∧
    (Instr.assign (List.replicate 16 (0, 0, 0))).wellFormed = true := by decide

theorem test_data_of_none_or_nine_is_refused :
    (Instr.data 0 0 0 0 []).wellFormed = false ∧ (Instr.data 0 0 0 0 (List.replicate 9 0)).wellFormed = false ∧
    (Instr.data 0 0 0 0 (List.replicate 8 0)).wellFormed = true := by decide

theorem test_frame_of_257_bytes_is_refused (l : List Byte) :
    (l.length = 257 → (Instr.frameForward 0 0 0 0 0 0 l).wellFormed = false) ∧
    (l.length = 256 → (Instr.frameForward 0 0 0 0 0 0 l).wellFormed = true) := by
  constructor <;> intro h <;> simp only [Instr.wellFormed, h] <;> decide

/-! ### The machine -/

theorem test_hyps_StepRunsTheFrontCommand :
    ({ R with pending := [.nowLo 0] } : State).pending = .nowLo 0 :: [] ∧ R.pending = [] ∧ R.survey.ended = none := by decide

theorem test_hyps_WellFormedCommandsComplete :
    (Instr.nowLo 0).wellFormed = true ∧ (Instr.data 0 0 0 0 []).wellFormed = false := by decide

theorem test_hyps_CommandsLeaveTheQueueAlone : ∃ t, exec (.nowLo 0) R = .next t := ⟨_, rfl⟩

theorem test_hyps_UrsenWordsRoundTrip :
    (UrsenInstr.halt).spelled = true ∧ ursenDecode (ursenEncode .halt).1 0 = some .halt := by decide

theorem test_hyps_CounterCountsTicks :
    (counts 0).pending = [] ∧ (counts 0).time.counting = true ∧ (counts 0).time.counter.toNat % 32 = 0 ∧
    ∃ t, step (counts 0) = .next t := ⟨by decide, by decide, by decide, _, rfl⟩

theorem test_hyps_StepsKeepMemoryAndQueues : R.bounded = true ∧ ∃ t, step R = .next t := ⟨by decide, _, rfl⟩

/-- Sill 5 of sequencer 1, armed for an earlier time; the new time leads by 50 ticks. -/
def rearmed : State := owns .sill 5 1 (posted 1 [.cfga 0x200500 1600] (counts 0 { R with arms := [(0x200500, 32000)] }))

theorem test_hyps_SecondCfgaReplacesTheFirst :
    (rearmed.seq 1).post = .cfga (0x200500 : Word).toNat 1600 :: [] ∧
      cfgDecode ((0x200500 : Word).toNat % 2 ^ 31) = some (.sill, 5, 0) ∧
    rearmed.owner .sill 5 = 1 ∧ storeSorted rearmed.arms = true ∧ (ownerKey .sill 5, (32000 : Stamp)) ∈ rearmed.arms ∧
    50 ≤ rearmed.leadTicks 1600 ∧ plainPost [] = true := by decide

theorem test_hyps_LogicalRegistersRotate : (31 < 32) ∧ ({} : Engine).cur.rrb < 32 := by decide

theorem test_hyps_ReservedConfigurationAddresses :
    (runs 0 {}).canRun 0 8 = true ∧ ((runs 0 {}).seq 0).post = [] ∧ cfgDecode 0x00900000 = none ∧
    ((posted 0 [.cfgw 0x00900000 1]).seq 0).post = .cfgw (0x00900000 : Word).toNat 1 :: [] ∧
    cfgDecode 0x00010080 = some (.time, 0, 0x80) ∧ regExists .time 0x80 = false := by decide

/-- An entry of sequencer 1 for sill 5. -/
def anEntry : LaunchItem := { time := 3200, target := 5, action := 0, width := 0, tag := 7 }
/-- A commit of slot 9 of tracker 0 for sill 5, 30 ticks ahead. -/
def aCommit : QEntry := { time := 960, action := 0, width := 0, tag := 7, src := 0, dev := 0, held := some (0, 9) }
/-- Sill 5 runs. -/
def sill5 : State := ready 0x8000 ((counts 0).setFld F.SILL_CTRL_EN 5 1)

theorem test_hyps_ForeignLaunchItemsAreDiscarded :
    R.owner .sill 5 ≠ 1 ∧ ((posted 1 [.entry anEntry]).seq 1).post = .entry anEntry :: [] ∧ sillOf anEntry.target = some 5 ∧
    R.refuseAction 5 { time := 3200, action := 0, width := 0, tag := 7, src := 321, dev := 0 } = none ∧ (R.sill 5).waiting = [] ∧
    ((posted 1 [.amendTime 5 7 0]).seq 1).post = .amendTime (BitVec.ofNat 16 5) (7 : Half).toNat 0 :: [] ∧
    ((posted 1 [.cancel 5 7 true [8]]).seq 1).post = .cancel (BitVec.ofNat 16 5) (7 : Half).toNat true [8] :: [] ∧
    ({ sill5 with commits := [(5, aCommit)] } : State).commits = [(5, aCommit)] ∧ plainPost [] = true ∧ aCommit.held = some (0, 9) ∧
    sill5.refuseAction 5 aCommit = none ∧ sill5.sillRuns 5 = true ∧ sill5.sillFill 5 < 16 ∧ (sill5.sill 5).held = [] ∧
    960 ≤ stampDiff aCommit.time sill5.now := by decide

/-! ### Sequencers -/

theorem test_hyps_UrsenArithmeticResults :
    (runs 0 {}).canRun 0 4 = true ∧ (runs 0 { pc := 0xFFF4 }).canRun 0 8 = true ∧ (runs 32 {}).canRun 32 4 = true := by decide

/-- The counter counts since tick 0 and stands at `c` in tick 2; `steps` are the steps of the last ticks. -/
def counted (c : Stamp) (steps : List (Nat × Stamp) := []) : State :=
  { counts c with tickNo := 2, time := { (counts c).time with steps := steps } }

theorem test_hyps_UrsenStampsAndSamples :
    let s := runs 0 {} (counted 64)
    s.canRun 0 8 = true ∧ s.time.counting = true ∧ s.time.since + 2 ≤ s.tickNo ∧ s.time.steps = [] ∧
    (runs 0 {} (counted 64 [(1, 320)])).time.steps = [(1, 320)] := by decide

theorem test_hyps_UrsenMemoryAccess :
    let x : Seq := { g := [(1, 0xFFF8)] }
    (runs 0 x).canRun 0 4 = true ∧ x.memAddr 1 4 % 4 = 0 ∧ x.memAddr 1 4 + 4 ≤ 65536 ∧ x.memAddr 1 6 % 2 = 0 ∧
    x.memAddr 1 6 + 2 ≤ 65536 ∧ x.memAddr 1 7 + 1 ≤ 65536 ∧ x.memAddr 1 0 % 8 = 0 ∧ x.memAddr 1 0 + 8 ≤ 65536 ∧
    x.memAddr 1 1 % 4 ≠ 0 ∧ x.memAddr 1 8 % 4 = 0 ∧ 65536 ≤ x.memAddr 1 8 := by decide

theorem test_hyps_UrsenControlTransfer :
    let x : Seq := { stack := [{ ret := 8, flags := {}, entry := false }] }
    (runs 0 x).canRun 0 4 = true ∧ ((runs 0 x).seq 0).stack.length < 16 ∧
    ((runs 0 x).seq 0).stack = { ret := 8, flags := {}, entry := false } :: [] ∧ (runs 0 x).entryVector 0 = none := by decide

theorem test_hyps_UrsenPostings :
    (runs 0 {}).canRun 0 8 = true ∧ ((runs 0 {}).seq 0).post.length < 8 ∧
    8 ≤ ((posted 0 (List.replicate 8 (.signal 0 0))).seq 0).post.length ∧
    ((posted 0 (List.replicate 8 (.signal 0 0))).seq 0).pc.toNat ≠ 0xFFFC ∧
    (((5 : Word).extractLsb' 16 16 : Half).toNat < 2) ∧ (owns .port 3 0 (runs 0 {})).owner .port 3 = 0 ∧
    (owns .port 3 0 (runs 0 {})).canRun 0 4 = true ∧ (owns .port 3 0 (runs 0 {})).locked 3 31 = false ∧
    bitOf ((owns .port 3 0 (runs 0 {})).fld F.SUP_PREADY_MAP 0) 3 = false := by decide

/-- Sequencer 0 runs, T0 names the present, vector 2 is a pending POLL vector, signal 31 is pending, port 0 consumes ring 5. -/
def waiting : State := runs 0 { t := [(0, 6400), (1, 6401), (2, 6399)], g := [(1, 0x80000000)] } (put (counts 6400) [
  (F.SEQ_WEN_EN, 0, 0, 4), (F.SEQ_WPEND_PEND, 0, 0, 4), (F.SEQ_SIGPEND_PEND, 0, 0, 0x80000000),
  (F.SEQ_STREAM_EN, 0, 0, 1), (F.SEQ_STREAM_RING, 0, 0, 5), (F.RING_CTRL_EN, 5, 0, 1)])

theorem test_hyps_UrsenWaits :
    waiting.canRun 0 4 = true ∧ (waiting.seq 0).stepping = false ∧ waiting.entryVector 0 = none ∧
    (waiting.seq 0).treg 0 = waiting.now ∧ (waiting.seq 0).treg 1 ≠ waiting.now ∧
    ((waiting.seq 0).treg 1 - waiting.now).toNat < 2 ^ 63 ∧ 2 ^ 63 ≤ ((waiting.seq 0).treg 2 - waiting.now).toNat ∧
    waiting.pollVector 0 4 = some 2 ∧ waiting.pollVector 0 8 = none ∧ waiting.signalBit 0 0x80000000 = some 31 ∧
    waiting.signalBit 0 1 = none ∧ ¬(waiting.fldI F.SEQ_STREAM_EN 0 1 = 1) ∧ waiting.fldI F.SEQ_STREAM_EN 0 0 = 1 ∧
    waiting.bit F.RING_CTRL_EN (waiting.fldI F.SEQ_STREAM_RING 0 0) = true ∧ waiting.ringMet 0 0 = false ∧
    (put waiting [(F.RING_WPTR_OFF, 5, 0, 1)]).ringMet 0 0 = true ∧ (waiting.mt 0).st = .off ∧
    (waiting.setMt 0 { st := .still }).canRun 0 4 = true := by decide

theorem test_hyps_UrsenStreams :
    let s := put (runs 0 { g := [(1, 0xFFF0)], stream := [(0, [7])] }) [(F.SEQ_STREAM_EN, 0, 0, 1), (F.SEQ_STREAM_EN, 0, 1, 1),
      (F.SEQ_STREAM_DIR, 0, 1, 1)]
    let a := ((s.seq 0).greg 1).toNat
    s.canRun 0 4 = true ∧ a % 16 = 0 ∧ a + 16 ≤ 65536 ∧ s.fldI F.SEQ_STREAM_EN 0 0 = 1 ∧ s.fldI F.SEQ_STREAM_DIR 0 0 = 0 ∧
    storeGet [] (s.seq 0).stream 0 = 7 :: [] ∧ s.fldI F.SEQ_STREAM_EN 0 1 = 1 ∧ s.fldI F.SEQ_STREAM_DIR 0 1 = 1 ∧
    (storeGet [] (s.seq 0).stream 1).length < 4 ∧ ¬(s.fldI F.SEQ_STREAM_EN 0 2 = 1) := by decide

/-- Sequencer 0 with the Caldera ready and the last item of it in G1. -/
def atCaldera : State := runs 0 { g := [(1, 0x2FFFFF0), (2, 0xFFF0)] } (ready 0x10)

theorem test_hyps_UrsenCalderaAndConfiguration :
    atCaldera.canRun 0 8 = true ∧ atCaldera.ready 4 = true ∧ ((atCaldera.seq 0).greg 1).toNat < 48 * 2 ^ 20 ∧
    atCaldera.group (groupOf ((atCaldera.seq 0).greg 1).toNat) = 0 ∧ ((atCaldera.seq 0).greg 2).toNat % 16 = 0 ∧
    ((atCaldera.seq 0).greg 2).toNat + 16 ≤ 65536 ∧ (atCaldera.seq 0).post.length < 8 ∧
    ((posted 0 [.signal 0 0] atCaldera).seq 0).post ≠ [] ∧ (atCaldera.seq 0).post = [] ∧ atCaldera.busFree = true ∧
    atCaldera.storeWaits 0 0x2FFFFF0 = false ∧ cfgDecode 0x00010004 = some (.time, 0, 4) ∧ regExists .time 4 = true ∧
      cfgDecode 0x00900000 = none := by decide

theorem test_hyps_IllegalAndPrivilegedInstructionsFault :
    (runs 31 {}).canRun 31 8 = true ∧ ursenDecode 0 0 = none := by decide

/-- SUP runs, with 0xFFE0 in G1 and a block's address in G2. -/
def supRuns : State := runs 32 { g := [(1, 0xFFE0), (2, 0x00200500)] }

theorem test_hyps_SupervisorInstructions :
    supRuns.canRun 32 8 = true ∧ (supRuns.seq 32).post.length < 8 ∧ cfgDecode (0x200500 / 4 * 4 % 2 ^ 31) = some (.sill, 5, 0) ∧
    srstOk 0 0x00300000 = true ∧ srstOk 3 0xFFFFFFFF = true ∧ supRuns.errq = [] ∧ ((supRuns.seq 32).greg 1).toNat % 16 = 0 ∧
    ((supRuns.seq 32).greg 1).toNat + 32 ≤ 65536 ∧ (supRuns.raise 1 0 []).errq.length = 1 ∧
    (supRuns.raise 1 0 []).bit F.SUP_ERRSTAT_OVF 0 = false ∧ supRuns.bit F.SUP_ERRRING_EN 0 = false ∧
    ({ supRuns with errWritten := true } : State).errWritten = true ∧ supRuns.errWritten = false ∧
      supRuns.cpNotes.length < 16 ∧ supRuns.pcNotes.length < 16 ∧
    1250 * 10 * supRuns.fld F.SUP_WDOG_WMIN 0 ≤ supRuns.tickNo - supRuns.kickAt := by decide

/-- Device 3 of a tree of itself (root) and device 4, a child by link 2, at P5. -/
def inPair (s : State := R) : State :=
  let c : ConstSide := { tree := [{ uid := 1, num := 3, parent := 3 }, { uid := 2, num := 4, parent := 3 }] }
  let l : Store LinkSide := [(2, { ident := some ⟨2, 0, 0, 0, 0⟩ })]
  put { s with const := c, links := l } [(F.CONST_STATUS_PHASE, 0, 0, 0x3F), (F.CONST_STATUS_ROOT, 0, 0, 1),
    (F.CONST_ID_VALID, 0, 0, 1),
    (F.CONST_ID_NUM, 0, 0, 3), (F.LINK_STATUS_STATE, 2, 0, 2), (F.LINK_STATUS_ROLE, 2, 0, 2)]

theorem test_hyps_UrsenAcrossDevices :
    let s := inPair (runs 0 {} (counted 64))
    s.canRun 0 4 = true ∧ (s.seq 0).post.length < 8 ∧ s.devNum = 3 ∧ s.reachable 4 = true ∧ s.linkTo 4 = some 2 ∧
      s.linkUp 2 = true ∧
    s.reachable 511 = false ∧ s.hopsTo 4 = some 1 ∧ s.hopsTo 3 = some 0 ∧ s.time.counting = true ∧ s.time.since + 2 ≤ s.tickNo ∧
    s.time.steps = [] ∧
    (owns .zone 63 0).owner .zone 63 = 0 := by decide

/-- Sequencer 0 waits, since tick 0, for `w`. -/
def waitsFor (w : WaitFor) (gone : Bool := false) (s : State := R) : State :=
  s.setSeq 0 { st := .waiting, wait := some { what := w, gd := 1, start := 0, gone := gone } }

theorem test_hyps_BarrierArrivalAndWaitEnds :
    let m := runs 0 {} (with_ [(F.CONST_BAR_EN, 0, 15, 1), (F.CONST_BARM_MASK, 0, 15, 1)])
    let v := waitsFor (.time 0) false (with_ [(F.SEQ_WVEC_MODE, 0, 15, 1), (F.SEQ_WEN_EN, 0, 0, 0x8000),
        (F.SEQ_WPEND_PEND, 0, 0, 0x8000)])
    m.canRun 0 4 = true ∧ (m.seq 0).stepping = false ∧ m.entryVector 0 = none ∧ m.fldI F.CONST_BAR_EN 0 15 = 1 ∧
    m.barMember 15 0 = true ∧ storeGet 0 (m.seq 0).bars 15 = 0 ∧ m.inTree = false ∧ m.fldI F.CONST_BAR_EN 0 0 ≠ 1 ∧
    ((waitsFor (.time 64) false (counts 0)).seq 0).wait = some { what := .time 64, gd := 1, start := 0 } ∧
    ((waitsFor (.ring 0) true).seq 0).wait = some { what := .ring 0, gd := 1, start := 0, gone := true } ∧
    (waitsFor (.ring 0) false (with_ [(F.RING_WPTR_OFF, 0, 0, 1)])).ringMet 0 0 = true ∧
    ((waitsFor (.barrier 0 true false)).seq 0).wait = some { what := .barrier 0 true false, gd := 1, start := 0 } ∧
    ((waitsFor (.pos 0 0 0 0 true)).seq 0).wait = some { what := .pos 0 0 0 0 true, gd := 1, start := 0 } ∧
    0 < (waitsFor (.ring 0) false (with_ [(F.SEQ_WDOG_WLIM, 0, 0, 65535)])).fld F.SEQ_WDOG_WLIM 0 ∧
    v.entryVector 0 = some 15 ∧ (v.seq 0).stack.length < 16 := by decide

theorem test_hyps_SignalsAndTimers :
    ((posted 0 [.signal 32 31]).seq 0).post = .signal 32 31 :: [] ∧ R.vectorsOn 32 3 31 = [] ∧
    bitOf ((with_ [(F.SEQ_SIGPEND_PEND, 32, 0, 0x80000000)]).fld F.SEQ_SIGPEND_PEND 32) 31 = true ∧
    bitOf (R.fld F.SEQ_SIGPEND_PEND 32) 31 = false ∧ ((R.setSeq 31 { st := .faulted }).seq 31).st = .faulted ∧
    (with_ [(F.SEQ_CTRL_FAULTACT, 31, 0, 1)]).bit F.SEQ_CTRL_FAULTACT 31 = true ∧ ((runs 31 {}).seq 31).st = .running ∧
    0 < (with_ [(F.SEQ_WDOG_RUNLIM, 31, 0, 1)]).fld F.SEQ_WDOG_RUNLIM 31 ∧
    ((R.setSeq 0 { alarm := some 64 }).seq 0).alarm = some 64 ∧ R.vectorsOn 0 4 0 = [] ∧ (ready 1).ready 0 = true ∧
    R.cpNotes.length < 16 ∧ R.pcNotes.length < 16 := by decide

/-- Ring 1,023 at the Caldera's end, 16 items long, with `n` items in it, between agents `p` and `c`. -/
def lastRing (p c n : Nat) (s : State := ready 0x10) : State := put s [(F.RING_CTRL_EN, 1023, 0, 1), (F.RING_CTRL_PROD, 1023, 0, p),
  (F.RING_CTRL_CONS, 1023, 0, c), (F.RING_BASE_BASE, 1023, 0, 0x2FFFF0), (F.RING_LEN_LEN, 1023, 0, 16),
    (F.RING_WPTR_OFF, 1023, 0, n)]

theorem test_hyps_StreamPortsMoveItems :
    let c := put (lastRing 0 352 1) [(F.SEQ_STREAM_EN, 32, 3, 1), (F.SEQ_STREAM_RING, 32, 3, 1023)]
    let p := put (lastRing 352 0 15) [(F.SEQ_STREAM_EN, 32, 3, 1), (F.SEQ_STREAM_RING, 32, 3, 1023), (F.SEQ_STREAM_DIR, 32, 3, 1)]
    c.ready 4 = true ∧ c.fldI F.SEQ_STREAM_EN 32 3 = 1 ∧ c.fldI F.SEQ_STREAM_RING 32 3 = 1023 ∧ c.bit F.RING_CTRL_EN 1023 = true ∧
    c.fldI F.SEQ_STREAM_DIR 32 3 = 0 ∧ c.fld F.RING_CTRL_CONS 1023 = 320 + 32 ∧ 0 < c.ringFill 1023 ∧
    c.group (groupOf (c.ringAddr 1023 (c.aheadOff 1023 0))) = 0 ∧ p.fldI F.SEQ_STREAM_DIR 32 3 = 1 ∧
    c.readOpen 1023 0 = true ∧ p.writeOpen 1023 = true ∧ p.fld F.RING_CTRL_PROD 1023 = 320 + 32 ∧ 0 < p.ringRoom 1023 ∧
    storeGet [] ((p.setSeq 32 { stream := [(3, [7])] }).seq 32).stream 3 = [7] := by decide

theorem test_hyps_ResetRequests :
    ((posted 0 [.srst 0 0x31F000]).seq 0).post = .srst 0 (0x31F000 : Word).toNat :: [] ∧
    (0x31F000 : Word).toNat = 0x00300000 + 0x1000 * 31 ∧ ((posted 0 [.srst 3 7]).seq 0).post = .srst 3 (7 : Word).toNat :: [] ∧
    R.warm = none ∧ ((R.setSeq 32 { st := .faulted }).seq 32).st = .faulted ∧ (ready 1).ready 0 = true ∧
    (ready 1).bit F.SUP_ERRSTAT_HANDLING 0 = false ∧ ({ R with warm := some 4 } : State).warm = some 4 ∧ (ready 1).wdogOut = false ∧
    ({ R with wdogOut := true } : State).wdogOut = true := by decide

/-! ### Rings, link streams -/

theorem test_hyps_RingsAndGroups :
    let p := lastRing 1023 0 14
    let f := lastRing 1023 0 16
    let c := lastRing 0 64 1
    let w := { with_ [(F.SEQ_WVEC_SRC, 32, 15, 2), (F.SEQ_WVEC_INDEX, 32, 15, 1023)] with watermarks := [(32, 1023)] }
    p.ringPlain 1023 (p.ringAddr 1023 14) = true ∧ p.fld F.RING_CTRL_PROD 1023 = 1023 ∧ 14 + 1 < p.ringLen 1023 ∧
      0 < p.ringRoom 1023 ∧
    f.ready 4 = true ∧ f.ringEn 1023 = true ∧ f.ringRoom 1023 = 0 ∧ (1023, 1023) ∉ f.ringWaits ∧ p.busFree = true ∧
    c.ringPlain 1023 (c.ringAddr 1023 0) = true ∧ c.nothingWaits = true ∧ c.fld F.RING_CTRL_CONS 1023 = 64 ∧ 0 < c.ringFill 1023 ∧
    (32, 1023) ∈ w.watermarks ∧ w.vectorsOn 32 2 1023 = [15] ∧ R.vectorsOn 32 2 1023 = [] ∧ w.fld F.SUP_PWR_STATE 0 = 0 ∧
    (with_ [(F.CALDERA_PWRSTAT_G, 0, 0, 0x4000)]).group 7 = 1 ∧ (with_ [(F.CALDERA_PWRSTAT_G, 0, 0, 0xC000)]).group 7 = 3 ∧
    R.ready 4 = false ∧ R.nothingWaits = true ∧ R.seqs = [] ∧ plainPost (R.seq 0).post = true := by decide

/-- SUP is at an ERRPOP of one of two records, and its records go to a ring. -/
theorem test_hyps_SupervisorInstructions_ring :
    let s := lastRing 352 0 13 (put (runs 32 { g := [(1, 0xFFE0)] } (((ready 0x10).raise 1 0 []).raise 2 0 [])) [(F.SUP_ERRRING_EN, 0, 0, 1),
      (F.SUP_ERRRING_RING, 0, 0, 1023)])
    s.canRun 32 8 = true ∧ s.errq.length = 2 ∧ s.bit F.SUP_ERRRING_EN 0 = true ∧ s.ringPlain 1023 (s.ringAddr 1023 13) = true ∧
    s.fld F.SUP_ERRRING_RING 0 = 1023 ∧ s.ringPlain 1023 (s.ringAddr 1023 14) = true ∧ s.fld F.RING_CTRL_PROD 1023 = 352 ∧
    13 + 2 < s.ringLen 1023 ∧ 2 ≤ s.ringRoom 1023 ∧ s.busFree = true := by decide

/-- Link 7 is up, and the frame that comes next comes in so. -/
def badLine (x : FrameSeal) : State := (with_ [(F.LINK_STATUS_STATE, 7, 0, 2)]).setLink 7 { coming := x }

theorem test_hyps_LinkStreams :
    let c := inPair (put (lastRing 0 263 1) [(F.CONST_XSTR_EN, 0, 7, 1), (F.CONST_XSTR_DEV, 0, 7, 4),
        (F.CONST_XSTRS_SRING, 0, 7, 1023),
      (F.CONST_XSTRS_CREDITS, 0, 7, 1)])
    let p := lastRing 263 0 14
    c.fldI F.CONST_XSTR_EN 0 7 = 1 ∧ c.fldI F.CONST_XSTRS_SRING 0 7 = 1023 ∧ c.ringPlain 1023 (c.ringAddr 1023 0) = true ∧
    c.nothingWaits = true ∧ c.fld F.RING_CTRL_CONS 1023 = 256 + 7 ∧ 0 + 1 < c.ringLen 1023 ∧ 0 < c.ringFill 1023 ∧
    0 < c.fldI F.CONST_XSTRS_CREDITS 0 7 ∧ c.linkTo (c.fldI F.CONST_XSTR_DEV 0 7) = some 2 ∧ c.linkUp 2 = true ∧
    c.fldI F.CONST_XSTRS_CREDITS 0 6 < 1 ∧ p.ringPlain 1023 (p.ringAddr 1023 14) = true ∧ p.const.owed = [] ∧
    p.fld F.RING_CTRL_PROD 1023 = 256 + 7 ∧ 14 + 1 < p.ringLen 1023 ∧ 1 < p.ringRoom 1023 ∧ (p.link 7).coming = .good ∧
      p.busFree = true ∧
    (badLine .good).linkUp 7 = true ∧ c.sound (c.ringAddr 1023 0) 16 = true ∧
    (badLine .badCrc).linkUp 7 = true ∧ ((badLine .badCrc).link 7).coming = .badCrc ∧
    ((badLine .gap).link 7).coming = .gap ∧ ((badLine .poisoned).link 7).coming = .poisoned := by decide

/-! ### Sills, ports, attention lines -/

/-- An entry in sill 5's queue, with `t` ticks to go. -/
def queued (t : Nat) : QEntry := { time := ticks t, action := 2, width := 0, tag := 7, src := 321, dev := 0 }

/-- Sill 5 runs, is sequencer 1's, and holds `l`. -/
def holding (l : List QEntry) : State := owns .sill 5 1 (sill5.setSill 5 { queue := l })

theorem test_hyps_SillEntriesLaunch :
    let h := holding [queued 30]
    let a : HeldItem := { tracker := 0, slot := 9, time := some 256, coast := false }
    let l := { holding [{ queued 30 with held := some (0, 9) }] with lane := [(5, a)] }
    (holding []).owner .sill 5 = 1 ∧ anEntry.target = BitVec.ofNat 16 5 ∧ (holding []).sillRuns 5 = true ∧
      ((holding []).sill 5).waiting = [] ∧
    (holding []).sillFill 5 < 16 ∧ ((holding []).sill 5).held = [] ∧ 960 ≤ stampDiff anEntry.time (holding []).now ∧
    anEntry.action.toNat < 6 ∧ (h.sill 5).queue = queued 30 :: [] ∧ (queued 30).isFixed h.now = false ∧ (queued 30).fixed = false ∧
    (queued 30).held = none ∧ (queued 30).action ≤ 2 ∧ 960 ≤ stampDiff (960 : Stamp) h.now ∧ h.time.counting = true ∧
      (h.sill 5).pulse = none ∧
    h.bit F.SILL_CTRL_LREC 5 = false ∧ (h.sill 5).lastChange = none ∧ (h.sill 5).fifo.length < 16 ∧
    ((h.setSill 5 { pulse := some { restore := false, ends := 64, tag := 0, flags := 0 } }).sill 5).pulse =
      some { restore := false, ends := 64, tag := 0, flags := 0 } ∧
    l.lane = (5, a) :: [] ∧ (l.sill 5).queue.head?.bind (·.held) = some (0, 9) ∧ 256 ≤ stampDiff (ticks 30) l.now ∧
    256 ≤ stampDiff 256 l.now := by decide

theorem test_hyps_SillRecords :
    let c := put (ready 0x8000 (counts 0)) [(F.SILL_CTRL_EN, 5, 0, 1), (F.SILL_CTRL_CEN, 5, 0, 1), (F.SILL_CTRL_CEDGE, 5, 0, 3),
      (F.PORT_STATUS_VIOCODE, 0, 0, 5), (F.PORT_PIN_INEN, 0, 5, 1), (F.SUP_PREADY_MAP, 0, 0, 1)]
    let rec_ : EvRec := { ts := 0, source := 5, kind := 1, flags := 0, payload := 0 }
    let f := put ((lastRing 64 0 15).setSill 5 { fifo := [rec_] }) [(F.SILL_RING_CRING, 5, 0, 1023)]
    let e := put (lastRing 0 64 1) [(F.SILL_RING_LREN, 0, 0, 1), (F.SILL_RING_LRING, 0, 0, 1023)]
    let u := e.ringTake 64 1023
    let d := c.reachTickOf 64
    let own := (put (ready 0x8000 (counts 0)) [(F.SILL_CTRL_EN, 1035, 0,
        1)]).setSill 1035 { lastChange := some 0, level := true, driver := true }
    d.sillRuns 5 = true ∧ d.actBit F.SILL_CTRL_CEN 5 = true ∧ c.time.counting = true ∧
      d.captureSees 5 (tickOf (d.realOf 64)) = true ∧
    (c.sill 5).lastEdge = none ∧ edgeSelected (d.act F.SILL_CTRL_CEDGE 5) true = true ∧ d.actBit F.SILL_CTRL_POSEN 5 = false ∧
    (c.sill 5).fifo.length < 16 ∧ (own.reachTickOf 64).ownEdge 1035 true ((own.reachTickOf 64).realOf 64) = true ∧
    (f.sill 5).fifo = rec_ :: [] ∧ f.ready 4 = true ∧ f.act F.SILL_RING_CRING 5 = 1023 ∧ f.laneNext (laneOf 5) = some 5 ∧
      f.ringEn 1023 = true ∧
    f.writeOpen 1023 = true ∧ e.readOpen 1023 0 = true ∧ e.sound (e.ringAddr 1023 (e.fld F.RING_RPTR_OFF 1023)) 16 = true ∧
    f.fld F.RING_CTRL_PROD 1023 = 64 + (if 5 < 1024 then 5 / 32 else 32) ∧ 0 < f.ringRoom 1023 ∧
    e.takesStream 0 1023 = true ∧ laneOf 0 = 0 ∧ e.ready 4 = true ∧ e.ringEn 1023 = true ∧ 0 < e.ringFill 1023 ∧
    (∀ i, i ∈ laneSills 0 → (e.sill i).waiting = []) ∧ e.fld F.RING_CTRL_CONS 1023 = 64 + 0 ∧
    (u.1.extractLsb' 64 16 : Half) = BitVec.ofNat 16 0 ∧ u.2.takesStream 0 1023 = true ∧
    u.2.refuseAction 0 (itemToEntry (itemEntry u.1) 64) = none ∧
    ((R.setSill 5 { samples := [(7, 8, 0)] }).sill 5).samples = (7, 8, 0) :: [] ∧ (R.sill 5).lostSince = 0 := by decide

theorem test_hyps_PortsAndAttention :
    let lock : LockSeq := { master := 352, stage := 1, mask := 0, start := 0 }
    let sw : PinSwitch := { boundary := 1 }
    let s (w : PinSwitch) := R.setPort 31 { locks := [lock], switches := [(31, some w)] }
    let z := put R [(F.ZONE_STATUS_STATE, edgeZone 31, 0, 1), (F.PORT_PIN_FUNC, 31, 30, 4), (F.PORT_STATUS_VIOCODE, 31, 0, 1),
      (F.PORT_PIN_INEN, 31, 31, 1), (F.PORT_CONV_EN, 31, 0, 1), (F.SUP_PREADY_MAP, 0, 0, 0x80000000)]
    let a := put (counts 64) [(F.ATN_CTRL_EN, 31, 0, 1), (F.ATN_CTRL_SENSE, 31, 0, 2), (F.ATN_CTRL_PORT, 31, 0, 31),
      (F.PORT_STATUS_VIOCODE, 31, 0, 1), (F.PORT_PIN_INEN, 31, 31, 1), (F.SUP_PREADY_MAP, 0, 0, 0x80000000)]
    let b := a.reachTickOf 64
    let d := (put R [(F.ATN_CTRL_EN, 31, 0, 1), (F.ATN_ZONE_HI_MASK, 31, 0, 0x80000000), (F.ATN_ROUTE_SE, 31, 0, 0x8000),
      (F.ATN_ROUTE_SUP, 31, 0, 1)]).setAtn 31 {
        flying := [.zone 63, .engine 15, .seq 32], pending := [.zone 63, .engine 15, .seq 32] }
    (((s sw).port 31).locks.find? (fun l => decide (l.master = 320 + 32))) = some lock ∧
    ((s sw).port 31).switches = [(31, some sw)] ∧ sw.driving = false ∧ sw.writes = [] ∧ sw.sill = false ∧
      (s sw).tickNo ≤ sw.boundary + 1 ∧
    ((s { sw with driving := true }).port 31).switches = [(31, some { sw with driving := true })] ∧ (z.port 31).switches = [] ∧
    z.fld F.ZONE_STATUS_STATE (edgeZone 31) = 1 ∧ bitOf (z.fldI F.PORT_PIN_FUNC 31 30) 2 = true ∧
      z.captureSees (32 * 31 + 31) z.tickNo = true ∧
    z.bit F.PORT_CONV_EN 31 = true ∧ z.bit F.PORT_STATUS_CONVREADY 31 = false ∧ (z.port 31).early = [] ∧
    z.fld F.PORT_STATUS_VIOCODE 31 ≠ 6 ∧ b.actBit F.ATN_CTRL_EN 31 = true ∧ (a.atn 31).due = false ∧ (a.atn 31).again = [] ∧
    b.captureSees (a.atnChannel 31) (tickOf (b.realOf 64)) = true ∧
    a.time.counting = true ∧ (a.atn 31).last = none ∧ (a.atn 31).pending = [] ∧ a.fld F.ATN_CTRL_SENSE 31 = 2 ∧
    (a.atn 31).since ≤ a.tickNo ∧ inFuture 64 a.now = true ∧ .zone 63 ∈ (d.atn 31).flying ∧ (d.atn 31).due = false ∧
    (d.atn 31).again = [] ∧ d.actBit F.ATN_CTRL_EN 31 = true ∧
    (∀ b ∈ (d.atn 31).pending, b ∈ d.atnTargets 31) ∧ .engine 15 ∈ (d.atn 31).flying ∧
    d.fld F.SUP_PWR_STATE 0 = 0 ∧ .seq 32 ∈ (d.atn 31).flying ∧ .seq 32 ∈ (d.atn 31).pending ∧ d.vectorsOn 32 1 31 = [] := by decide

theorem test_hyps_PortWrites :
    let lock (n : Nat) : LockSeq := { master := 352, stage := n, mask := 7, start := 0 }
    let at_ (n : Nat) : State := { (R.setPort 31 { locks := [lock n] }) with tickNo := 512 }
    (∀ off ∈ [4, 8, 12, 0x24, 0x28, 0x2C, 0x34, 0x38], (written .port 31 off 9).writing 32 .port 31 off 9 []) ∧
    ((posted 32 [.portMask 31 0 9]).seq 32).post = .portMask 31 0 9 :: [] ∧ plainPost [] = true ∧ R.owner .port 31 = 32 ∧
      (R.port 31).locks = [] ∧
    (R.port 31).switches = [] ∧ (R.port 31).early = [] ∧ ((at_ 1).port 31).locks = [lock 1] ∧ (lock 1).master = 320 + 32 ∧
      (at_ 1).tickNo ≤ (lock 1).start + 512 ∧
    (written .port 31 0x2C 9 (at_ 1)).writing 32 .port 31 0x2C 9 [] ∧
    (written .port 31 0x28 0x7E570002 (at_ 2)).writing 32 .port 31 0x28 0x7E570002 [] ∧
    (written .atn 31 0 0x80000000).writing 32 .atn 31 0 0x80000000 [] := by unfold State.writing; decide

/-! ### Time base, multiplying loops, trackers -/

theorem test_hyps_TimeLoops :
    let x : State := { R with time := { xtalOk := true, lockSeen := true, ref100 := { qualified := true } } }
    let t : TimeState := { ref100 := { qualified := true }, refXtal := { qualified := true }, active := 1, switchPending := true }
    let y : State := { R with time := t }
    let h : State := { R with time := { xtalOk := true, holdover := true, loop0 := { frozen := true } } }
    let p := put x [(F.PORT_PIN_INEN, 0, 0, 1)]
    let z := put x [(F.TIME_REFSEL_REF0, 0, 0, 1), (F.TIME_REFSEL_REF1, 0, 0, 1)]
    x.time.xtalOk = true ∧ x.time.active = 0 ∧ (x.time.loop 1).locked = false ∧ (x.time.loop 1).shadow = false ∧
    x.time.lockSeen = true ∧ x.time.counting = false ∧ x.recovery = false ∧ (x.time.ref 0).qualified = false ∧
      x.time.holdover = false ∧
    (x.time.loop 0).frozen = false ∧ (h.time.loop 0).frozen = true ∧ h.time.holdover = true ∧ h.time.xtalOk = true ∧
    (x.time.ref 2).qualified = false ∧ p.pinInput (p.fld F.TIME_REFSEL_CH10M 0) = true ∧ (x.time.ref 1).qualified = true ∧
      x.loopRef 0 ≠ 1 ∧
    z.loopRef 0 = 1 ∧ z.loopRef (1 - 0) = 1 ∧ (z.time.ref 1).qualified = true ∧
      (x.time.ref (x.loopRef (1 - 0))).qualified = false ∧ y.time.switchPending = true ∧ y.time.active ≤ 1 ∧
    (y.time.ref (y.loopRef (1 - y.time.active))).qualified = true := by decide

theorem test_hyps_TimeSteps :
    let s : State := { put (counted 64) [(F.TIME_PPSCFG_EN, 0, 0, 1), (F.CHASSIS_SYNC_ARM, 0, 0, 1), (F.CHASSIS_SYNCVAL_LO_LO, 0, 0, 32),
      (F.TIME_STEP_LO_DLO, 0, 0, 32), (F.CHASSIS_STATUS_CLK10OK, 0, 0, 1), (F.SILL_CTRL_EN, 0, 0, 1), (F.SILL_CTRL_CEN, 0, 0, 1),
      (F.PORT_STATUS_VIOCODE, 0, 0, 1), (F.PORT_PIN_INEN, 0, 0, 1), (F.SUP_PREADY_MAP, 0, 0, 1),
        (F.SUP_READY_READY, 0, 0, 0x8000)] with
      hostSide := { trigs := [(0, 1)] } }
    let w (off : Nat) (v : Word) := written .time 0 off v s
    let b : State := { w 0 0x100000 with time := { s.time with loop1 := { shadow := true }, refXtal := { qualified := true } } }
    let own := put s [(F.CONST_STATUS_PHASE, 0, 0, 0x20)]
    let hold : State := { s with time := { s.time with holdover := true, refXtal := { qualified := true } } }
    s.actBit F.TIME_PPSCFG_EN 0 = true ∧ s.constOwn = false ∧ own.constOwn = true ∧ s.time.counting = true ∧
    (ppsError 40000000 (s.act F.TIME_PPSOFF_OFFTICK 0)).natAbs ≤ s.act F.TIME_PPSCFG_STEPLIM 0 * 40000 ∧
    ¬((ppsError 40000001 (s.act F.TIME_PPSOFF_OFFTICK 0)).natAbs ≤ s.act F.TIME_PPSCFG_STEPLIM 0 * 40000) ∧
    s.actBit F.TIME_PPSCFG_PPSSTEP 0 = false ∧ (put s [(F.TIME_PPSCFG_PPSSTEP, 0, 0, 1)]).actBit F.TIME_PPSCFG_PPSSTEP 0 = true ∧
    s.bit F.CHASSIS_SYNC_ARM 0 = true ∧ s.trigDone = true ∧ R.trigDone = false ∧ s.now = 64 ∧
      R.bit F.CHASSIS_SYNC_ARM 0 = false ∧ s.bit F.CHASSIS_STATUS_CLK10OK 0 = true ∧
    R.bit F.CHASSIS_STATUS_CLK10OK 0 = false ∧ (0 : Word).toInt.natAbs ≤ 1000 * R.refTol ∧
      1000 * R.refTol < (0x80000000 : Word).toInt.natAbs ∧
    s.captureSees (s.act F.TIME_PPSCFG_CH 0) (tickOf (s.realOf 64)) = true ∧
    (w 0x18 5).writing 32 .time 0 0x18 5 [] ∧ (w 0 0x80000000).writing 32 .time 0 0 0x80000000 [] ∧
    hold.exitLoop = some 0 ∧ hold.time.holdover = true ∧ (w 0 0x100000).writing 32 .time 0 0 0x100000 [] ∧
      bitOf 0x100000 20 = true ∧ bitOf 0x80000000 31 = true ∧
    s.time.holdover = false ∧ s.stbyReady = false ∧ b.stbyReady = true ∧ b.writing 32 .time 0 0 0x100000 [] := by
  unfold State.writing; decide

theorem test_hyps_TimeSteps_slew :
    let s : State := { R with time := { counting := true, slewRem := 1 } }
    s.time.slewRem ≠ 0 ∧ s.time.counting = true := by decide

theorem test_hyps_MultiplyingLoops :
    let at_ (p : MpllPhase) (bad : Nat := 0) : State := R.setMpll 7 { phase := p, bad := bad, win := 8, tol := 4 }
    let on := put (at_ .detecting 1) [(F.MPLL_CTRL_EN, 7, 0, 1), (F.MPLL_STATUS_LOCKED, 7, 0, 1), (F.MPLL_GUARD_TGUARD, 7, 0, 1),
      (F.MPLL_STATUS_HELD, 7, 0, 1)]
    ((at_ .measuring).mpll 7).phase = .measuring ∧ 12207 ≤ (at_ .measuring).fld F.MPLL_DIV_N 7 * (12207 : Word).toNat ∧
    ¬(12207 ≤ (at_ .measuring).fld F.MPLL_DIV_N 7 * (12206 : Word).toNat) ∧ ((at_ .hopping).mpll 7).phase = .hopping ∧
    ((at_ .hopping).mpll 7).change = none ∧ ((at_ .searching).mpll 7).phase = .searching ∧ (on.mpll 7).phase = .detecting ∧
    windowCloses (on.mpll 7).win 8 4 = true ∧ ((8 : Int) - (4 : Nat)).natAbs ≤ (on.mpll 7).tol ∧
      windowCloses (on.mpll 7).win 8 3 = true ∧
    (on.mpll 7).tol < ((8 : Int) - (3 : Nat)).natAbs ∧ windowCloses (on.mpll 7).win 7 7 = false ∧
    (on.mpll 7).bad = 1 ∧ on.bit F.MPLL_CTRL_EN 7 = true ∧ on.bit F.MPLL_STATUS_LOCKED 7 = true ∧ on.fld F.MPLL_STATUS_BAND 7 < 63 ∧
    on.act F.MPLL_GUARD_TGUARD 7 ≠ 0 ∧ ((on.setMpll 7 { swallowing := true }).mpll 7).swallowing = true ∧
    on.bit F.MPLL_STATUS_HELD 7 = true ∧ (on.mpll 7).byProgram = false ∧ (on.mpll 7).byTracker = false ∧
    (written .mpll 7 0 1).writing 32 .mpll 7 0 1 [] ∧ (written .mpll 7 0 3).writing 32 .mpll 7 0 3 [] ∧ bitsOf 3 16 4 < 6 ∧
    R.bit F.MPLL_CTRL_EN 7 = false ∧ (written .mpll 7 0 0x80000001 on).writing 32 .mpll 7 0 0x80000001 [] := by
  unfold State.writing; decide

/-- Tracker 7 on channels 0 to 2 of port 0. -/
def tracks (x : Tracker) (idxmode : Nat := 0) : State := (put (counts 0) [(F.MT_CTRL_EN, 7, 0, 1),
  (F.MT_CTRL_IDXMODE, 7, 0, idxmode),
  (F.MT_INSEL_BCH, 7, 0, 1), (F.MT_INSEL_ICH, 7, 0, 2), (F.MT_FILT_GLITCH, 7, 0, 1), (F.MT_COAST_LIMIT, 7, 0, 1),
  (F.MT_CTRL_POLICY, 7, 0, 1), (F.PORT_STATUS_VIOCODE, 0, 0, 1), (F.PORT_PIN_INEN, 0, 0, 1), (F.SUP_PREADY_MAP, 0, 0, 1)]).setMt 7 x

theorem test_hyps_TrackerMotion :
    let s := tracks {}
    let h := s.reachTickOf 64
    let e : PendEdge := { t := 0, line := 0, rise := true, span := 32 }
    let i : PendEdge := { t := 0, line := 2, rise := true, span := 32 }
    s.bit F.MT_CTRL_EN 7 = true ∧ h.captureSees (s.lineChannel 7 0) (tickOf (h.realOf 64)) = true ∧ s.time.counting = true ∧
    (((tracks { filt := [e] }).mt 7).filt.filter (fun o => decide (o.line = 0))).getLast? = some e ∧ (s.mt 7).filt = [] ∧
    ((tracks { filt := [e] }).mt 7).filt = [e] ∧ e.rise ≠ false ∧ stampDiff 31 e.t < (e.span : Nat) ∧ s.prior = [] ∧
    ((tracks { filt := [e] }).mt 7).nextEdge = some e ∧
    ((tracks { filt := [e], st := .acq }).mt 7).st = .acq ∧ s.liveSlots 7 = [] ∧ (s.mt 7).watch = [] ∧
      s.bit F.MT_CTRL_RECEN 7 = false ∧
    (s.mt 7).hist = [] ∧ (s.mt 7).lvlA = false ∧ (s.mt 7).breachCoast = false ∧ s.fld F.MT_CTRL_MODE 7 = 0 ∧
    s.bit F.MT_CTRL_INVERT 7 = false ∧ s.bit F.MT_CTRL_BREACHACT 7 = false ∧ ((tracks { filt := [i] } 1).mt 7).filt = [i] ∧
    i.rise ≠ (s.reachStamp 32).actBit F.MT_CTRL_IDXEDGE 7 ∧ (decodeEdge 0 false false false e).2.2 = some 1 ∧
      (decodeEdge 0 false true false e).2.2 = none ∧ (tracks {} 3).fld F.MT_CTRL_IDXMODE 7 = 3 ∧
    (tracks {} 1).fld F.MT_CTRL_IDXMODE 7 = 1 ∧ (tracks {} 2).fld F.MT_CTRL_IDXMODE 7 = 2 ∧
    ((tracks { dropAt := some 32 }).mt 7).dropAt = some 32 ∧ 0 < (s.reachStamp 32).act F.MT_COAST_LIMIT 7 ∧
    ((put s [(F.MT_COAST_LIMIT, 7, 0, 0)]).reachStamp 32).act F.MT_COAST_LIMIT 7 = 0 ∧ (R.reachStamp 32).policy 7 ≠ 1 ∧
    ((tracks { limitAt := some 32, st := .coast }).mt 7).limitAt = some 32 ∧ (s.reachStamp 32).policy 7 = 1 ∧
    ((tracks { stopAt := some 32 }).mt 7).stopAt = some 32 ∧ R.bit F.MT_CTRL_EN 7 = false ∧
    (written .mt 7 0 1).writing 32 .mt 7 0 1 [] ∧ bitOf 1 F.MT_CTRL_EN.lo = true ∧
      (written .mt 7 0 0 s).writing 32 .mt 7 0 0 [] := by
  unfold State.writing; decide

theorem test_hyps_TrackerSlots :
    let c : Slot := { state := 1, ch := 5, tag := 7, pred := some 3200, x := 65536 }
    let k : Slot := { state := 2, ch := 5, tag := 7, time := 3200 }
    let at_ (st : MtState) (c : Slot) : State := owns .sill 5 1 (tracks { st := st, slots := [(255, c)], v := 1 / 100 })
    let r : State := sill5.setSill 5 { waiting := [(2048, aCommit)] }
    let past := put (at_ .overlimit c) [(F.MT_CTRL_POLICY, 7, 0, 1)]
    R.owner .sill 5 ≠ 1 ∧ (at_ .still c).owner .sill 5 = 1 ∧ (at_ .still c).predicts 7 = false ∧
      ((at_ .still c).mt 7).freeSlot = some 0 ∧
    ((posted 1 [.posEntry 7 0 0 0 5 0 7] (at_ .still c)).seq 1).post = .posEntry 7 (0 : Stamp).toInt 0 0 5 0 7 :: [] ∧
    (at_ .still c).liveSlots 7 = [255] ∧ ((at_ .still c).slot 7 255).state = 1 ∧ ((at_ .still c).slot 7 255).ch = 5 ∧
    ((at_ .still c).slot 7 255).tag = 7 ∧
      ((posted 1 [.amendPos 7 5 7 0] (at_ .still c)).seq 1).post = .amendPos 7 5 7 (0 : Stamp).toInt :: [] ∧
    (at_ .still c).actBit F.MT_CTRL_RECEN 7 = false ∧ plainPost [] = true ∧ (at_ .still c).prior = [] ∧
    ¬(((at_ .still c).mt 7).st = .overlimit ∧ ((at_ .still c).mt 7).limited = (at_ .still c).tickNo + 1) ∧
      ((posted 1 [.cancel 5 7 true [7, 8]]).seq 1).post = .cancel (BitVec.ofNat 16 5) 7 true [7, 8] :: [] ∧
    ((at_ .track c).slot 7 255).pred = some 3200 ∧ (at_ .track c).predicts 7 = true ∧
    r.sills.find? (fun d => d.2.waiting.any (fun w => ofSlot 0 9 w.2.held)) = some (5, r.sill 5) ∧
      (r.sill 5).waiting = [(2048, aCommit)] ∧
    r.sillRuns 5 = true ∧ r.sillFill 5 < 16 ∧ (r.sill 5).held = [] ∧ (past.mt 7).st = .overlimit ∧ past.policy 7 = 1 ∧
      960 ≤ stampDiff aCommit.time r.now ∧
    ((at_ .track k).slot 7 255).state = 2 ∧ ((at_ .track k).reachTickOf (3200 - 960)).actBit F.MT_CTRL_XREC 7 = false ∧
      ((at_ .coast c).mt 7).st = .coast := by decide

/-- A tracker whose 256 slots are all taken has none free. -/
theorem test_hyps_TrackerSlots_full :
    ({ slots := (List.range 256).map (fun i => (i, { state := 1 })) } : Tracker).freeSlot = none := by decide +kernel

/-! ### Configuration writes -/

theorem test_hyps_SillWrites :
    let s := put (counts 0) [(F.SILL_CTRL_EN, 1035, 0, 1)]
    (written .sill 1035 0 1).writing 32 .sill 1035 0 1 [] ∧ R.bit F.SILL_CTRL_EN 1035 = false ∧
    (written .sill 1035 0 0 s).writing 32 .sill 1035 0 0 [] ∧ s.bit F.SILL_CTRL_EN 1035 = true ∧ (s.sill 1035).waiting = [] ∧
    (written .sill 1035 0x2C 2).writing 32 .sill 1035 0x2C 2 [] ∧ bitOf 2 1 = true ∧ bitOf 2 0 = false ∧
    (written .sill 1035 0x2C 1).writing 32 .sill 1035 0x2C 1 [] ∧ (s.sill 1035).fifo.length < 16 ∧ (s.sill 1035).lostSince = 0 := by
  unfold State.writing; decide

theorem test_hyps_SequencerWrites :
    let halted : State := R.setSeq 31 { imem := writeBytes [] 0 (leBytes 4 (ursenEncode .halt).1.toNat) }
    let w (off : Nat) (v : Word) (s : State) : State := written .seq 31 off v s
    let p := put R [(F.SEQ_STREAM_EN, 31, 3, 1)]
    (∀ off ∈ [0x24, 0x1C, 0x30 + 4 * 3], ((w off 5 R).seq 32).post = .cfgw (cfgBase .seq 31 + off) 5 :: []) ∧
    (w 0x24 5 R).owner .seq 31 = 32 ∧ (w 0 0x80000000 halted).writing 32 .seq 31 0 0x80000000 [] ∧
    (w 0 0x40000000 halted).writing 32 .seq 31 0 0x40000000 [] ∧ (w 0 0x20000000 (runs 31 {})).writing 32 .seq 31 0 0x20000000 [] ∧
    (w 0 0x10000000 halted).writing 32 .seq 31 0 0x10000000 [] ∧ (halted.seq 31).st = .halted ∧
      ((runs 31 {}).seq 31).st = .running ∧
    (halted.setSeq 31 { halted.seq 31 with st := .running }).fetched 31 = some .halt ∧
    p.fldI F.SEQ_STREAM_EN 31 3 = 1 ∧ p.fldI F.SEQ_STREAM_DIR 31 3 = 0 ∧ bitOf 0x80000005 31 = true ∧
      R.fldI F.SEQ_STREAM_EN 31 3 = 0 ∧
    plainPost [] = true := by
  unfold State.writing; decide

theorem test_hyps_WritesAndArming :
    let a := posted 32 [.cfga 0x200500 1600] (counts 0)
    let armed : State := { counts 0 with arms := [(0x200500, 32)] }
    ((posted 32 [.cfgw 0x00010008 1]).seq 32).post = .cfgw (0x00010008 : Word).toNat 1 :: [] ∧
    cfgDecode ((0x00010008 : Word).toNat % 2 ^ 31) = some (.time, 0, 8) ∧ regExists .time 8 = true ∧
      R.mayWrite 32 .time 0 8 = true ∧
    R.mayWrite 0 .time 0 8 = false ∧ cfgDecode 0x00900000 = none ∧ regExists .time 0x80 = false ∧
    (written .sill 5 4 0x3F).writing 32 .sill 5 4 0x3F [] ∧ (a.seq 32).post = .cfga (0x200500 : Word).toNat 1600 :: [] ∧
    a.owner .sill 5 = 32 ∧ 50 ≤ a.leadTicks 1600 ∧ a.leadTicks 1568 < 50 ∧ a.time.counting = true ∧
      (owns .sill 5 1).owner .sill 5 ≠ 32 ∧
    armed.arms.find? (fun c => decide (c.1 = cfgBase .sill 5)) = some (cfgBase .sill 5, 32) ∧ armed.time.counting = true ∧
    plainPost [] = true ∧ R.streamWaits 32 0x00010008 1 = false := by
  unfold State.writing; decide

theorem test_hyps_RingWrites :
    let off_ := put R [(F.RING_LEN_LEN, 1023, 0, 16), (F.RING_BASE_BASE, 1023, 0, 0x2FFFF0)]
    let on := put off_ [(F.RING_CTRL_EN, 1023, 0, 1), (F.SEQ_STREAM_EN, 0, 0, 1), (F.SEQ_STREAM_RING, 0, 0, 1023)]
    let ctrl (s : State) (v : Nat) := (s.setFld F.RING_CTRL_PROD 1023 (bitsOf v 16 10)).setFld F.RING_CTRL_CONS 1023 (bitsOf v 0 10)
    (written .ring 1023 0 0x81400141 off_).writing 32 .ring 1023 0 0x81400141 [] ∧ off_.ringEn 1023 = false ∧
    (ctrl off_ 0x81400141).ringBad 1023 = none ∧ (ctrl R 0x81400141).ringBad 1023 ≠ none ∧
    (written .ring 1023 0 0 on).writing 32 .ring 1023 0 0 [] ∧ on.ringEn 1023 = true ∧
    ((waitsFor (.ring 0) false on).seq 0).wait = some { what := .ring 0, gd := 1, start := 0 } ∧ on.nothingWaits = true ∧
    off_.tail 1023 = false ∧ bitsOf (0x800000F0 : Word).toNat 4 22 < off_.ringLen 1023 ∧
    (∀ o ∈ [0x10, 0x14], (written .ring 1023 o 0x800000F0).writing 32 .ring 1023 o 0x800000F0 []) ∧
      on.fld F.RING_CTRL_PROD 1023 / 64 ≠ 9 ∧
    (written .ring 1023 0xC 0x100).writing 32 .ring 1023 0xC 0x100 [] ∧ 0 < bitsOf 0x100 4 22 ∧ (0x100 : Word).toNat % 16 = 0 ∧
      (0x101 : Word).toNat % 16 ≠ 0 ∧
    off_.fld F.RING_BASE_BASE 1023 + bitsOf 0x100 4 22 ≤ 0x300000 ∧ 0x300000 < off_.fld F.RING_BASE_BASE 1023 + bitsOf 0x110 4 22 ∧
    (written .caldera 0 4 0xFFFF).writing 32 .caldera 0 4 0xFFFF [] := by
  unfold State.writing; decide

/-! ### Zones -/

/-- Zone 63 runs; the Caldera is ready and ring 1,023 joins agents `p` and `c`, with `n` items. -/
def zoneRuns (p c n : Nat) : State := put (lastRing p c n (ready 0x10 (counts 128))) [(F.ZONE_STATUS_STATE, 63, 0, 1)]

theorem test_hyps_ZoneRuns :
    let s := zoneRuns 511 0 15
    let z : State := R.setZone 63 { resetAt := some 1 }
    ((posted 32 [.srst 2 0x43F000]).seq 32).post = .srst 2 (0x43F000 : Word).toNat :: [] ∧
      (0x43F000 : Word).toNat = cfgBase .zone 63 ∧
    R.fld F.ZONE_STATUS_STATE 63 ≠ 3 ∧ R.surveyed 63 = false ∧ (z.zone 63).resetAt = some 1 ∧ z.bit F.ZONE_CTRL_HOLD 63 = false ∧
    z.bit F.ZONE_SIGSTAT_RELOADING 63 = false ∧ (written .zone 63 0 0x80000000).writing 32 .zone 63 0 0x80000000 [] ∧
    (written .zone 63 0 0 (with_ [(F.ZONE_CTRL_HOLD, 63, 0, 1)])).writing 32 .zone 63 0 0 [] ∧
    (with_ [(F.ZONE_CTRL_HOLD, 63, 0, 1)]).bit F.ZONE_CTRL_HOLD 63 = true ∧ (R.zone 63).resetAt = none ∧
    (written .zone 63 0x1C 1).writing 32 .zone 63 0x1C 1 [] ∧ s.gateway 63 = true ∧ s.vectorsOn 32 3 31 = [] ∧
    bitOf (s.fld F.SEQ_SIGPEND_PEND 32) 31 = false ∧ s.ready 4 = true ∧ s.fld F.RING_CTRL_PROD 1023 = 448 + 63 ∧
      s.ringEn 1023 = true ∧
    0 < s.ringRoom 1023 ∧ (zoneRuns 0 511 1).fld F.RING_CTRL_CONS 1023 = 448 + 63 ∧ 0 < (zoneRuns 0 511 1).ringFill 1023 ∧
    s.reported 0x0403 (10240 + 63) = false ∧ s.fld F.RING_CTRL_CONS 1023 ≠ 448 + 63 ∧ s.time.counting = true ∧
    bitOf ((put s [(F.ZONE_ATNPEND_PEND, 63, 0, 0x80000000)]).fld F.ZONE_ATNPEND_PEND 63) 31 = true ∧ s.levelHolds 31 = false ∧
    plainPost [] = true ∧ s.writeOpen 1023 = true ∧ (zoneRuns 0 511 1).readOpen 1023 0 = true ∧
      (zoneRuns 0 511 1).ringEn 1023 = true ∧
    (zoneRuns 0 511 1).sound ((zoneRuns 0 511 1).ringAddr 1023 ((zoneRuns 0 511 1).fld F.RING_RPTR_OFF 1023)) 16 = true := by
  unfold State.writing; decide

/-- The header of an image of zone 0 (R273). -/
def aHeader : List Byte :=
  let l := leBytes 4 0x53544C31 ++ leBytes 2 1 ++ leBytes 2 1 ++ leBytes 4 0x51024B01 ++ leBytes 4 276 ++ leBytes 8 1 ++
      leBytes 228 0
  l ++ leBytes 4 (crc32c l)

/-- Frame record 2 of that image: tile frame 0 of zone 0, all zero (R274, R275). -/
def aFrame : List Byte :=
  let l := leBytes 4 0 ++ leBytes 4 2 ++ leBytes 512 0
  l ++ leBytes 4 (crc32c l)

/-- The Caldera holds that header and that frame record. -/
def imageAt0 : State := { ready 0x10 with caldera := writeBytes (writeBytes [] 0 aHeader) 1312 aFrame }

set_option maxRecDepth 1000000 in
theorem test_hyps_LoadsAndSwaps_header :
    let s := posted 32 [.zload 0] imageAt0
    s.ready 4 = true ∧ (s.seq 32).post = .zload 0 :: [] ∧ s.loadRefused 0 = none ∧ s.loadRefused 0x3000000 = some 2 ∧
    imgHead (s.calderaImage 0) (s.zloadUse 32 0) 0 = none ∧ (imgHead (s.calderaImage 16) (s.zloadUse 32 16) 16).isSome = true ∧
    (∀ i, i < 64 → s.surveyed i = false) ∧ s.pieceOpen 0 256 = true ∧ plainPost [] = true ∧ s.wearOpen = true := by decide +kernel

set_option maxRecDepth 1000000 in
theorem test_hyps_LoadsAndSwaps_frame :
    let l : Load := { addr := 0, mask := 1, frame := 2, sweep := false, q := 32, seen := [], waiting := false }
    let s : State := { imageAt0 with load := some l }
    s.load = some l ∧ l.waiting = false ∧ 2 ≤ l.frame % 276 ∧ l.frame % 276 < 257 ∧ l.frame < imgFrames l.mask ∧
    imgFrame ((s.touch 352 (l.addr + frameAt l.frame) 528).loadImage l) (0x3000000 - l.addr) l.mask l.frame = none := by
  decide +kernel

/-- A load that has begun. -/
def aLoad : Load := { addr := 0, mask := 1, frame := 0, sweep := false, q := 0, seen := [], waiting := false }

theorem test_hyps_LoadsAndSwaps_swaps :
    let w : SwapSet := { time := 2048, mask := 2 ^ 63, owner := 32 }
    let s (l : List SwapSet) : State := { put (counts 0) [(F.ZONE_STATUS_SHDVALID, 63, 0, 1)] with swaps := l }
    ({ R with load := some aLoad } : State).load = some aLoad ∧ (s [w]).time.counting = true ∧
    (written .sup 0 0x808 1).writing 32 .sup 0 0x808 1 [] ∧
    ((posted 0 [.zswap (2 ^ 63) 2048 false]).seq 0).post = .zswap (2 ^ 63 : BitVec 64).toNat 2048 false :: [] ∧
    (maskZones (2 ^ 63)).find? (fun i => !R.owns 0 .zone i) = some 63 ∧
      (maskZones (2 ^ 63)).all (fun i => R.owns 32 .zone i) = true ∧
    plainPost [] = true ∧ (s []).swapRefused (2 ^ 63) 2048 true = none ∧ (s []).swapRefused (2 ^ 63) 2047 true = some (63, 3) ∧
    R.swapRefused (2 ^ 63) 2048 true = some (63, 1) ∧ (s [w]).swaps.find? (fun w => w.has 63) = some w ∧
    (s [w]).bit F.ZONE_STATUS_SHDVALID 63 = true ∧ (s [w]).bit F.ZONE_CTRL_HOLD 63 = false ∧ ((s [w]).zone 63).resetAt = none ∧
    (s [w]).bit F.ZONE_SIGSTAT_RELOADING 63 = false ∧ (s [w]).fld F.ZONE_STATUS_STATE 63 ≠ 3 ∧
    R.bit F.ZONE_STATUS_SHDVALID 63 = false ∧ (written .zone 63 0x30 1 (s [w])).writing 32 .zone 63 0x30 1 [] ∧
    64 ≤ (s [w]).ticksTo w.time := by
  unfold State.writing; decide +kernel

theorem crc64_zeros (l : List Byte) (h : ∀ b ∈ l, b = 0) : l.foldl crc64Byte 0 = 0 := by
  induction l with
  | nil => rfl
  | cons b t ih =>
    have hb : b = 0 := h b (List.mem_cons_self ..)
    subst hb
    exact ih (fun c hc => h c (List.mem_cons_of_mem _ hc))

/-- The signature of a mask plane of zeros is 0, as a CRC with initial value 0 and no final XOR gives (R309). -/
theorem test_signature_of_zeros (p : Plane) (h : p.data = []) : p.signature = 0 := by
  have hz : (List.range 256).flatMap (fun t => (List.range 128).map (fun i => storeGet (0 : Byte) p.data (512 * t + i))) =
      (List.range 256).flatMap (fun _ => (List.range 128).map (fun _ => (0 : Byte))) := by rw [h]; rfl
  unfold Plane.signature crc64
  rw [hz, crc64_zeros _ (by intro b hb; simp only [List.mem_flatMap, List.mem_map] at hb; obtain ⟨_, _, _, _, rfl⟩ := hb; rfl)]
  rfl

/-- Plane pairs of zone 63, swept: the active one agrees with its golden signature where `x` is 0. -/
def sweptZone (x : Byte) (shadow : Bool) : State :=
  let p : Plane := { ctrl := if x = 0 then [] else [(8, x)] }
  (with_ [(F.ZONE_STATUS_STATE, 63, 0, 1), (F.ZONE_SWCTL_SWEEP, 63, 0, 1), (F.ZONE_STATUS_SHDVALID, 63, 0, 1),
    (F.ZONE_RELOAD_VALID, 63, 0, 1), (F.ZONE_RELOAD_BLOCK, 63, 0, 176), (F.ZONE_CTRL_SIGPOL, 63, 0, 1)]).setZone 63
      (if shadow then { b := p } else { a := p })

theorem test_hyps_ZoneImagesAndSurveys_signatures :
    (sweptZone 0 false).sweeps 63 false = true ∧
      ((sweptZone 0 false).plane 63 false).signature = ((sweptZone 0 false).plane 63 false).golden ∧
    (sweptZone 1 true).sweeps 63 true = true ∧
      ((sweptZone 1 true).plane 63 true).signature ≠ ((sweptZone 1 true).plane 63 true).golden ∧
    (sweptZone 1 false).sweeps 63 false = true ∧
      ((sweptZone 1 false).plane 63 false).signature ≠ ((sweptZone 1 false).plane 63 false).golden ∧
    (sweptZone 1 false).fld F.ZONE_CTRL_SIGPOL 63 = 1 ∧ (sweptZone 1 false).bit F.ZONE_RELOAD_VALID 63 = true ∧
    ((sweptZone 1 false).setFld F.ZONE_CTRL_SIGPOL 63 0).fld F.ZONE_CTRL_SIGPOL 63 = 0 ∧ (sweptZone 1 false).surveyed 63 = false ∧
    ((sweptZone 1 false).setFld F.ZONE_CTRL_SIGPOL 63 2).fld F.ZONE_CTRL_SIGPOL 63 = 2 := by
  rw [test_signature_of_zeros _ (by decide), test_signature_of_zeros _ (by decide), test_signature_of_zeros _ (by decide)]
  decide

theorem test_hyps_ZoneImagesAndSurveys :
    let d : State := { ready 0x401 with loadDue := true, rebuilds := [63], audit := some 175 }
    let s := put (ready 1) [(F.SUP_SURVCTL_EN, 0, 0, 1), (F.ZONE_CTRL_BORROW, 63, 0, 1)]
    let b (phase : Nat) (causes : List YieldCause) : State :=
      { put s [(F.SUP_SURVSTAT_PHASE, 0, 0, phase), (F.SUP_SURVSTAT_ZONE, 0, 0, 63)] with survey := { causes := causes } }
    let e : State := { b 3 [] with survey := { ended := some (5, some 7) } }
    let r := put (sweptZone 0 false) [(F.ZONE_SIGSTAT_RELOADING, 63, 0, 1)]
    d.loadDue = true ∧ d.ready 0 = true ∧ d.selector = none ∧ 63 ∈ d.rebuilds ∧ d.recovery = false ∧ d.audit = some 175 ∧
      d.ready 10 = true ∧
    (written .zone 63 0x30 2 (sweptZone 0 false)).writing 32 .zone 63 0x30 2 [] ∧ bitOf 2 0 = false ∧ bitOf 2 1 = true ∧
    (sweptZone 0 false).bit F.ZONE_RELOAD_VALID 63 = true ∧ (sweptZone 0 false).fld F.ZONE_STATUS_STATE 63 ≠ 3 ∧
    R.bit F.ZONE_RELOAD_VALID 63 = false ∧ r.bit F.ZONE_SIGSTAT_RELOADING 63 = true ∧ r.reloadFails 63 = some 0 ∧
    s.bit F.SUP_SURVCTL_EN 0 = true ∧ s.fld F.SUP_SURVSTAT_PHASE 0 = 0 ∧ s.nextSurvey 63 = true ∧
    (b 1 []).fld F.SUP_SURVSTAT_ZONE 0 = 63 ∧ (b 1 []).fld F.SUP_SURVSTAT_PHASE 0 = 1 ∧ (b 1 []).survey.causes = [] ∧
      (b 1 []).borrowable 63 = true ∧
    (b 2 []).survey.ended = none ∧ e.survey.ended = some (5, some 7) ∧ e.fld F.SUP_SURVSTAT_ZONE 0 = 63 ∧ e.survey.causes = [] ∧
    (b 2 []).fld F.SUP_SURVSTAT_PHASE 0 = 2 ∧ e.survey.home < 3 ∧ e.bit F.ZONE_SWCTL_SURVRAM 63 = false ∧
    e.bit F.ZONE_CTRL_HOLD 63 = false ∧ (e.zone 63).resetAt = none ∧ e.bit F.ZONE_SIGSTAT_RELOADING 63 = false ∧
    (b 1 [.borrow]).survey.causes = [.borrow] ∧ d.wearOpen = true ∧ s.wearOpen = true ∧ d.arraySound = true ∧ r.arraySound = true ∧
    r.surveyed 63 = false ∧ (put (sweptZone 0 false) [(F.SUP_SURVSTAT_PHASE, 0, 0, 1),
      (F.SUP_SURVSTAT_ZONE, 0, 0, 63)]).surveyed 63 = true := by
  unfold State.writing; decide +kernel

/-! ### Links, the constellation -/

/-- Link 7 in a state. -/
def link7 (st : Nat) : State := with_ [(F.LINK_STATUS_STATE, 7, 0, st), (F.LINK_CTRL_EN, 7, 0, 1)]

/-- Link 7 is up; the frame 255 that it holds has been asked for eight times in a row. -/
def nakedLine : State := (link7 2).setLink 7 { replay := [(255, 1, [0])], naked := some (255, 8) }

theorem test_hyps_LinksAndRemoteItems_frames :
    (nakedLine.link 7).naked = some ((255 : Byte).toNat, 8) ∧ nakedLine.linkUp 7 = true ∧ (nakedLine.link 7).coming = .good ∧
    (nakedLine.link 7).replay.dropWhile (fun f => decide (f.1 ≠ (255 : Byte).toNat)) ≠ [] ∧ (badLine .gap).linkUp 7 = true ∧
    ((badLine .gap).link 7).coming = .gap ∧ ((badLine .badCrc).link 7).coming = .badCrc ∧
      ((badLine .poisoned).link 7).coming = .poisoned ∧
    7 ∉ (badLine .gap).onward 7 0 511 0 ∧ (link7 2).linkUp 7 = true ∧ ((link7 2).link 7).coming = .good := by decide

theorem test_hyps_LinksAndRemoteItems :
    let p := inPair (counts 0)
    let k : State := (link7 2).setLink 7 { replay := [(254, 1, []), (255, 1, [0])] }
    let e : LaunchItem := { anEntry with time := 960 }
    let o := inPair (put sill5 [(F.CONST_XPORT_MASK, 0, 0, 1), (F.CONST_XSIG_MASK, 0, 0, 0x80000000),
        (F.ZONE_SWCTL_XSWAP, 63, 0, 1),
      (F.ZONE_STATUS_SHDVALID, 63, 0, 1), (F.ZONE_STATUS_SHDVALID, 62, 0, 1)])
    (link7 1).fld F.LINK_STATUS_STATE 7 = 1 ∧ R.vserLost = false ∧ R.vserhLost = false ∧ R.bit F.CONST_CTRL_RECEN 0 = false ∧
    (link7 3).fld F.LINK_STATUS_STATE 7 = 3 ∧ (link7 3).bit F.LINK_CTRL_EN 7 = true ∧ (link7 2).linkUp 7 = true ∧
    (link7 2).fld F.LINK_STATUS_ROLE 7 ≠ 2 ∧ (link7 2).const.parent ≠ some 7 ∧
    ({ link7 2 with const := { parent := some 7 } } : State).const.parent = some 7 ∧
    (written .link 7 0 0x80000000).writing 32 .link 7 0 0x80000000 [] ∧ R.bit F.LINK_CTRL_EN 7 = false ∧
    (written .link 7 0 0 (link7 0)).writing 32 .link 7 0 0 [] ∧ (link7 0).linkUp 7 = false ∧
      bitsOf 0 24 2 = (link7 0).fld F.LINK_CTRL_RATE 7 ∧
    (written .link 7 0 1).writing 32 .link 7 0 1 [] ∧
    (k.link 7).replay.dropWhile (fun f => decide (f.1 ≠ (255 : Byte).toNat)) ≠ [] ∧ k.reported 0x0A03 (14336 + 7) = false ∧
    (k.link 7).coming = .good ∧ k.linkUp 7 = true ∧ (k.link 7).naked = none ∧ p.linkUp 2 = true ∧ p.linkTo 4 = some 2 ∧
      (p.roleLinks 1 ++ p.roleLinks 2).filter (fun o => decide (o ≠ 0)) = [2] ∧
    R.reported 0x0A0E (14336 + 7) = false ∧ R.inPhase 5 = false ∧ o.inPhase 5 = true ∧ sillOf e.target = some 5 ∧
      o.remoteOpen 5 = true ∧
    p.remoteOpen 5 = false ∧ o.sillRuns 5 = true ∧ o.sillFill 5 < 16 ∧ (o.sill 5).held = [] ∧ 960 ≤ stampDiff e.time o.now ∧
    o.refuseAction 5 { time := e.time, action := 0, width := 0, tag := 7, src := 263, dev := 4, remote := true } = none ∧
    bitOf (o.fld F.CONST_XSIG_MASK 0) 31 = true ∧ bitOf (o.fld F.CONST_XSIG_MASK 0) 30 = false ∧ o.vectorsOn 31 3 31 = [] ∧
    bitOf (o.fld F.SEQ_SIGPEND_PEND 31) 31 = false ∧ (∀ k, k < 64 → bitOf (2 ^ 63) k = true → o.bit F.ZONE_SWCTL_XSWAP k = true) ∧
    o.swapRefused (2 ^ 63) 2048 (o.inPhase 5) = none ∧ o.swapRefused (2 ^ 62) 2048 (o.inPhase 5) = none ∧
    o.bit F.ZONE_SWCTL_XSWAP 62 = false := by
  unfold State.writing; decide

/-- Device 4: a child of device 3 by link 7, in phases `ph`. -/
def child (ph : Nat) (x : LinkSide := {}) (c : ConstSide := {}) : State :=
  put ({ counts 0 with const := { c with parent := some 7 }, links := [(7, x)] }) [(F.CONST_STATUS_PHASE, 0, 0, ph),
    (F.CONST_CTRL_EN, 0, 0, 1),
    (F.LINK_STATUS_STATE, 7, 0, 2), (F.LINK_STATUS_ROLE, 7, 0, 1), (F.LINK_CTRL_EN, 7, 0, 1), (F.CONST_STATUS_AHOLD, 0, 0, 1),
    (F.CONST_BAR_EN, 0, 15, 1), (F.FLASH_UID_LO_LO, 0, 0, 5), (F.LINK_STATUS_STATE, 6, 0, 2), (F.LINK_STATUS_ROLE, 6, 0, 2)]

theorem test_hyps_TreeForms :
    let a : Claim := ⟨1, 0, false, 0, 255⟩
    let x : LinkSide := { ident := some ⟨9, 0, 0, 3, 0⟩, claim := some ⟨1, 0, true, 1, 3⟩, rx := some ⟨254, 0, 7, 0, true⟩, sent := [(7, 0)] }
    let y : LinkSide := { ident := some ⟨9, 0, 0, 3, 0⟩, claim := some ⟨1, 0, true, 1, 6⟩ }
    let o : State := ((child 0x1F).setLink 6 { y with ident := some ⟨9, 0, 0, 6, 0⟩ }).mapConst (fun c => { c with head := ⟨511, 1⟩ })
    let s := child 0x0F x { claim := some a, okSince := some 0, belowAt := some 0, windowAt := some 0 }
    let six := child 0x7F {} { belowAt := some 0 }
    let root := { child 0x1F {} with const := {} }
    s.linkUp 7 = true ∧ s.const.claim = some a ∧ (child 0x07).forming = true ∧ s.forming = true ∧ s.inPhase 2 = true ∧
    s.bit F.CONST_CTRL_RECEN 0 = false ∧ 6 ∈ s.roleLinks 2 ∧ 6 ∉ s.const.reported ∧
    (∀ j, j < 8 → s.bit F.LINK_CTRL_EN j = true → s.fld F.LINK_STATUS_STATE j ≠ 1) ∧ s.const.parent.isSome = true ∧
      o.childOn 6 = true ∧
    s.childOn 6 = false ∧ (child 0).linkUp 6 = true ∧ x.ident.map (fun p => p.uid) = some (9 : BitVec 64).toNat ∧
      o.const.head.src ≠ o.devNum ∧ s.inPhase 3 = true ∧ (R.link 7).rx = none ∧ R.const.parent ≠ some 7 ∧
    (254 + 1) % 256 = (255 : Byte).toNat ∧ x.sent.find? (fun p => decide (p.1 = (7 : Byte).toNat)) = some (7, 0) ∧
    s.const.parent = some 7 ∧ (child 0x3F).inPhase 5 = true ∧ s.bit F.CONST_STATUS_ROOT 0 = false ∧ s.const.windowAt = some 0 ∧
    s.inPhase 5 = false ∧ s.const.okSince = some 0 ∧ s.bit F.CONST_STATUS_AHOLD 0 = true ∧ (s.link 7).peerHold = false ∧
    (child 0x1F).inPhase 4 = true ∧ (child 0x1F).inPhase 6 = false ∧ six.const.belowAt = some 0 ∧ six.inPhase 6 = true ∧
    root.const.parent = none ∧ root.newParents = [] ∧ root.forming = true ∧ root.inPhase 4 = true ∧ (child 0x1F).inTree = true ∧
    (child 0x1F).fld F.LINK_STATUS_ROLE 6 = 2 ∧ (0 : Byte).toNat = (child 0x1F).barGen 15 ∧
    (1 : Byte).toNat ≠ (child 0x1F).barGen 15 ∧ (6, (1 : Byte).toNat) ∉ ((child 0x1F).const.bar 15).last := by decide

theorem test_hyps_TreeForms_writes :
    (written .const 0 0x178 0x80000000).writing 32 .const 0 (0x100 + 8 * 15) 0x80000000 [] ∧ R.inTree = false ∧
    bitOf ((with_ [(F.CONST_BAR_EN, 0, 15, 1)]).fieldWord .const 0 (0x100 + 8 * 15) false) 31 = true ∧
    (written .const 0 0 0x80000000).writing 32 .const 0 0 0x80000000 [] ∧ R.bit F.CONST_CTRL_EN 0 = false ∧
    bitOf (R.fieldWord .const 0 0 false) 31 = false ∧ bitOf ((child 0x0F).fieldWord .const 0 0 false) 31 = true ∧
    (written .const 0 0x28 511).writing 32 .const 0 0x28 511 [] ∧
    (written .const 0 0x238 0x80000000).writing 32 .const 0 (0x200 + 8 * 7) 0x80000000 [] ∧
    bitOf (R.fieldWord .const 0 (0x200 + 8 * 7) false) 31 = false := by
  unfold State.writing; decide

theorem test_hyps_TreeForms_time :
    let s := child 0x3F { rx := some ⟨254, 0, 7, 0, true⟩, sent := [(7, 0)] }
    (stampDiff 960 0 + stampDiff 0 0 - signedOf 16 (s.fld F.LINK_ASYM_STEPS 7)) / 2 = 480 ∧
    (stampDiff 960 0 - stampDiff 0 960) / 2 = 960 ∧ (stampDiff 480 0 - stampDiff 0 480) / 2 ≤ 480 ∧
    -s.alignBound ≤ 0 ∧ 0 ≤ s.alignBound ∧ (0 : Int).natAbs ≤ 40 * s.fld F.CONST_ALIGN_STEPLIM 0 := by decide

theorem test_hyps_TreeForms_newParent :
    let t : List TreeDev := [{ uid := 9, num := 3, parent := 3 }, { uid := 5, num := 0, parent := 3 }]
    let s := child 0x1F { ident := some ⟨9, 0, 0, 3, 0⟩ } { tree := t }
    (s.mapConst (fun c => { c with parent := none })).newParents = [(0, 3, 7)] := by decide

/-! ### Signal engines -/

/-- Engine 15 runs. -/
def runsSe (x : Engine) (s : State := R) : State := put (s.setEngine 15 x) [(F.SE_STATUS_STATE, 15, 0, 1)]

/-- The present register set with PAIR. -/
def pairSet (p : Bool) : Engine := { main := { sr := { pair := p } }, pc := 4095 }

theorem test_hyps_EngineProductsAndArithmetic :
    (runsSe (pairSet false)).seCanRun 15 = true ∧ codeOk 63 = true ∧ codeOk 16 = true ∧ groupOk 63 = true ∧ groupOk 7 = true ∧
    ((runsSe (pairSet false)).engine 15).cur.sr.pair = false ∧ ((runsSe (pairSet true)).engine 15).cur.sr.pair = true ∧
    (pairSet true).accOk 2 = true ∧ (pairSet false).accOk 3 = true ∧ (2 ^ 31 : Int) ≤ 2 ^ 31 ∧
    (-2 ^ 31 - 1 : Int) < -(2 ^ (if (pairSet false).cur.sr.pair then 47 else 31)) := by decide

theorem test_hyps_EngineControl :
    let c := put (runsSe {} (lastRing 0 399 16)) [(F.SE_SCFG_EN, 15, 3, 1), (F.SE_SCFG_RING, 15, 3, 1023),
        (F.SE_SAVAIL_AVAIL, 15, 3, 1),
      (F.SE_SCFG_EN, 15, 0, 1), (F.SE_SCFG_DIR, 15, 0, 1), (F.SE_SAVAIL_AVAIL, 15, 0, 1)]
    c.seCanRun 15 = true ∧ condHolds (c.engine 15).cur.sr.flags 0 = true ∧ condHolds (c.engine 15).cur.sr.flags 1 = false ∧
    (c.engine 15).calls.length < 8 ∧ (runsSe { calls := List.replicate 8 5 }).seCanRun 15 = true ∧
    8 ≤ ((runsSe { calls := List.replicate 8 5 }).engine 15).calls.length ∧ ((runsSe { calls := [5] }).engine 15).calls = 5 :: [] ∧
    (c.engine 15).calls = [] ∧ ((runsSe { level := 1 }).engine 15).level = 1 ∧ ((runsSe { level := 2 }).engine 15).level = 2 ∧
    (c.engine 15).level = 0 ∧ codeOk 0 = true ∧ ((runsSe { main := { x := [(0, 2)] } }).engine 15).reg 0 ≠ 0 ∧
      (c.engine 15).reg 0 = 0 ∧
    c.sePortIs 15 3 0 = true ∧ 1 ≤ c.seAvail 15 3 ∧ c.nothingWaits = true ∧ c.tail (c.seRing 15 3) = false ∧
    c.fld F.RING_RPTR_OFF (c.seRing 15 3) + 1 < c.ringLen (c.seRing 15 3) ∧ c.fld F.RING_WM_ITEMS (c.seRing 15 3) = 0 ∧
    c.sePortIs 15 1 0 = false ∧ c.sePortIs 15 0 1 = true ∧ 1 ≤ c.seAvail 15 0 ∧ c.seAvail 15 0 < 2 ∧ c.vectorsOn 32 3 31 = [] ∧
    bitOf (c.fld F.SEQ_SIGPEND_PEND 32) 31 = false ∧ seDecode (2 ^ 64 - 1) = none := by decide

theorem test_hyps_EngineMoves :
    let x : Engine := { main := { p := [(0, 0xFFFE), (1, 0xFFFC), (2, 0xFFF8), (3, 0xFFFF)] } }
    (runsSe x).seCanRun 15 = true ∧ x.ptr 0 % 2 = 0 ∧ x.ptr 1 % 4 = 0 ∧ x.ptr 2 % 8 = 0 ∧ x.ptr 0 % 4 ≠ 0 ∧ codeOk 63 = true ∧
    x.accOk (11 - 8) = true ∧ groupOk 7 = true ∧ storeGet 0 x.l 7 = 0 := by decide

theorem test_hyps_EngineEvents :
    let l : SeLoop := { first := 0, last := 0, count := 1, depth := 0, level := 0, rot := 0 }
    let s := put R [(F.SE_STATUS_STATE, 15, 0, 2), (F.SE_IRQEN_EN, 15, 0, 0x60), (F.SE_IRQLVL_L2, 15, 0, 0x20),
        (F.SE_IRQPEND_PEND, 15, 0, 0x60)]
    let f := with_ [(F.SE_STATUS_STATE, 15, 0, 3), (F.SE_CTRL_FAULTACT, 15, 0, 1)]
    let c := put (lastRing 0 399 1) [(F.SE_SCFG_EN, 15, 3, 1), (F.SE_SCFG_RING, 15, 3, 1023), (F.SE_SWIN_LLEN, 15, 3, 1)]
    let p := put ((lastRing 399 0 15).setEngine 15 { ports := [(3, { items := [7] })] }) [(F.SE_SCFG_EN, 15, 3, 1),
        (F.SE_SCFG_DIR, 15, 3, 1),
      (F.SE_SCFG_RING, 15, 3, 1023)]
    ((R.setEngine 15 { iter := true, loops := [l] }).engine 15).iter = true ∧
    ((R.setEngine 15 { iter := true, loops := [l] }).engine 15).loops = l :: [] ∧ s.seState 15 = 2 ∧ (s.engine 15).iter = false ∧
    (s.engine 15).level = 0 ∧ s.asleep = false ∧ s.irqSource 15 false = some 6 ∧ (s.engine 15).flight = [] ∧
      s.irqSource 15 true = some 5 ∧
    ((posted 32 [.srst 1 0x34F000]).seq 32).post = .srst 1 (0x34F000 : Word).toNat :: [] ∧
      (0x34F000 : Word).toNat = cfgBase .se 15 ∧
    f.seState 15 = 3 ∧ f.bit F.SE_CTRL_FAULTACT 15 = true ∧ c.sePortIs 15 3 0 = true ∧ c.ready 4 = true ∧
      c.seAvail 15 3 < c.seLen 15 3 ∧
    c.ringEn 1023 = true ∧ c.fld F.RING_CTRL_CONS 1023 = 384 + 15 ∧ c.seAvail 15 3 < c.ringFill 1023 ∧
    c.group (groupOf (c.ringAddr 1023 (c.aheadOff 1023 0))) = 0 ∧ c.fldI F.SE_SWM_LWM 15 3 = 0 ∧ p.sePortIs 15 3 1 = true ∧
    (storeGet {} (p.engine 15).ports 3).items = 7 :: [] ∧ p.writeOpen 1023 = true ∧ p.ready 4 = true ∧
      p.fldI F.SE_SWM_LWM 15 3 = 0 ∧ p.ringEn 1023 = true ∧ p.fld F.RING_CTRL_PROD 1023 = 384 + 15 ∧
    0 < p.ringRoom 1023 ∧ p.seRing 15 3 < 1024 := by decide

theorem test_hyps_EngineEvents_writes :
    let n := R.setEngine 15 { imem := [(7, 4)] }
    let w (off : Nat) (v : Word) (s : State) : State := written .se 15 off v s
    let r := put (lastRing 0 399 0) [(F.SE_SWIN_LLEN, 15, 3, 1)]
    (w 0x70 0x800003FF r).writing 32 .se 15 (0x40 + 16 * 3) 0x800003FF [] ∧ r.seState 15 = 0 ∧ r.fldI F.SE_SCFG_EN 15 3 = 0 ∧
    bitOf 0x800003FF 31 = true ∧ r.fld F.RING_CTRL_CONS (0x800003FF % 1024) = 384 + 15 ∧
    16 * r.fldI F.SE_SWIN_LBASE 15 3 + 16 * r.seLen 15 3 ≤ 65536 ∧ R.fld F.RING_CTRL_CONS (0x800003FF % 1024) ≠ 384 + 15 ∧
    (w 0x2C 1 R).writing 32 .se 15 0x2C 1 [] ∧ (w 0x34 1 R).writing 32 .se 15 0x34 1 [] ∧
    (w 0 0x80000000 R).writing 32 .se 15 0 0x80000000 [] ∧ (w 0 0x40000000 R).writing 32 .se 15 0 0x40000000 [] ∧
    (w 0 0x20000000 (runsSe {})).writing 32 .se 15 0 0x20000000 [] ∧ (w 0 0x10000000 n).writing 32 .se 15 0 0x10000000 [] ∧
    (n.engine 15).pc < 4096 ∧ (n.engine 15).loops = [] ∧
    seDecode (leNat (readBytes (n.engine 15).imem (8 * (n.engine 15).pc) 8)) = some ⟨.nop, .nop, .nop, .nop⟩ := by
  unfold State.writing; decide

/-! ### Flash -/

/-- A descriptor's bytes: operation, flags, FADDR, BUF, LEN, ARG. -/
def desc (op flags faddr buf len arg : Nat) : BitVec 256 :=
  BitVec.ofNat 256 (op + 2 ^ 8 * flags + 2 ^ 32 * faddr + 2 ^ 64 * buf + 2 ^ 128 * len + 2 ^ 160 * arg)

/-- The queue in host memory with an open session of privileges `priv`, and what the OTP row holds. -/
def flashQ (priv : Nat) (otp : Store Byte := []) (f : Flash := {}) : State :=
  put { R with flash := { f with otp := otp } } [(F.FLASH_QCFG_HOSTQ, 0, 0, 1), (F.FLASH_QHEAD_HEAD, 0, 0, 1),
    (F.SUP_READY_READY, 0, 0, 4),
    (F.HOST_SESS_OPEN, 0, 0, 1), (F.HOST_SESS_TRANSPORT, 0, 0, 1), (F.HOST_SESS_PRIV, 0, 0, priv)]

def aDesc (d : BitVec 256) : FlashDesc := descOf 0 (leBytes 32 d.toNat)

theorem test_hyps_FlashDescriptors :
    let s := flashQ 63
    let ok (d : BitVec 256) : Prop := s.descRefused (aDesc d) true (s.sessPriv 1 0) = none
    s.hostQ = true ∧ s.flash.queue = [] ∧ s.flash.jobs = [] ∧ s.bufOpen (aDesc (desc 1 4 0x1FF0000 16 65536 0)) = true ∧
      s.flash.reach ≠ s.fld F.FLASH_QHEAD_HEAD 0 ∧ s.ready 2 = true ∧ s.warm = none ∧
    (∀ k, k < 4 → (s.bank k).op = 0 ∧ (s.bank k).held = none) ∧ (aDesc (desc 9 0 0 0 0 0)).bad true = some 0 ∧
    (flashQ 1).descRefused (aDesc (desc 8 0 0 0 0 2)) true ((flashQ 1).sessPriv 1 0) = some (6, 0x104) ∧
    s.descRefused (aDesc (desc 3 0 0x200000 0 0 0)) true (s.sessPriv 1 0) = some (5, 16) ∧
    ok (desc 1 4 0x1FF0000 16 65536 0) ∧ (aDesc (desc 1 4 0x1FF0000 16 65536 0)).hbuf = true ∧
    (∀ k, k < 256 → s.undef k = false) ∧ ok (desc 1 4 0x80000000 16 2048 0) ∧
      bitOf (aDesc (desc 1 4 0x80000000 16 2048 0)).faddr 31 = true ∧
    s.otpUsed 0x400 = false ∧ s.otpUsed 0x54 = false ∧ s.plevel = 0 ∧
      (put s [(F.SUP_READY_READY, 0, 0, 0x14)]).ready 4 = true ∧ (put s [(F.SUP_READY_READY, 0, 0, 0x14)]).ready 2 = true ∧
    ok (desc 1 0 0x80000000 0x2FFFFF0 16 0) ∧ (aDesc (desc 1 0 0x80000000 0x2FFFFF0 16 0)).bufOk true = true ∧
    ok (desc 2 4 0x1FFFE00 16 512 0) ∧ ok (desc 2 0 0x1FFFE00 16 512 0) ∧ ok (desc 3 0 0x1FE0000 0 0 0) ∧ ok (desc 4 0 0 0 0 3) ∧
    ok (desc 5 0 0 0 0 3) ∧ ok (desc 6 0 0x80000400 0 0 1) ∧ otpUserWord (aDesc (desc 6 0 0x80000400 0 0 1)).otpOff = true ∧
    ok (desc 6 0 0x80000054 0 0 1) ∧ otpKeyWord (aDesc (desc 6 0 0x80000054 0 0 1)).otpOff = true ∧ s.otpWord 0x400 = 0 ∧
    ok (desc 6 0 0x80000000 0 0 1) ∧ otpKeyWord 0 = false ∧ otpUserWord 0 = false ∧ ok (desc 7 0 0 0 0 0) ∧ ok (desc 7 0 0 0 0 1) ∧
    s.fld F.FLASH_STATUS_ACTBOOT 0 = 0 % 2 ∧ s.fld F.FLASH_STATUS_ACTBOOT 0 ≠ 1 % 2 ∧ ok (desc 8 0 0 0 0 2) ∧
      s.nextFuse 0xC0 = some 0 := by
  decide +kernel

theorem test_hyps_FlashDescriptors_protection :
    let blown (a n : Nat) : Store Byte := writeBytes [] a (List.replicate (4 * n) 0xFF)
    (flashQ 63 (blown 0xC0 8 ++ blown 0xE0 7)).plevel = 1 ∧ (flashQ 63 (blown 0xC0 8 ++ blown 0xE0 7)).nextFuse 0xE0 = some 7 ∧
    (flashQ 63 (blown 0xC0 8 ++ blown 0xE0 8)).plevel = 0 ∧ (flashQ 63 (blown 0xC0 8 ++ blown 0xE0 8)).nextFuse 0xC0 = none ∧
    (flashQ 63 (blown 0x100 1)).plevel = 2 ∧
    (flashQ 63 [] { banks := [(3, { held := some { block := 0, resumes := 98, idx := 0 } })] }).bank 3 =
      { held := some { block := 0, resumes := 98, idx := 0 } } := by decide +kernel

/-- A selector record that names no image, boot block 0 active. -/
def aSelector : Selector where
  seq := 2
  actboot := 0
  flags := 0
  primary := 0xFFFF
  alternate := 0xFFFF
  pdigest := List.replicate 32 255
  adigest := List.replicate 32 255
  jepoch := 0
  wear := List.replicate 384 255
  undefMap := 2 ^ 256 - 1

/-- A boot block's header of firmware without a byte, and its digest. -/
def aFirmware : List Byte :=
  let l := leBytes 4 0x53555046 ++ leBytes 4 1 ++ leBytes 8 0 ++ leBytes 4 512 ++ leBytes 4 (crc32c []) ++ sha256 [] ++
      List.replicate 452 255
  l ++ leBytes 4 (crc32c l)

/-- What a table lists of bytes from `a` on, whose unlisted bytes read `d`. -/
def listed (d : Byte) : Nat → List Byte → Store Byte
  | _, [] => []
  | a, b :: t => if b = d then listed d (a + 1) t else (a, b) :: listed d (a + 1) t

theorem listed_keys (d : Byte) (l : List Byte) : ∀ a, ∀ c ∈ listed d a l, a ≤ c.1 ∧ c.1 < a + l.length := by
  induction l with
  | nil => intro a c h; cases h
  | cons b t ih =>
    intro a c h
    have e : (b :: t).length = t.length + 1 := rfl
    simp only [listed] at h
    split at h
    · have := ih (a + 1) c h; omega
    · rcases List.mem_cons.1 h with rfl | h
      · simp
      · have := ih (a + 1) c h; omega

theorem listed_read (d : Byte) (l : List Byte) : ∀ a, (List.range l.length).map (fun i => storeGet d (listed d a l) (a + i)) = l := by
  induction l with
  | nil => intro a; rfl
  | cons b t ih =>
    intro a
    rw [List.length_cons, List.range_succ_eq_map, List.map_cons, List.map_map]
    congr 1
    · simp only [listed]
      split
      · next h => rw [storeGet_absent _ _ _ (fun c hc => by have := listed_keys d t (a + 1) c hc; omega), h]
      · simp [storeGet]
    · refine (List.map_congr_left ?_).trans (ih (a + 1))
      intro i _
      have e : a + (i + 1) = a + 1 + i := by omega
      simp only [listed, Function.comp_apply, Nat.succ_eq_add_one, e]
      split
      · rfl
      · simp only [storeGet, if_neg (by omega : ¬ a = a + 1 + i)]

theorem storeGet_right {α : Type} (d : α) (m n : Store α) (k : Nat) (h : ∀ c ∈ m, c.1 ≠ k) : storeGet d (m ++
  n) k = storeGet d n k := by
  induction m with
  | nil => rfl
  | cons c t ih =>
    simp only [List.cons_append, storeGet, h c (List.mem_cons_self ..), if_false]
    exact ih (fun c hc => h c (List.mem_cons_of_mem _ hc))

theorem storeGet_left {α : Type} (d : α) (m n : Store α) (k : Nat) (h : ∀ c ∈ n, c.1 ≠ k) : storeGet d (m ++
  n) k = storeGet d m k := by
  induction m with
  | nil => exact storeGet_absent d n k h
  | cons c t ih => simp only [List.cons_append, storeGet, ih]

/-- Flash with that selector record at page 0 of block 192, in force, and that firmware in the boot blocks of a list. -/
def flashed (l : List Nat) : Flash :=
  { mem := l.flatMap (fun b => listed 0xFF (0x100000 * b) aFirmware) ++
    listed 0xFF (512 * 49152) (selBytes aSelector), sel := 49152 }

/-- The array holds the selector record, and as far as can be seen no other. -/
def holdsSelector (m : Store Byte) : Prop :=
  (List.range 512).map (fun i => storeGet (0xFF : Byte) m (512 * 49152 + i)) = selBytes aSelector ∧
    ∀ c ∈ m, c.1 < 512 * 49152 + 512

/-- The array holds the firmware in boot block `b`. -/
def holdsFirmware (m : Store Byte) (b : Nat) : Prop :=
  (List.range 512).map (fun i => storeGet (0xFF : Byte) m (0x100000 * b + i)) = aFirmware

set_option maxRecDepth 100000 in
theorem lengths_512 : (selBytes aSelector).length = 512 ∧ aFirmware.length = 512 := by decide +kernel

theorem flashed_selector (l : List Nat) (h : ∀ b ∈ l, b < 2) : holdsSelector (flashed l).mem := by
  have k : ∀ c ∈ l.flatMap (fun b => listed 0xFF (0x100000 * b) aFirmware), c.1 < 512 * 49152 := by
    intro c hc
    obtain ⟨b, hb, hc⟩ := List.mem_flatMap.1 hc
    have := h b hb
    have := listed_keys _ _ _ c hc
    have := lengths_512.2
    omega
  refine ⟨?_, ?_⟩
  · refine Eq.trans ?_ (listed_read 0xFF (selBytes aSelector) (512 * 49152))
    rw [lengths_512.1]
    apply List.map_congr_left
    intro i _
    exact storeGet_right _ _ _ _ (fun c hc => by have := k c hc; omega)
  · intro c hc
    rcases List.mem_append.1 hc with hc | hc
    · have := k c hc; omega
    · have := listed_keys _ _ _ c hc
      have := lengths_512.1
      omega

theorem flashed_firmware (b : Nat) (h : b < 2) : holdsFirmware (flashed [b]).mem b := by
  unfold holdsFirmware
  refine Eq.trans ?_ (listed_read 0xFF aFirmware (0x100000 * b))
  rw [lengths_512.2]
  apply List.map_congr_left
  intro i hi
  have hi := List.mem_range.1 hi
  have e : (flashed [b]).mem = listed 0xFF (0x100000 * b) aFirmware ++ listed 0xFF (512 * 49152) (selBytes aSelector) := by
    simp [flashed]
  rw [e]
  exact storeGet_left _ _ _ _ (fun c hc => by have := listed_keys _ _ _ c hc; omega)

set_option maxRecDepth 100000 in
theorem aSelector_ok : selOk (selBytes aSelector) = true ∧ selParse (selBytes aSelector) = aSelector := by decide +kernel

set_option maxRecDepth 100000 in
theorem aFirmware_ok : leNat (piece aFirmware 8 4) = 0 ∧ leNat (piece aFirmware 12 4) = 0 ∧ leNat (piece aFirmware 16 4) = 512 ∧
    leNat (piece aFirmware 0 4) = 0x53555046 ∧ leNat (piece aFirmware 20 4) = crc32c [] ∧
    crc32c (piece aFirmware 0 508) = leNat (piece aFirmware 508 4) ∧ piece aFirmware 24 32 = sha256 [] := by decide +kernel

/-- That record is found and in force. -/
theorem selector_found (s : State) (hm : holdsSelector s.flash.mem) (hw : s.flash.wild = []) (h0 : s.undef 192 = false)
    (h1 : s.undef 193 = false) : s.selFind = some 49152 ∧ (s.flash.sel = 49152 → s.selector = some aSelector) := by
  have hp : s.pageOf 49152 = selBytes aSelector := by rw [pageOf_plain s 49152 (pageWild_none s _ hw (by simpa using h0)), hm.1]
  refine ⟨selFind_only s hw h0 h1 (by rw [hp]; exact aSelector_ok.1) ?_, ?_⟩
  · intro p h _
    exact storeGet_absent _ _ _ (fun c hc => by have := hm.2 c hc; omega)
  · intro h
    rw [State.selector, h, if_neg (by decide), hp, aSelector_ok.2]

/-- That firmware passes its checks. -/
theorem firmware_passes (s : State) (b : Nat) (full : Bool) (hm : holdsFirmware s.flash.mem b)
    (hp : s.pageWild (2048 * b) = false) : s.fwCheck b full = none := by
  have key : ∀ a n, a + n ≤ 512 → imgBytes (s.bootByte b) a n = piece aFirmware a n := by
    intro a n h
    rw [bootBytes_plain s b a n h hp, ← hm]
    apply List.ext_getElem
    · simp [piece]; omega
    · intro i h1 h2; simp [piece]
  obtain ⟨h8, h12, h16, h0, h20, hc, hs⟩ := aFirmware_ok
  simp only [State.fwCheck, imgNum, key 8 4 (by decide), key 12 4 (by decide), key 16 4 (by decide), key 508 4 (by decide),
    key 0 508 (by decide), key 0 4 (by decide), key 20 4 (by decide), key 24 32 (by decide), h8, h12, h16, h0, h20, hc, hs]
  simp [fwStart, imgBytes]

set_option maxRecDepth 100000 in
/-- Erased bytes are no firmware. -/
theorem erased_fails (s : State) (b : Nat) (full : Bool) (hm : ∀ c ∈ s.flash.mem, c.1 < 0x100000 * b ∨ 0x100000 * b + 512 ≤ c.1)
    (hp : s.pageWild (2048 * b) = false) : s.fwCheck b full = some 1 := by
  have key : ∀ a n, a + n ≤ 512 → imgBytes (s.bootByte b) a n = List.replicate n 0xFF := by
    intro a n h
    rw [bootBytes_plain s b a n h hp]
    apply List.ext_getElem
    · simp
    · intro i h1 h2
      simp only [List.getElem_map, List.getElem_range, List.getElem_replicate]
      exact storeGet_absent _ _ _ (fun c hc => by have := hm c hc; simp at h1; omega)
  have e : crc32c (List.replicate 508 0xFF) ≠ leNat (List.replicate 4 0xFF) := by decide +kernel
  simp only [State.fwCheck, imgNum, key 508 4 (by decide), key 0 508 (by decide), ne_eq, e, not_false_eq_true, if_true]

/-- The queue in host memory, with that flash. -/
def flashQueue (l : List Nat) : State := flashQ 63 [] (flashed l)

set_option maxRecDepth 100000 in
/-- A block may be undefined; SWAP_BOOT finds firmware or none. -/
theorem test_hyps_FlashDescriptors_others :
    let d := desc 2 4 0x1FFFE00 16 512 0
    let u : State := put (flashQueue []) [(F.FLASH_UNDEF_MAP, 0, 7, 0x80000000)]
    u.undef 255 = true ∧ (aDesc d).block = 255 ∧ u.descRefused (aDesc d) true (u.sessPriv 1 0) = none ∧
    (flashQueue [1]).descRefused (aDesc (desc 7 0 0 0 0 1)) true ((flashQueue [1]).sessPriv 1 0) = none ∧
    (flashQueue [1]).fld F.FLASH_STATUS_ACTBOOT 0 ≠ 1 ∧ (flashQueue [1]).undef 192 = false ∧ (flashQueue [1]).undef 193 = false ∧
    (flashQueue [1]).pageWild (2048 * 1) = false ∧ (flashQueue []).pageWild (2048 * 1) = false ∧
    (∀ c ∈ (flashQueue []).flash.mem, c.1 < 0x100000 * 1 ∨ 0x100000 * 1 + 512 ≤ c.1) := by decide +kernel

theorem test_hyps_FlashDescriptors_firmware :
    (flashQueue [1]).selector = some aSelector ∧ (flashQueue [1]).fwCheck 1 true = none ∧ (flashQueue []).fwCheck 1 true = some 1 :=
  have h := test_hyps_FlashDescriptors_others
  ⟨(selector_found (flashQueue [1]) (flashed_selector [1] (by simp)) rfl h.2.2.2.2.2.1 h.2.2.2.2.2.2.1).2 rfl,
    firmware_passes (flashQueue [1]) 1 true (flashed_firmware 1 (by decide)) h.2.2.2.2.2.2.2.1,
    erased_fails (flashQueue []) 1 true h.2.2.2.2.2.2.2.2.2 h.2.2.2.2.2.2.2.2.1⟩

/-- The work of descriptor `d` is over but for its end `fin`, the flash holding that selector record. -/
def flashDone (d : FlashDesc) (fin : JobEnd) (otp : Store Byte := []) : State :=
  flashQ 63 otp { flashed [] with queue := [d], reach := 1, jobs := [{ key := d.idx, todo := [], fin := fin }] }

theorem test_hyps_FlashEventsAndTimeouts_work :
    let d (op : Nat) : FlashDesc := { idx := 0, op := op, flags := 0, faddr := 0x80000400, buf := 0, len := 0, arg := 1, odd := false }
    let blown : Store Byte := writeBytes [] 0xC0 (List.replicate 4 0xFF)
    ∀ s ∈ [flashDone (d 6) (.otp 0x400 1), flashDone (d 7) (.swap 1), flashDone (d 8) (.wipe 1) blown],
      s.hostQ = true ∧ (∀ e ∈ s.flash.queue, e.done = false ∧ s.supRuns e.idx = false) ∧ s.flash.jobs.length = 1 ∧ s.warm = none ∧
      s.selOpen = true ∧ 192 * 256 ≤ s.flash.sel ∧ s.nextFuse 0xE0 = some 0 := by decide +kernel

theorem test_hyps_FlashEventsAndTimeouts_selector (d : FlashDesc) : (flashDone d (.swap 1)).selector = some aSelector :=
  (selector_found (flashDone d (.swap 1)) (flashed_selector [] (by simp)) rfl (show (flashQ 63).undef 192 = false by decide)
    (show (flashQ 63).undef 193 = false by decide)).2 rfl

theorem test_hyps_FlashEventsAndTimeouts :
    let d : FlashDesc := { idx := 0, op := 2, flags := 0, faddr := 0, buf := 0, len := 0, arg := 0, odd := false }
    let at_ (b : FlashBank) (q : List FlashDesc) (p : List (Nat × Option Nat)) : State :=
        flashQ 63 [] { banks := [(3, b)], queue := q, pausing := p, reach := 1 }
    let e := aDesc (desc 4 0 0 0 0 3)
    let s := at_ { op := 3 } [{ d with idx := 7 }] []
    let h : FlashHold := { block := 5, resumes := 98, idx := 0 }
    ((at_ { op := 2, data := List.replicate 512 0 } [d] []).bank 3).op = 2 ∧ (List.replicate 512 (0 : Byte)).length = 512 ∧
    (at_ { op := 2 } [d] []).hostQ = true ∧ (at_ { op := 2 } [d] []).flash.queue = [d] ∧ d.done = false ∧
    storeGet 0 (at_ { op := 2 } [d] []).flash.pages 192 ≤ 0 ∧
    (at_ { op := 2, data := List.replicate 513 0 } [d] []).flash.jobs = [] ∧ s.flash.jobs = [] ∧ s.flash.jwait = [] ∧
      d.parked = false ∧
    ((at_ { op := 2, data := List.replicate 513 0 } [d] []).bank 3).data.length = 513 ∧ (s.bank 3).own = false ∧
    ((at_ { op := 2, data := List.replicate 513 0 } [d] []).bank 3).due = false ∧ (s.bank 3).op = 3 ∧ (s.bank 3).held = none ∧
      195 ≤ 64 * 3 + 3 ∧
    s.flash.pausing = [] ∧ e.op = 4 ∧ e.arg % 4 = 3 ∧ s.descRefused e true (s.sessPriv 1 0) = none ∧ bitOf e.flags 1 = false ∧
    (put s [(F.FLASH_QHEAD_HEAD, 0, 0, 2)]).flash.reach ≠ (put s [(F.FLASH_QHEAD_HEAD, 0, 0, 2)]).fld F.FLASH_QHEAD_HEAD 0 ∧
    (at_ { op := 3 } [] [(3, none)]).flash.pausing = [(3, none)] ∧
    (at_ { op := 3 } [d, { d with idx := 1 }] [(3, some 1)]).flash.pausing = [(3, some 1)] ∧
    (written .flash 0 0x18 8 s).writing 32 .flash 0 0x18 8 [] ∧ (8 : Word).toNat = 2 ^ 3 ∧ (R.bank 3).op ≠ 3 ∧
    (written .flash 0 0x18 0x80 (at_ { held := some h } [] [])).writing 32 .flash 0 0x18 0x80 [] ∧
      (0x80 : Word).toNat = 2 ^ (4 + 3) ∧
    ((at_ { held := some h } [] []).bank 3).held = some h ∧ h.resumes ≠ 99 ∧ (R.bank 3).held = none ∧
    (written .flash 0 0x0C 1).writing 32 .flash 0 0x0C 1 [] ∧ R.hostQ = false ∧ s.hostQ = true ∧
    (with_ [(F.HOST_SESS_OPEN, 0, 3, 1)]).fldI F.HOST_SESS_OPEN 0 3 = 1 ∧
    storeGet 0 ({ R with hostSide := { lockEnd := [(2, 5)] } } : State).hostSide.lockEnd 2 = 4 + 1 := by
  unfold State.writing; decide +kernel

/-! ### The host side -/

/-- The PCIe link is up with its queues of 9 entries, a session of privileges `priv` is open on transport `n`, and the part is
ready. -/
def hosted (n priv : Nat) (s : State := R) : State := put s [(F.HOST_PCIE_DLUP, 0, 0, 1), (F.FP_QCFG_EN, 0, 0, 1),
  (F.FP_QCFG_SIZE, 0, 0, 8),
  (F.SUP_READY_READY, 0, 0, 0x1C1F), (F.HOST_SESS_OPEN, 0, 3, 1), (F.HOST_SESS_TRANSPORT, 0, 3, n), (F.HOST_SESS_PRIV, 0, 3, priv)]

/-- A command: transport, operation, LEN, three arguments, and input attached to it. -/
def cmd (n op : Nat) (len a0 a1 a2 : Nat := 0) (addr : Nat := 0) (flags : Nat := 0) (data : List Byte := []) : HostCmd :=
  { transport := n, peer := 0, op := op, tag := 7, flags := flags, odd := false, addr := addr, len := len, arg0 := a0, arg1 := a1, arg2 := a2, data := data }

/-- The command is the first of its lane. -/
def quickly (c : HostCmd) (s : State) : State := { s with hostSide := { s.hostSide with quick := [c] } }

def slowly (c : HostCmd) (s : State) : State := { s with hostSide := { s.hostSide with long := [c] } }

theorem test_hyps_FrontPageAndPcie :
    let s := put (hosted 1 63) [(F.FLASH_QCFG_HOSTQ, 0, 0, 1)]
    let noted : State := { s with pcNotes := [15] }
    let pend : State := { s with msixPend := 2 ^ 31 }
    let open_ : State := { s with msixMask := 0 }
    let high := with_ [(F.HOST_PCIE_PERST, 0, 0, 0)]
    high.bit F.HOST_PCIE_PERST 0 = false ∧ high.modePins % 2 = 0 ∧ high.vserLost = false ∧ high.vserhLost = false ∧
    high.fld F.SUP_PWR_STATE 0 < 3 ∧ high.bit F.HOST_PCIE_DLUP 0 = false ∧ s.hostSide.cpWait = [] ∧
      s.sound 0x2FFFFF0 16 = true ∧ s.bit F.HOST_PCIE_DLUP 0 = true ∧ s.fld F.SUP_PWR_STATE 0 ≠ 2 ∧ s.sessPriv 1 0 = 63 ∧
    R.sessPriv 1 0 = 0 ∧ (hosted 1 2).sessPriv 1 0 = 2 ∧ noted.pcNotes = [15] ∧ s.pcNotes = [] ∧
      (0x81008 : BitVec 26).toNat % 4 = 0 ∧
    s.ready 4 = true ∧ s.busFree = true ∧ s.group (groupOf 0x2FFFFF0) = 0 ∧ (0x2FFFFF0 : BitVec 26).toNat < 0x3000000 ∧
      s.hostQ = true ∧
    s.bit F.FP_QCFG_EN 0 = true ∧ R.bit F.FP_QCFG_EN 0 = false ∧ s.ready 0 = true ∧ s.fld F.FP_CQHEAD_HEAD 0 ≠ 8 % 256 ∧
      2 ≤ s.cpFree ∧
    bitOf pend.msixPend 31 = true ∧ bitOf s.msixPend 31 = false ∧
    (written .host 0 8 31 s).writing 32 .host 0 8 31 [] ∧ 7 ≤ (31 : Word).toNat % 32 ∧ bitOf s.msixMask 31 = true ∧
    bitOf open_.msixMask 31 = false ∧ (written .host 0 8 6 s).writing 32 .host 0 8 6 [] ∧ (6 : Word).toNat % 32 < 7 := by
  unfold State.writing; decide

set_option maxRecDepth 100000 in
theorem test_hyps_ControlPortFrames :
    let s : State := { R with hrdy := true }
    let m := leBytes 2 1 ++ List.replicate 30 (0 : Byte)
    let r : List (List Byte) := List.replicate 16 [0]
    ({ s with hostSide := { busyEnd := 25000 } } : State).tickNo < 25000 ∧ s.hostSide.busyEnd ≤ s.tickNo ∧
      s.hostSide.blinkDue = false ∧
    ({ s with cpNotes := [1] } : State).cpNotes = [1] ∧ s.hostSide.responses = [] ∧ s.hrdy = true ∧
    ({ s.hostSide with lastNote := [1] } : HostSide).lastNote = [1] ∧ (255 : Byte).toNat % 64 > 5 ∧ m.length = 32 ∧
    m.length < 33 ∧ crc32c (leBytes 2 32 ++ m.take 32) = (BitVec.ofNat 32 (crc32c (leBytes 2 32 ++ m))).toNat ∧
    crc32c (leBytes 2 32 ++ m.take 32) ≠ 0 ∧ 16 ≤ r.length ∧ s.fld F.SUP_PWR_STATE 0 ≠ 2 ∧ s.reported 0x0B09 16384 = false ∧
    ((s.raise 0x0B09 16384 []).reported 0x0B09 16384) = true := by decide +kernel

theorem test_hyps_DmaEngines :
    let ring (prod cons n : Nat) : State := lastRing prod cons n (hosted 1 2)
    let dma (mode : Nat) (s : State) : State := put s [(F.DMA_CTRL_EN, 3, 0, 1), (F.DMA_CTRL_MODE, 3, 0, mode),
        (F.DMA_CTRL_RING, 3, 0, 1023),
      (F.DMA_HLEN_ITEMS, 3, 0, 8), (F.DMA_IRQ_TIMEOUT, 3, 0, 1)]
    let out := dma 0 (ring 0 515 1)
    let inn := put (dma 1 (ring 515 0 14)) [(F.DMA_HWPTR_OFF, 3, 0, 1)]
    let copy := put (dma 3 (hosted 1 2)) [(F.DMA_LEN_BYTES, 3, 0, 16), (F.DMA_DADDR_ADDR, 3, 0, 0x2FFFFF0)]
    let moved : State := { out with msixMask := 0, hostSide := { out.hostSide with dma := [(3, { moved := 1 })] } }
    (ring 0 515 1).bit F.HOST_PCIE_DLUP 0 = true ∧ (ring 0 515 1).fld F.SUP_PWR_STATE 0 ≠ 2 ∧
      bitOf ((ring 0 515 1).sessPriv 1 0) 1 = true ∧
    (ring 0 515 1).fld F.RING_CTRL_CONS 1023 = 512 + 3 ∧
      (put (ring 0 515 1) [(F.DMA_HLEN_ITEMS, 3, 0, 8)]).fld F.DMA_HLEN_ITEMS 3 ≠ 0 ∧
    (ring 0 515 1).bit F.DMA_CTRL_EN 3 = false ∧ R.fld F.DMA_HLEN_ITEMS 3 = 0 ∧ inn.fld F.DMA_CTRL_MODE 3 = 1 ∧
      R.fld F.DMA_CTRL_MODE 3 = 0 ∧
    out.bit F.DMA_CTRL_EN 3 = true ∧ out.ringPlain 1023 (out.ringAddr 1023 (out.fld F.RING_RPTR_OFF 1023)) = true ∧
      out.nothingWaits = true ∧
    out.fld F.RING_RPTR_OFF 1023 + 1 < out.ringLen 1023 ∧ 0 < out.ringFill 1023 ∧ out.hostFill 3 < 8 ∧
      out.fld F.DMA_HWPTR_OFF 3 + 1 < 8 ∧
    out.fld F.DMA_IRQ_BATCH 3 = 0 ∧ out.fld F.DMA_HWB_LO_LO 3 + out.fld F.DMA_HWB_HI_HI 3 = 0 ∧
    inn.busFree = true ∧ copy.busFree = true ∧ inn.ringPlain 1023 (inn.ringAddr 1023 (inn.fld F.RING_WPTR_OFF 1023)) = true ∧
      inn.fld F.RING_CTRL_PROD 1023 = 512 + 3 ∧
    inn.fld F.RING_WPTR_OFF 1023 + 1 < inn.ringLen 1023 ∧ 0 < inn.ringRoom 1023 ∧ 0 < inn.hostFill 3 ∧
      inn.fld F.DMA_HRPTR_OFF 3 + 1 < 8 ∧
    out.sound (out.ringAddr 1023 (out.fld F.RING_RPTR_OFF 1023)) 16 = true ∧ copy.sound 0x2FFFFF0 16 = true ∧
    copy.bit F.DMA_CTRL_EN 3 = true ∧ copy.ready 4 = true ∧ copy.group (groupOf 0x2FFFFF0) = 0 ∧
      copy.fld F.DMA_LEN_BYTES 3 / 16 = 1 ∧
    (storeGet ({} : DmaCount) moved.hostSide.dma 3).moved ≠ 0 ∧ moved.fld F.DMA_IRQ_TIMEOUT 3 ≠ 0 ∧
      bitOf moved.msixMask (2 + 3) = false := by
  decide

theorem test_hyps_HostCommandGates :
    let c := cmd 0 0x24
    let h (n priv : Nat) (c : HostCmd) : State := quickly c (hosted n priv)
    let asleep := put (h 0 2 c) [(F.SUP_PWR_STATE, 0, 0, 3)]
    let relay : HostCmd := { cmd 2 0x50 with arg0 := 511, sent := true }
    let tree := put (h 2 2 relay) [(F.CONST_STATUS_PHASE, 0, 0, 0x1F)]
    (h 0 2 c).quickHead 0 = some c ∧ (h 0 2 c).runnable 0 = true ∧ (h 1 2 (cmd 1 0x24)).runnable 1 = true ∧
    (h 2 2 (cmd 2 0x24)).runnable 2 = true ∧ asleep.notNow c = some (0x0A, 3) ∧ (h 0 2 c).notNow c = none ∧
    (h 1 2 c).noPriv c = some (2, 0) ∧ (h 0 1 c).noPriv c = some (1, 2) ∧ (h 0 2 c).noPriv c = none ∧
    ({ c with flags := 4 } : HostCmd).badHeader = some 4 ∧ knownOp 0x51 = false ∧ (h 0 2 c).queuesRun = true ∧
    ({ c with flags := 2 } : HostCmd).quiet = true ∧ bitOf ({ h 1 2 c with msixMask := 0 } : State).msixMask 1 = false ∧
    tree.inTree = true ∧ tree.fld F.SUP_PWR_STATE 0 ≠ 2 ∧ tree.hostSide.quick.find? (fun x => x.sent &&
      decide (x.arg0 = 511)) = some relay ∧
    R.queuesRun = false ∧ (h 1 2 c).hostSide.cpWait = [] ∧ 2 ≤ (h 1 2 c).cpFree ∧
    (put (h 1 2 c) [(F.FP_CPTAIL_TAIL, 0, 0, 7)]).cpFree < 2 ∧ R.hrdy = false ∧ R.hostSide.blinkDue = false ∧
    R.hostSide.blinkFrom ≤ R.tickNo ∧ R.tickNo < ({ blinkAt := some 0 } : HostSide).blinkFrom ∧
    (inPair (quickly relay (hosted 0 63))).linkTo 4 = some 2 := by decide

/-- The head of an Ursen program file of one word HALT. -/
def aProgram : List Byte :=
  let l := leBytes 4 0x5552534E ++ leBytes 2 1 ++ leBytes 2 0 ++ leBytes 4 0 ++ leBytes 4 4 ++ leBytes 4 0 ++ leBytes 4 0 ++
    leBytes 4 (crc32c [0, 0, 0, 0])
  l ++ leBytes 4 (crc32c l) ++ List.replicate 32 0

/-- The head of an engine program file of one word. -/
def aSeProgram : List Byte :=
  let l := leBytes 4 0x53454E47 ++ leBytes 2 1 ++ leBytes 2 0 ++ leBytes 8 0 ++ leBytes 4 8 ++ leBytes 4 0 ++ leBytes 4 0 ++
    leBytes 4 (crc32c (List.replicate 8 0))
  l ++ leBytes 4 (crc32c l) ++ List.replicate 28 0

theorem test_hyps_QuickCommands_sessions :
    let k : Store Byte := writeBytes [] 0x40 (leBytes 20 (1 + 2 ^ 128 * 63))
    let h (c : HostCmd) (f : HostSide := {}) (otp : Store Byte := []) : State :=
      quickly c { hosted c.transport 63 with hostSide := f, flash := { otp := otp } }
    let l (tag : List Byte) : List Byte := leBytes 4 0 ++ leBytes 4 63 ++ List.replicate 8 0 ++ tag
    let n : HostSide := { nonces := [(bindKey 0 0, (1, 0))] }
    let g := (hmac256 (leBytes 16 1) (List.replicate 16 0 ++ (l []).take 16)).take 16
    (h (cmd 0 1)).quickRuns 0 0x01 (cmd 0 1) ∧ (h (cmd 1 2)).quickRuns 1 0x02 (cmd 1 2) ∧ (h (cmd 2 2)).lockLeft 2 = 0 ∧
    0 < (h (cmd 0 2) { lockEnd := [(0, 1)] }).lockLeft 0 ∧ (h (cmd 0 3)).quickRuns 0 0x03 (cmd 0 3) ∧
    (cmd 0 3 32 0 0 0 0 0 (l (List.replicate 16 0))).given 32 none (l (List.replicate 16 0)) ∧ (h (cmd 0 3)).nonce 0 0 = none ∧
    (h (cmd 0 3) n).nonce 0 0 = some (List.replicate 16 0) ∧ (h (cmd 0 3) n).session 0 0 = some 3 ∧
      (h (cmd 0 3) n).anySlot = false ∧
    (h (cmd 0 3) n k).anySlot = true ∧ (h (cmd 0 3) n k).slotUsable 0 = true ∧ (h (cmd 0 3) n k).slotKey 0 = leBytes 16 1 ∧
    pieceNum (l g) 0 1 = 0 ∧ pieceNum (l g) 1 1 = 0 ∧ pieceNum (l g) 2 2 = 0 ∧ piece (l g) 16 16 = g ∧
    Nat.land (pieceNum (l g) 4 4) ((h (cmd 0 3) n k).slotPriv 0) ≠ 0 ∧
    (h (cmd 0 4)).quickRuns 0 0x04 (cmd 0 4) ∧ R.session 0 0 = none ∧
    (put (h (cmd 0 5)) [(F.SUP_PWR_STATE, 0, 0, 2)]).quickRuns 0 0x05 (cmd 0 5) := by
  unfold State.quickRuns HostCmd.given; decide +kernel

theorem test_hyps_QuickCommands_memory :
    let h (c : HostCmd) : State := quickly c (hosted c.transport 63)
    let rd := cmd 0 0x10 16 0 0 0 0x2FFFFF0 1
    let bad := cmd 0 0x10 16 0 0 0 0x20000000 1
    let wr := cmd 0 0x11 16 0 0 0 0x2FFFFF0 1 (List.replicate 16 1)
    let own := cmd 0 0x24 0 32 0 0 (cfgBase .zone 63)
    (h rd).quickRuns 0 0x10 rd ∧ rd.badMem false = none ∧ (h rd).group (groupOf rd.addr) = 0 ∧ (h bad).quickRuns 0 0x10 bad ∧
    bad.badMem false = none ∧ bad.addr / 2 ^ 28 = 2 ∧ (h rd).sound rd.addr 16 = true ∧ (h wr).quickRuns 0 0x11 wr ∧
      wr.badMem true = none ∧ (h wr).busFree = true ∧
    (h own).quickRuns 0 0x24 own ∧ own.blk = some (.zone, 63, 0) ∧ (cmd 0 0x24 0 32 0 0 0x7FFFFFFC).blk = none := by
  unfold State.quickRuns; decide

set_option maxRecDepth 100000 in
theorem test_hyps_QuickCommands_programs :
    let h (c : HostCmd) : State := quickly c (hosted c.transport 63)
    let p := aProgram ++ [0, 0, 0, 0]
    let e := aSeProgram ++ List.replicate 8 0
    let ld := cmd 1 0x20 68 31 1
    let se := cmd 0 0x22 72 15 0 0 0 0 e
    (h ld).quickRuns 1 0x20 ld ∧ ld.given 68 (some p) p ∧ (h ld).seqFileBad 31 p = none ∧ (h ld).seqFileBad 31 (0 :: p) = some 1 ∧
    (h se).quickRuns 0 0x22 se ∧ se.given 72 none e ∧ (h se).seFileBad 15 e = none ∧ (h se).seFileBad 15 (0 :: e) = some 1 := by
  unfold State.quickRuns HostCmd.given; decide +kernel

theorem test_hyps_QuickCommands_control :
    let h (c : HostCmd) : State := quickly c (hosted c.transport 63)
    let relay := cmd 0 0x50 32 511 0 0 0 0 (List.replicate 32 0)
    let tree : State := { put (h relay) [(F.CONST_STATUS_PHASE, 0, 0, 0x3F), (F.LINK_STATUS_STATE, 7, 0, 2), (F.LINK_STATUS_ROLE, 7, 0, 2)] with
      const := { tree := [{ uid := 1, num := 0, parent := 0 }, { uid := 9, num := 511, parent := 0 }] }
      links := [(7, { ident := some ⟨9, 0, 0, 0, 0⟩ })] }
    let seq := cmd 0 0x21 0 31 1
    let rst := cmd 0 0x25 0 0 0 0 (cfgBase .seq 31)
    (h seq).quickRuns 0 0x21 seq ∧ ((h seq).seq 31).st = .halted ∧ ((runs 31 {}).seq 31).st = .running ∧
    (h (cmd 0 0x23 0 15 2)).quickRuns 0 0x23 (cmd 0 0x23 0 15 2) ∧ (h seq).seState 15 = 0 ∧
    (h (cmd 0 0x25 0 3)).quickRuns 0 0x25 (cmd 0 0x25 0 3) ∧ R.warm = none ∧ (h rst).quickRuns 0 0x25 rst ∧
    rst.blk = some (.seq, 31, 0) ∧ srstOk 0 0 = false ∧ tree.quickRuns 0 0x50 relay ∧
    relay.given 32 none (List.replicate 32 0) ∧ tree.reachable 511 = true ∧ R.reachable 511 = false := by
  unfold State.quickRuns HostCmd.given; decide

/-- A FLASH_DESC command on the control port that carries descriptor `d`. -/
def flashCmd (d : BitVec 256) : HostCmd := cmd 0 0x40 32 0 0 0 0 0 (leBytes 32 d.toNat)

def longCmd (c : HostCmd) : State := slowly c { hosted c.transport 63 with flash := flashed [] }

/-- The supervisor's work for that command is over but for its end `fin`, with the firmware in the boot blocks of a list. -/
def longDone (c : HostCmd) (fin : JobEnd) (l : List Nat := []) : State :=
  slowly c { hosted c.transport 63 with flash := { flashed l with jobs := [⟨longKey, [], fin⟩] } }

set_option maxRecDepth 100000 in
/-- The conditions of the long commands; that an image passes all checks of R280 has no computed witness, for it has 145,984
bytes. -/
theorem test_hyps_LongCommandsOfTheHost_images :
    let ins := cmd 0 0x30 0 174
    let sel := cmd 0 0x31 0 0xFFFF 0xFFFF 1
    let rel := cmd 0 0x32
    let s : State := { longCmd ins with caldera := imageAt0.caldera }
    let n := storeBlocks (imgLength (imgMask (s.calderaImage 0)))
    s.longRuns 0x30 ins [] ∧ ins.addr < 0x3000000 ∧ ins.arg1 ≤ 2 ∧ s.ready 4 = true ∧ s.warm = none ∧
    s.pieceOpen 0 (imgLength (imgMask (s.calderaImage 0))) = true ∧ n = 2 ∧ s.installRefused 175 n = some 2 ∧
    s.installRefused 174 n = none ∧ s.flash.jobs = [] ∧ (∀ k, k < 4 → (s.bank k).op = 0 ∧ (s.bank k).held = none) ∧
    (longDone ins (.long [])).longOver 0x30 ins [] (.long []) ∧ (longDone ins (.long [])).selOpen = true ∧
    (longCmd sel).longRuns 0x31 sel [] ∧ (longCmd sel).selReady = true ∧ (longCmd sel).selectCheck 0xFFFF = none ∧
    (longCmd sel).selectCheck 176 = some ⟨1, 0x0501, [0, storeAddr 176 % 2 ^ 32]⟩ ∧
    (longCmd rel).longRuns 0x32 rel [] ∧ (longCmd rel).bit F.SUP_BOOT_CFGERR 0 = false ∧ (longCmd rel).journalOpen = true ∧
    (put (longCmd rel) [(F.SUP_BOOT_CFGERR, 0, 0, 1)]).bit F.SUP_BOOT_CFGERR 0 = true := by
  unfold State.longRuns State.longOver; decide +kernel

set_option maxRecDepth 100000 in
theorem test_hyps_LongCommandsOfTheHost_selector : (longCmd (cmd 0 0x31 0 0xFFFF 0xFFFF 1)).selector = some aSelector ∧
    (longDone (cmd 0 0x30 0 174 1) (.long [])).selector = some aSelector :=
  ⟨(selector_found _ (flashed_selector [] (by simp)) rfl (by decide) (by decide)).2 rfl,
    (selector_found _ (flashed_selector [] (by simp)) rfl (by decide) (by decide)).2 rfl⟩

theorem test_hyps_LongCommandsOfTheHost_parameters :
    let par := cmd 0 0x41 0 1 255
    let full : State := slowly par { hosted 0 63 with flash := { pages := [(7, 256)], params := [(1, 5), (17, 6)] } }
    (longCmd par).longRuns 0x41 par [] ∧ (longCmd par).pageReady 7 = true ∧ storeGet 0 (longCmd par).flash.pages 7 < 256 ∧
    full.longRuns 0x41 par [] ∧ full.pageReady 7 = true ∧ 256 ≤ storeGet 0 full.flash.pages 7 ∧ full.flash.jobs = [] ∧
    (∀ k, k < 4 → (full.bank k).op = 0 ∧ (full.bank k).held = none) ∧ full.fld F.FLASH_STATUS_ACTBOOT 0 = 0 ∧
    (longDone par (.long [(1, 5)])).longOver 0x41 par [] (.long [(1, 5)]) ∧
    (longCmd (cmd 0 0x41 0 4)).longRuns 0x41 (cmd 0 0x41 0 4) [] := by
  unfold State.longRuns State.longOver; decide +kernel

theorem test_hyps_LongCommandsOfTheHost_flash :
    let d (x : BitVec 256) : FlashDesc := descOf 0 (leBytes 32 x.toNat)
    let s (x : BitVec 256) : State := longCmd (flashCmd x)
    let ok (x : BitVec 256) : Prop := (s x).descRefused (d x) (s x).hostQ ((s x).sessPriv 0 0) = none
    let e := desc 3 0 0x1FE0000 0 0 0
    (s e).longRuns 0x40 (flashCmd e) [] ∧
    (flashCmd e).given 32 none (leBytes 32 e.toNat) ∧ (s e).ready 2 = true ∧ (s e).warm = none ∧ (s e).recovery = false ∧
    (s 0).descRefused (d (desc 3 0 0x200000 0 0 0)) (s 0).hostQ 63 = some (5, 16) ∧ ok e ∧ (d e).op = 3 ∧
    (s e).flash.jobs = [] ∧ (∀ k, k < 4 → ((s e).bank k).op = 0 ∧ ((s e).bank k).held = none) ∧ ok (desc 4 0 0 0 0 3) ∧
    ok (desc 6 0 0x80000400 0 0 1) ∧ otpUserWord (d (desc 6 0 0x80000400 0 0 1)).otpOff = true ∧ (s e).otpUsed 0x400 = false := by
  unfold State.longRuns HostCmd.given; decide +kernel

/-- A READ into host memory; the work of an ERASE and of an OTP_PROGRAM is over. -/
theorem test_hyps_LongCommandsOfTheHost_ends :
    let e := desc 3 0 0x1FE0000 0 0 0
    let d : FlashDesc := descOf 0 (leBytes 32 (desc 1 4 0x1FFFFF0 16 16 0).toNat)
    let h : State := put (longCmd (cmd 1 0x40 32)) [(F.FLASH_QCFG_HOSTQ, 0, 0, 1)]
    h.longRuns 0x40 (cmd 1 0x40 32) [] ∧ h.descRefused d h.hostQ (h.sessPriv 1 0) = none ∧ d.hbuf = true ∧
      bitOf d.faddr 31 = false ∧
    h.eccFound d.faddr d.len = (0, 0, 0x2000000) ∧ (∀ k, k < 256 → h.undef k = false) ∧
    (flashCmd e).dspace = false ∧ (longDone (flashCmd e) .plain).longOver 0x40 (flashCmd e) [] .plain ∧
    (longDone (flashCmd e) (.otp 0x400 1)).longOver 0x40 (flashCmd e) [] (.otp 0x400 1) := by
  unfold State.longRuns State.longOver; decide +kernel

theorem test_hyps_LongCommandsOfTheHost_gates :
    let h (n priv : Nat) (c : HostCmd) : State := slowly c (hosted n priv)
    let asleep := put (h 0 63 (cmd 0 0x30)) [(F.SUP_PWR_STATE, 0, 0, 3)]
    asleep.hostSide.long = [cmd 0 0x30] ∧ asleep.runnable 0 = true ∧ asleep.notNow (cmd 0 0x30) = some (0x0A, 3) ∧
    (h 0 1 (cmd 0 0x30)).notNow (cmd 0 0x30) = none ∧ (h 0 1 (cmd 0 0x30)).noPriv (cmd 0 0x30) = some (1, 12) := by decide

/-- FW_INSTALL into boot block 1 under the recovery loader. -/
def installs : State := slowly (cmd 0 0x42 512 1) { hosted 0 63 with recovery := true }

theorem test_hyps_LongCommandsOfTheHost_recovery :
    let c := cmd 0 0x42 512 1
    installs.longRuns 0x42 c [] ∧ installs.recovery = true ∧ c.addr + c.len ≤ 0x3000000 ∧ c.len ≤ 917504 ∧
    installs.pieceOpen 0 (max 1 512) = true ∧ installs.warm = none ∧ installs.flash.jobs = [] ∧
    (∀ k, k < 4 → (installs.bank k).op = 0 ∧ (installs.bank k).held = none) := by
  unfold State.longRuns; decide

set_option maxRecDepth 100000 in
/-- Nothing is installed: the checks fail; the firmware is installed: they pass. -/
theorem test_hyps_LongCommandsOfTheHost_firmware :
    let s (l : List Nat) : State := longDone (cmd 0 0x42 512 1) (.long []) l
    (s []).longOver 0x42 (cmd 0 0x42 512 1) [] (.long []) ∧ (s []).fwCheck 1 true = some 1 ∧
    (s [1]).longOver 0x42 (cmd 0 0x42 512 1) [] (.long []) ∧ (s [1]).fwCheck 1 true = none ∧ (s [1]).selOpen = true := by
  refine ⟨?_, erased_fails _ 1 true (by decide +kernel) (by rfl), ?_,
    firmware_passes _ 1 true (flashed_firmware 1 (by decide)) (by rfl), by rfl⟩ <;>
    (unfold State.longOver; exact ⟨rfl, rfl, by rfl, rfl, by rfl, rfl⟩)

/-! ### Power, supervision -/

theorem test_hyps_PowerStatesAndWakes :
    let ask (n : Nat) (s : State := R) : State := written .sup 0 0x24 (BitVec.ofNat 32 (2 ^ 29 * n)) s
    let idle := R.setSeq 32 { st := .waiting }
    let pwr (n : Nat) : State := put R [(F.SUP_PWR_STATE, 0, 0, n)]
    let wake := put (pwr 4) [(F.PORT_WAKE_EN0, 31, 0, 1), (F.PORT_WAKE_EDGE0, 31, 0, 0), (F.PORT_STATUS_VIOCODE, 31, 0, 5),
      (F.CHASSIS_WAKE_EN, 0, 0, 0x80)]
    R.booting = none ∧ R.ready 0 = false ∧ R.fld F.SUP_PWR_STATE 0 = 0 ∧ (∀ k, k < 4 → (R.bank k).op ≠ 2) ∧
    (∀ l, l < 8 → R.linkUp l = false) ∧ R.bit F.HOST_PCIE_DLUP 0 = false ∧ (hosted 1 0).bit F.HOST_PCIE_DLUP 0 = true ∧
    ({ R with vserLost := true } : State).vserLost = true ∧ ({ R with vserhLost := true } : State).vserhLost = true ∧
      R.asleep = false ∧
    (ask 0 (pwr 2)).writing 32 .sup 0 0x24 0 [] ∧ bitsOf (0 : Word).toNat 29 3 = 0 ∧ (pwr 2).fld F.SUP_PWR_STATE 0 = 2 ∧
    (ask 2 idle).writing 32 .sup 0 0x24 0x40000000 [] ∧ bitsOf (0x40000000 : Word).toNat 29 3 = 2 ∧
    (ask 3 idle).writing 32 .sup 0 0x24 0x60000000 [] ∧ bitsOf (0x60000000 : Word).toNat 29 3 = 3 ∧
    (ask 4 idle).writing 32 .sup 0 0x24 0x80000000 [] ∧ bitsOf (0x80000000 : Word).toNat 29 3 = 4 ∧
    (pwr 3).fld F.SUP_PWR_STATE 0 = 3 ∧ wake.bit F.PORT_WAKE_EN0 31 = true ∧ wake.bit F.PORT_WAKE_EDGE0 31 = false ∧
    wake.vioOk 31 = true ∧ R.bit F.PORT_WAKE_EN0 31 = false ∧ bitOf (wake.fld F.CHASSIS_WAKE_EN 0) 7 = true ∧
    wake.hostSide.vctlLost = false ∧ ({ wake with hostSide := { vctlLost := true } } : State).hostSide.vctlLost = true ∧
      R.flash.jobs = [] ∧
    bitOf (wake.fld F.CHASSIS_WAKE_EDGE 0) 7 = false ∧ bitOf (R.fld F.CHASSIS_WAKE_EN 0) 7 = false := by
  unfold State.writing; decide

theorem test_hyps_PowerStatesAndWakes_conditions :
    let idle := written .sup 0 0x24 0x80000000 (R.setSeq 32 { st := .waiting })
    (∀ c, 1 ≤ c → c ≤ 6 → idle.powerCond c = true) ∧ R.powerCond 1 = false ∧ (idle.setEngine 15 {}).powerCond 6 = true ∧
    (put idle [(F.SE_STATUS_STATE, 15, 0, 1)]).powerCond 2 = false ∧ ({ idle with loadDue := true } : State).powerCond 3 = false ∧
    (put idle [(F.MT_CTRL_EN, 7, 0, 1)]).powerCond 4 = false ∧
      (idle.setSill 1035 { queue := [{ time := 0, action := 0, width := 0, tag := 0, src := 0, dev := 0, remote := false }] }).powerCond 5 = false ∧
    ({ idle with flash := { banks := [(3, { op := 1 })] } } : State).powerCond 6 = false := by decide +kernel

/-- After a power-on reset or a warm reset, with that flash. -/
def boots (l : List Nat) (cold : Bool) : State := { R with booting := some cold, flash := { flashed l with sel := 0 } }

/-- What finding that record leaves. -/
def booted (l : List Nat) : State :=
  let s := (boots l true).mapFlash (fun f => { f with sel := 49152, jpage := storeGet 0 f.pages 194 })
  (((s.mapFlash (fun f => { f with jepoch := aSelector.jepoch })).setFld F.FLASH_SELSEQ_SEQ 0 aSelector.seq).setFld F.FLASH_STATUS_ACTBOOT 0
    aSelector.actboot).showUid

theorem undef_none : R.undef 192 = false ∧ R.undef 193 = false ∧ (booted []).undef 192 = false ∧ (booted []).undef 193 = false ∧
    (booted []).undef 0 = false ∧ (booted []).undef 8 = false ∧ R.undef 0 = false := by decide

set_option maxRecDepth 100000 in
theorem boots_booted (l : List Nat) (h : holdsSelector (flashed l).mem) : (boots l true).useSelector.showUid = booted l := by
  have f : (boots l true).selFind = some 49152 := (selector_found (boots l true) h rfl undef_none.1 undef_none.2.1).1
  have g : ((boots l true).mapFlash (fun f => { f with sel := 49152, jpage := storeGet 0 f.pages 194 })).selector = some aSelector :=
    (selector_found ((boots l true).mapFlash (fun f => { f with sel := 49152, jpage := storeGet 0 f.pages 194 })) h rfl undef_none.1
      undef_none.2.1).2 rfl
  unfold State.useSelector
  rw [f]
  dsimp only
  rw [g]
  rfl

set_option maxRecDepth 100000 in
theorem booted_selector (l : List Nat) (h : holdsSelector (flashed l).mem) : (booted l).selector = some aSelector :=
  (selector_found (booted l) h rfl undef_none.2.2.1 undef_none.2.2.2.1).2 rfl

set_option maxRecDepth 100000 in
/-- The supervisor starts with firmware from the active boot block, from the other one, or with the recovery loader. -/
theorem test_hyps_SupervisorStartsAndResets :
    (boots [0] true).booting = some true ∧ (boots [0] true).modePins < 2 ∧ ((boots [0] true).seq 32).st = .halted ∧
    ((boots [0] true).useSelector.showUid).selector = some aSelector ∧ aSelector.actboot = 0 ∧
    ((boots [0] true).useSelector.showUid).fwCheck 0 false = none ∧
    ((boots [1] true).useSelector.showUid).selector = some aSelector ∧
      ((boots [1] true).useSelector.showUid).fwCheck 0 false = some 1 ∧
    ((boots [1] true).useSelector.showUid).fwCheck 1 false = none ∧
    ((boots [] true).useSelector.showUid).selector = some aSelector ∧
      ((boots [] true).useSelector.showUid).fwCheck 0 false = some 1 ∧
    ((boots [] true).useSelector.showUid).fwCheck 1 false = some 1 := by
  rw [boots_booted _ (flashed_selector [] (by simp)), boots_booted _ (flashed_selector [0] (by simp)),
    boots_booted _ (flashed_selector [1] (by simp))]
  refine ⟨rfl, by decide, rfl, booted_selector _ (flashed_selector [0] (by simp)), rfl, ?_,
    booted_selector _ (flashed_selector [1] (by simp)), ?_, ?_,
    booted_selector _ (flashed_selector [] (by simp)), ?_, ?_⟩
  · exact firmware_passes _ 0 false (flashed_firmware 0 (by decide)) (pageWild_none _ _ rfl (by rfl))
  · exact erased_fails _ 0 false (by decide +kernel) (by rfl)
  · exact firmware_passes _ 1 false (flashed_firmware 1 (by decide)) (by rfl)
  · exact erased_fails _ 0 false (by decide +kernel) (by rfl)
  · exact erased_fails _ 1 false (by decide +kernel) (by rfl)

/-- A warm reset with that flash. -/
def rebooted : State := { R with booting := some false, flash := flashed [0] }

set_option maxRecDepth 100000 in
/-- No record is found; the mode pins ask for the recovery loader; a warm reset. -/
theorem test_hyps_SupervisorStartsAndResets_others :
    R.booting = none ∧ ({ R with modePins := 3 } : State).modePins = 3 ∧ R.recovery = false ∧
    rebooted.selector = some aSelector ∧ rebooted.fwCheck 0 false = none ∧ (R.useSelector.showUid).selector = none := by
  have f : R.selFind = none := by
    have e : ((List.range 512).map (fun i => 192 * 256 + i)).filter (fun p => selOk (R.pageOf p)) = [] := by
      rw [List.filter_eq_nil_iff]
      intro p hp
      obtain ⟨i, hi, rfl⟩ := List.mem_map.1 hp
      have hi := List.mem_range.1 hi
      have hu : R.undef ((192 * 256 + i) / 256) = false := by
        rcases (by omega : (192 * 256 + i) / 256 = 192 ∨ (192 * 256 + i) / 256 = 193) with e | e <;> rw [e] <;> decide
      rw [pageOf_plain R _ (pageWild_none R _ rfl hu), selOk_erased _ rfl]
      decide
    rw [State.selFind, e, List.foldl_nil]
  refine ⟨rfl, rfl, rfl, (selector_found rebooted (flashed_selector [0] (by simp)) rfl undef_none.1 undef_none.2.1).2 rfl,
    firmware_passes rebooted 0 false (flashed_firmware 0 (by decide)) (pageWild_none _ _ rfl undef_none.2.2.2.2.2.2), ?_⟩
  unfold State.useSelector
  rw [f]
  rfl

theorem test_hyps_SupervisorStartsAndResets_writes :
    let p : State := { R with flash := { banks := [(3, { op := 2 })] } }
    let own := put R [(F.CONST_STATUS_PHASE, 0, 0, 0x20)]
    R.warm = none ∧ (∃ k, k < 4 ∧ (p.bank k).op = 2) ∧ ({ R with warm := some 3 } : State).warm = some 3 ∧ (∀ k, k < 4 →
      (R.bank k).op ≠ 2) ∧
    (written .sup 0 0x20 1).writing 32 .sup 0 0x20 1 [] ∧ (written .sup 0 0x20 2).writing 32 .sup 0 0x20 2 [] ∧ bitOf 2 0 = false ∧
    (written .sup 0 0x28 0xFFFFFFFF).writing 32 .sup 0 0x28 0xFFFFFFFF [] ∧
    (written .chassis 0 8 0x80000007).writing 32 .chassis 0 8 0x80000007 [] ∧ bitOf 0x80000007 31 = true ∧ R.constOwn = false ∧
    R.arraySound = true ∧ R.wokeBy = none ∧ own.constOwn = true ∧ (written .chassis 0 8 7).writing 32 .chassis 0 8 7 [] := by
  unfold State.writing; decide

/-! ### Values of the spec -/

/-- R212, R213: words written out by their fields decode to their instructions. -/
theorem test_words :
    ursenDecode 0b000001_00001_00010_00011_0000000_0000 0 = some (.add 1 2 (.reg 3)) ∧
    ursenDecode 0b000001_11111_11111_11111_0000000_0001 0 = some (.sub 31 31 (.reg 31)) ∧
    ursenDecode 0b000100_00001_00000_1000000000000001 0 = some (.movi 1 0x8001) ∧
    ursenDecode 0b010010_0001_000000_1111111111111100 0 = some (.br 1 0xFFFC) ∧
    ursenDecode 0b010010_1111_000000_0000000000000000 0 = none ∧
    ursenDecode 0b100101_00000_00010_01_0_11111_00000000 0 = some (.pclr 2 31) ∧
    ursenDecode 0b010101_00000000000000000000000000 0 = some .ret ∧
    ursenDecode 0b010101_00000000000000000000000001 0 = none ∧
    ursenDecode 0b101101_00000_00000_000_100000_00_11111 0 = some (.sig 32 31) ∧
    ursenDecode 0b101000_00001_00010_00_00000000000000 0x80 = some (.cfgr 1 2 0x80) ∧ ursenDecode 0 0 = none := by decide

/-- Walk-through of the records of one pulse (R128, R129): the bytes of its launch, pulse-done and capture records. -/
theorem test_records_of_one_pulse :
    itemBytes (EvRec.item ⟨0xBEBC200, 0xEC, 0x13, 0x80, 0x230041⟩) = [0x00, 0xC2, 0xEB, 0x0B, 0, 0, 0, 0, 0xEC, 0, 0x13, 0x80,
      0x41, 0, 0x23, 0] ∧
    itemBytes (EvRec.item ⟨0xBEBC340, 0xEC, 0x18, 0x80, 0x41⟩) = [0x40, 0xC3, 0xEB, 0x0B, 0, 0, 0, 0, 0xEC, 0, 0x18, 0x80,
      0x41, 0, 0, 0] ∧
    itemBytes (EvRec.item ⟨0xBEBF8B0, 0xED, 0x01, 0x00, 0⟩) = [0xB0, 0xF8, 0xEB, 0x0B, 0, 0, 0, 0, 0xED, 0, 0x01, 0, 0, 0, 0,
      0] := by decide

/-- R214, R216: flags of ADD and CMP where a carry, an overflow or no borrow occurs. -/
theorem test_flags :
    aluAdd {} 0x7FFFFFFF 1 = (0x80000000, { n := true, v := true }) ∧ aluAdd {} 0xFFFFFFFF 1 = (0, { z := true, c := true }) ∧
    (aluSub {} 1 2).2 = { n := true } ∧ (aluSub {} 2 2).2 = { z := true, c := true } ∧
    aluShl { c := true } 0x40000000 0 = (0x40000000, { c := true }) ∧ aluShr {} 3 1 = (1, { c := true }) ∧
    aluSar {} 0x80000000 31 = (0xFFFFFFFF, { n := true }) ∧ (aluMulh {} 0xFFFFFFFF 2).1 = 0xFFFFFFFF := by decide

/-- The check values of the public standards that the spec names. -/
theorem test_digests :
    crc32c [0x31, 0x32, 0x33, 0x34, 0x35, 0x36, 0x37, 0x38, 0x39] = 0xE3069283 ∧
    (sha256 [0x61, 0x62, 0x63]).take 8 = [0xBA, 0x78, 0x16, 0xBF, 0x8F, 0x01, 0xCF, 0xEA] := by decide +kernel

/-- An ADD at the front of the queue writes its register, and the queue keeps its rest (R216). -/
theorem test_one_step :
    let s : State := { runs 31 { g := [(1, 5), (2, 7)] } with pending := [.add 31 1 1 (.reg 2), .halt 31] }
    ∃ t, step s = .next t ∧ storeGet 0 (t.seq 31).g 1 = 12 ∧ t.pending = [.halt 31] := ⟨_, rfl, by decide⟩

end Sys2Proof.Tests
end

/-! The arrival of a posted item that stands first in its sequencer's posting buffer (R187), where nothing behind it leaves by
itself. -/

namespace Sys2Proof.Machine

/-! ### The posting buffer -/

/-- No item of a list without self-going ones can leave by itself. -/
theorem firstSelf_of_plainPost (stuck : Posted → Bool) (before : List Posted) {l : List Posted} (h : plainPost l = true) :
    firstSelf stuck before l = none := by
  induction l generalizing before with
  | nil => rfl
  | cons p t ih =>
    obtain ⟨hp, ht⟩ : p.selfGoing = false ∧ plainPost t = true := by simpa [plainPost] using h
    simp [firstSelf, hp, ih _ ht]

/-- A buffer without self-going items keeps what it holds. -/
theorem drain_of_plainPost {s : State} {q : Nat} (h : plainPost (s.seq q).post = true) : s.drain q = s := by
  simp only [State.drain, State.drainGo, firstSelf_of_plainPost _ _ h]

/-- The first item of the buffer waits behind no other, so it is taken unless its destination cannot take it. -/
theorem popItem_head {s : State} {q : Nat} {p : Posted} {rest : List Posted} {want : Posted → Bool}
    (hpost : (s.seq q).post = p :: rest) (hwant : want p = true) (hstuck : s.stuck q p = false) :
    s.popItem q want = .popped rest := by
  simp [State.popItem, hpost, popGo, hwant, hstuck, waitsBehind]

/-- The first item of the buffer is delivered; `f` is its effect, which leaves the buffer without self-going items. -/
theorem deliver_head {s : State} {q : Nat} {p : Posted} {rest : List Posted} {want : Posted → Bool} {f : State → State}
    (hpost : (s.seq q).post = p :: rest) (hwant : want p = true) (hstuck : s.stuck q p = false)
    (hplain : plainPost ((f (s.landed q rest)).seq q).post = true) :
    s.deliver q want f = f (s.landed q rest) := by
  have hpop := popItem_head hpost hwant hstuck
  simp only [State.deliver, hpop]
  exact drain_of_plainPost hplain

/-- The buffer of a sequencer whose oldest posting has left it. -/
@[simp] theorem landed_post (s : State) (q : Nat) (rest : List Posted) : ((s.landed q rest).seq q).post = rest := by
  simp [State.landed]

/-! ### Tables of arms -/

/-- What was put at a key is listed there. -/
theorem mem_storeInsert_same {α : Type} (m : Store α) (k : Nat) (v : α) : (k, v) ∈ storeInsert m k v := by
  induction m with
  | nil => simp [storeInsert]
  | cons d t ih =>
    rw [storeInsert]
    split_ifs <;> simp [ih]

/-- What is listed at another key stays listed, and nothing is added there. -/
theorem mem_storeInsert_other {α : Type} (m : Store α) {k : Nat} (v : α) {c : Nat × α} (h : c.1 ≠ k) :
    c ∈ storeInsert m k v ↔ c ∈ m := by
  induction m with
  | nil => simpa [storeInsert] using fun e : c = (k, v) => h (congrArg Prod.fst e)
  | cons d t ih =>
    have hne : ∀ w, c ≠ (k, w) := fun w e => h (congrArg Prod.fst e)
    obtain ⟨k', w⟩ := d
    rw [storeInsert]
    split_ifs with hk hlt
    · subst hk
      simp [hne]
    · simp [hne]
    · simp [ih]

/-- A sorted table lists a key once. -/
theorem filter_key_of_mem {α : Type} {m : Store α} {k : Nat} {v : α} (hs : storeSorted m = true) (hm : (k, v) ∈ m) :
    m.filter (fun c => decide (c.1 = k)) = [(k, v)] := by
  induction m with
  | nil => simp at hm
  | cons d t ih =>
    obtain ⟨k', w⟩ := d
    have hlt := storeSorted_lt hs
    rcases List.mem_cons.mp hm with hd | ht
    · cases hd
      simpa using fun a b hab => Nat.ne_of_gt (hlt (a, b) hab)
    · have hk : k' ≠ k := Nat.ne_of_lt (hlt (k, v) ht)
      simpa [hk] using ih (storeSorted_tail hs) ht

/-! ### A CFGA that comes in time -/

/-- R26: a CFGA with a lead of 50 ticks or more sets the time at which its target arms, and does no more. -/
theorem cfgaCame_of_lead {s : State} (b : Blk) (n : Nat) {t : Stamp} (h : 50 ≤ s.leadTicks t) :
    s.cfgaCame b n t = { s with arms := storeInsert s.arms (ownerKey b n) t } := by
  simp [State.cfgaCame, h]

/-- R15, R26: the first posting of a sequencer is a CFGA in time to a block it owns: it sets the time of that arm. -/
theorem cfgaArrival_of_lead {q : Fin 33} {addr : Word} {t : Stamp} {b : Blk} {n off : Nat} {rest : List Posted} {s : State}
    (hpost : (s.seq q.val).post = .cfga addr.toNat t :: rest) (haddr : cfgDecode (addr.toNat % 2 ^ 31) = some (b, n, off))
    (hown : s.owner b n = q.val) (hplain : plainPost rest = true) (hlead : 50 ≤ s.leadTicks t) :
    exec (.cfgaArrival q addr t) s =
      .next { s.landed q.val rest with arms := storeInsert s.arms (ownerKey b n) t } := by
  have hown' : (s.landed q.val rest).owns q.val b n = true := decide_eq_true hown
  have hcame : (s.landed q.val rest).cfgaCame b n t = _ := cfgaCame_of_lead b n hlead
  refine congrArg Host.Outcome.next ((deliver_head hpost (decide_eq_true rfl) rfl ?_).trans ?_)
  · simp only [haddr, hown', if_true, hcame]
    exact (congrArg plainPost (landed_post s q.val rest)).trans hplain
  · simp only [haddr, hown', if_true, hcame]
    rfl

/-- Settles O8: the arrival puts its time at the key of its target in a sorted table, which lists a key once; it raises no record. -/
theorem secondCfgaReplacesTheFirst : Obligations.SecondCfgaReplacesTheFirst := by
  intro q addr t old b n off rest s k hpost haddr hown hsorted hplain _ hlead
  have hs := storeSorted_insert k t hsorted
  exact ⟨_, cfgaArrival_of_lead hpost haddr hown hplain hlead, filter_key_of_mem hs (mem_storeInsert_same _ _ _), hs, rfl,
    fun _ hc => mem_storeInsert_other _ _ hc, rfl⟩

/-! ### A write that waits for a flush -/

/-- R199: a write to SEQ.STREAM_s that has to wait for a flush leaves the state as it is. -/
theorem registerWrite_of_streamWaits {q : Fin 33} {addr v : Word} {s : State}
    (h : s.streamWaits q.val addr.toNat v.toNat = true) : exec (.registerWrite q addr v) s = .next s :=
  congrArg Host.Outcome.next (if_pos h)

/-- Raising a record leaves the sequencers alone. -/
theorem raise_seq (s : State) (code src : Nat) (d : List Nat) (q : Nat) : (s.raise code src d).seq q = s.seq q :=
  (congrArg (fun u : State => u.seq q) (raise_frame s code src d false)).trans rfl

/-- Sequencer 0 has bound its stream port 0 as a produce port while the Caldera is not ready, and its only posting is a CFGW to
0x300031: in its own register range, among the bytes of STREAM_0, and the address of no register. -/
def unflushable : State :=
  ((State.reset.setFldI F.SEQ_STREAM_EN 0 0 1).setFldI F.SEQ_STREAM_DIR 0 0 1).setSeq 0 { post := [.cfgw 0x300031 0] }

/-- Refutes O10: the reserved addresses of the statement take in those within a word of a register, and a write to one within
SEQ.STREAM_s waits, as one to the register does, while the port's buffer cannot be flushed (R199): it is neither discarded nor
reported. -/
theorem not_reservedConfigurationAddresses : ¬ Obligations.ReservedConfigurationAddresses := by
  intro h
  have hpost : (unflushable.seq 0).post = [.cfgw 0x300031 0] := by decide
  have hreserved : cfgDecode 0x300031 = some (.seq, 0, 0x31) ∧ regExists .seq 0x31 = false := by decide
  have hwaits : unflushable.streamWaits 0 0x300031 0 = true := by decide
  obtain ⟨t, ht, hraised⟩ := (h 0 0 0 0 0x300031 0 [] unflushable).2 hpost rfl hreserved.2
  have hstays := registerWrite_of_streamWaits (q := 0) (addr := 0x300031) (v := 0) hwaits
  obtain rfl : unflushable = t := Host.Outcome.next.inj (hstays.symm.trans ht)
  have hempty : (unflushable.seq 0).post = [] := by
    rw [hraised]
    exact (congrArg Seq.post (raise_seq _ _ _ _ 0)).trans (landed_post _ 0 [])
  exact List.cons_ne_nil _ _ (hpost.symm.trans hempty)

end Sys2Proof.Machine

/-! R108: what a launch item does that reaches a sill of another owner, and the entry of a tracker's commit, which is not judged
again. -/

namespace Sys2Proof.Machine

/-! ### Targets and lanes -/

/-- R105: the numbers of the sills, as TARGETs, name them. -/
theorem sillOf_ofNat (n : Fin 1036) : sillOf (BitVec.ofNat 16 n.val) = some n.val := by
  have hlt := n.isLt
  have hn : (BitVec.ofNat 16 n.val).toNat = n.val := (BitVec.toNat_ofNat _ _).trans (Nat.mod_eq_of_lt (by omega))
  simp only [sillOf, hn]
  split_ifs
  · rfl
  · rfl
  · omega

/-- R232: where nothing waits at a sill, it has room in its lane for an item of every sequencer. -/
theorem laneFull_of_waiting_nil {s : State} {target : Half} {k : Nat} (q : Nat) (htarget : sillOf target = some k)
    (hwait : (s.sill k).waiting = []) : s.laneFull q target = false := by
  simp [State.laneFull, htarget, hwait]

/-! ### A CANCEL that is due at its sill alone -/

/-- R229: a CANCEL that stands first and has only its sill left is delivered there; `f` is its effect, which leaves the buffer
without self-going items. -/
theorem deliverCancel_sill_head {s : State} {q tag : Nat} {target : Half} {all : Bool} {rest : List Posted} {f : State → State}
    (hpost : (s.seq q).post = .cancel target tag all [8] :: rest) (hlane : s.laneFull q target = false)
    (hplain : plainPost ((f (s.landed q rest)).seq q).post = true) :
    s.deliverCancel q target tag all 8 f = f (s.landed q rest) := by
  have hpop : popCancel (s.stuck q) target tag all 8 [] (s.seq q).post = .popped rest := by
    simp [hpost, popCancel, State.stuck, hlane, waitsBehind]
  simp only [State.deliverCancel, hpop]
  exact drain_of_plainPost hplain

/-! ### Refusal -/

/-- R107: whether a sill refuses an entry's action hangs on register fields and the tick alone. -/
theorem refuseAction_none_congr {s t : State} {n : Nat} {e : QEntry} (hregs : t.regs = s.regs) (hprior : t.prior = s.prior)
    (htick : t.tickNo = s.tickNo) (h : s.refuseAction n e = none) : t.refuseAction n e = none := by
  have hana : t.analogue n = s.analogue n := by
    unfold State.analogue State.paired State.fld State.fldI
    rw [hregs]
  have hconv (p : Nat) : t.actBit F.PORT_CONV_EN p = s.actBit F.PORT_CONV_EN p := by
    unfold State.actBit State.act State.actI State.fldI
    rw [hregs, hprior, htick]
  unfold State.refuseAction at h ⊢
  rw [hana, hconv]
  split_ifs at h ⊢ <;> rfl

/-- R108: an entry that its sill could take goes the way of a foreign one where the sill is not its source's. -/
theorem entryCame_foreign {s : State} {lane src k : Nat} {e : LaunchItem} {own : Nat → Bool} {foreign : Nat → State → State}
    (htarget : sillOf e.target = some k) (hact : s.refuseAction k (itemToEntry e src) = none) (hown : own k = false) :
    s.entryCame lane src e own foreign = foreign k s := by
  simp [State.entryCame, htarget, hact, hown]

/-- R108: an AMEND or CANCEL for a sill that is not its sequencer's has no effect but the record. -/
theorem sillOp_foreign {s : State} {q k tag : Nat} {target : Half} {f : Nat → State → State}
    (htarget : sillOf target = some k) (hown : s.owner .sill k ≠ q) :
    s.sillOp q target tag f = s.raise 0x0305 (sillSrc k) [q, k] := by
  simp [State.sillOp, htarget, State.owns, hown]

/-- Raising a record as an item leaves its buffer keeps what stood behind the item. -/
theorem plainPost_landed_raise {s : State} {q code src : Nat} {d : List Nat} {rest : List Posted} {t : State}
    (ht : t = (s.landed q rest).raise code src d) (h : plainPost rest = true) : plainPost (t.seq q).post = true := by
  rw [ht, raise_seq, landed_post]
  exact h

section Foreign

variable {q : Fin 33} {k : Nat} {rest : List Posted} {s : State}

/-- R108: a LAUNCH from a sequencer that does not own its sill is discarded, with a 0x0305 record. -/
theorem entryArrival_seq_foreign {e : LaunchItem} (hown : s.owner .sill k ≠ q.val) (hplain : plainPost rest = true)
    (hwait : (s.sill k).waiting = []) (hpost : (s.seq q.val).post = .entry e :: rest) (htarget : sillOf e.target = some k)
    (hact : s.refuseAction k (itemToEntry e (agent 5 q.val)) = none) :
    exec (.entryArrival (.seq q) e) s = .next ((s.landed q.val rest).raise 0x0305 (sillSrc k) [q.val, k]) := by
  have hcame (f : Nat → State → State) : (s.landed q.val rest).entryCame (laneSeq q.val) (agent 5 q.val) e
      (fun n => (s.landed q.val rest).owns q.val .sill n) f = f k (s.landed q.val rest) :=
    entryCame_foreign htarget (refuseAction_none_congr (s := s) rfl rfl rfl hact) (decide_eq_false hown)
  refine congrArg Host.Outcome.next ((deliver_head hpost (decide_eq_true rfl) ?_ ?_).trans (hcame _))
  · exact laneFull_of_waiting_nil q.val htarget hwait
  · exact plainPost_landed_raise (hcame _) hplain

variable {target tag : Half} (htarget : sillOf target = some k) (hown : s.owner .sill k ≠ q.val)
  (hplain : plainPost rest = true) (hwait : (s.sill k).waiting = [])
include htarget hown hplain hwait

/-- R108: an AMEND from a sequencer that does not own its sill is discarded, with a 0x0305 record. -/
theorem sillAmend_foreign {stamp : Stamp} (hpost : (s.seq q.val).post = .amendTime target tag.toNat stamp :: rest) :
    exec (.sillAmend q target tag stamp) s = .next ((s.landed q.val rest).raise 0x0305 (sillSrc k) [q.val, k]) := by
  have hop (f : Nat → State → State) : (s.landed q.val rest).sillOp q.val target tag.toNat f = _ := sillOp_foreign htarget hown
  refine congrArg Host.Outcome.next ((deliver_head hpost (decide_eq_true rfl) ?_ ?_).trans (hop _))
  · exact laneFull_of_waiting_nil q.val htarget hwait
  · exact plainPost_landed_raise (hop _) hplain

/-- R108: a CANCEL from a sequencer that does not own its sill is discarded there, with a 0x0305 record. -/
theorem sillCancel_foreign {all : Bool} (hpost : (s.seq q.val).post = .cancel target tag.toNat all [8] :: rest) :
    exec (.sillCancel q target tag all) s = .next ((s.landed q.val rest).raise 0x0305 (sillSrc k) [q.val, k]) := by
  have hop (f : Nat → State → State) : (s.landed q.val rest).sillOp q.val target tag.toNat f = _ := sillOp_foreign htarget hown
  refine congrArg Host.Outcome.next ((deliverCancel_sill_head hpost ?_ ?_).trans (hop _))
  · exact laneFull_of_waiting_nil q.val htarget hwait
  · exact plainPost_landed_raise (hop _) hplain

end Foreign

/-! ### A tracker's commit -/

/-- A sill reads what was written to it. -/
@[simp] theorem sill_setSill_same (s : State) (k : Nat) (x : Sill) : (s.setSill k x).sill k = x := by
  simp [State.sill, State.setSill]

/-- Every other sill reads what it read before. -/
theorem sill_setSill_other (s : State) {i k : Nat} (x : Sill) (h : i ≠ k) : (s.setSill k x).sill i = s.sill i := by
  simp [State.sill, State.setSill, storeGet_set_other _ _ _ h]

/-- Writing one sill twice changes it alone, to what was written last. -/
theorem onlySill_setSill_twice (s : State) (k : Nat) (x y : Sill) : s.onlySill ((s.setSill k x).setSill k y) k y :=
  ⟨sill_setSill_same _ k y, fun _ h => by rw [sill_setSill_other _ _ h, sill_setSill_other _ _ h], rfl⟩

/-- R110, R112: a sill that runs and has room lets an entry in. -/
theorem arrive_of_room {s : State} {k lane : Nat} {e : QEntry} (hruns : s.sillRuns k = true) (hroom : s.sillFill k < 16) :
    s.arrive k lane e = s.enter k e := by
  simp [State.arrive, hruns, hroom]

/-- R115, R119: an entry with its lead of 30 ticks or more, for which the sill holds no lane item, is queued as it is. -/
theorem onlySill_enter {s : State} {k : Nat} {e : QEntry} (hheld : (s.sill k).held = []) (hlead : 960 ≤ stampDiff e.time s.now) :
    s.onlySill (s.enter k e) k { s.sill k with queue := insertEntry s.now e (s.sill k).queue } := by
  have hjudge (x : Sill) : (s.setSill k x).judgeLead k e = (some e, s.setSill k x) := if_pos hlead
  have hsame : { s.sill k with held := [] } = s.sill k := by rw [← hheld]
  have henter : s.enter k e = (s.setSill k (s.sill k)).queueEntry k e := by
    simp [State.enter, hheld, heldFor, State.enterJudged, hjudge, hsame]
  rw [henter, State.queueEntry, sill_setSill_same]
  exact onlySill_setSill_twice s k _ _

/-- R108, R119: the only commit on its way is the slot's, its sill takes the action, runs and has room: the entry enters,
whoever owns the sill. -/
theorem entryArrival_tracker {s : State} {m : Fin 8} {slot : Fin 256} {e : LaunchItem} {k : Nat} {c : QEntry}
    (hcommits : s.commits = [(k, c)]) (hslot : c.held = some (m.val, slot.val)) (hact : s.refuseAction k c = none)
    (hruns : s.sillRuns k = true) (hroom : s.sillFill k < 16) :
    exec (.entryArrival (.tracker m slot) e) s = .next (({ s with commits := [] } : State).enter k c) := by
  have hfind : s.commits.find? (fun d => ofSlot m.val slot.val d.2.held) = some (k, c) := by
    simp [hcommits, hslot, ofSlot, Nat.mod_eq_of_lt slot.isLt]
  have herase : s.commits.erase (k, c) = [] := by simp [hcommits]
  have hact' : ({ s with commits := [] } : State).refuseAction k c = none := refuseAction_none_congr (s := s) rfl rfl rfl hact
  have harrive : ({ s with commits := [] } : State).arrive k (laneTracker (c.src % 64)) c = _ := arrive_of_room hruns hroom
  change execEntryArrival (.tracker m slot) e s = _
  simp only [execEntryArrival, hfind, State.commitCame, herase, hact', harrive]

/-- Settles O11: an item for a sill of another owner reaches the ownership check, since its lane is free and its action is not
refused, and does nothing behind it; a commit's way to the queue has no such check. -/
theorem foreignLaunchItemsAreDiscarded : Obligations.ForeignLaunchItemsAreDiscarded := by
  intro q n m slot e tag stamp all c rest s k target post discarded entry
  refine ⟨fun hown hplain hwait => ⟨fun hpost htarget hact => ?_, fun hpost => ?_, fun hpost => ?_⟩,
    fun hcommits hslot hact hruns hroom hheld hlead => ?_⟩
  · exact ⟨_, entryArrival_seq_foreign hown hplain hwait hpost htarget hact, rfl⟩
  · exact ⟨_, sillAmend_foreign (sillOf_ofNat n) hown hplain hwait hpost, rfl⟩
  · exact ⟨_, sillCancel_foreign (sillOf_ofNat n) hown hplain hwait hpost, rfl⟩
  · exact ⟨_, entryArrival_tracker hcommits hslot hact hruns hroom, onlySill_enter hheld hlead⟩

end Sys2Proof.Machine
